-- ==== Sys2Proof/Word.lean ====
section
/-! DEFINITION. The byte of the roof link and the plainest arithmetic of the manual's conventions
(00_scope.md, "Arithmetic"): saturation, clamping, and the one way a fixed-length table is built. -/

namespace Sys2Proof

/-- One character's byte on the roof link (R1). -/
abbrev Byte := BitVec 8

/-- A unit's record index: the unit address less 1 (addresses 1..32). -/
abbrev UnitIx := Fin 32

/-- A stage slot index: C1..C4 are 0..3 and H1..H3 are 4..6 (R16, 11.2). -/
abbrev Slot := Fin 7

/-- A sum that holds at its maximum instead of wrapping (00_scope.md, "Arithmetic"). -/
def satAdd (maximum a b : Nat) : Nat := min maximum (a + b)

/-- `v` moved into `low..high` (R24, R48). -/
def clampInt (low high v : Int) : Int := if v < low then low else if high < v then high else v

/-- The table of `n` entries whose entry `i` is `f i`; the one way this model builds a table. -/
def tabulate {α : Type} {n : Nat} (f : Fin n → α) : Vector α n :=
  ⟨(List.ofFn f).toArray, by simp⟩

end Sys2Proof
end

