-- ==== Sys2Proof/Syntax.lean ====
section
/-! DEFINITION. The commands the supervisor takes from outside: one constructor of `Instr` for each row of
spec/opcode_table.json, in the table's order, with the operands the event brings. A job's arguments are in
the JOB frame that waits in the job queue (R155), so the job rows have no operand of their own. -/

namespace Sys2Proof

/-- The two serial line ports (00_scope.md). -/
inductive Port where
  | controller
  | trunk
  deriving DecidableEq, Repr

/-- The three discrete inputs (R175). -/
inductive InputLine where
  | intervalSync
  | drContact
  | roofShutdown
  deriving DecidableEq, Repr

/-- A complete frame as the receiver hands it on: ADDR, TAG, KIND, FLAGS and payload (R3, R8). -/
structure Frame where
  addr : Byte
  tag : Byte
  kind : Byte
  flags : Byte
  payload : List Byte
  deriving DecidableEq, Repr

/-- A character on a line: good, or framed badly (R1). -/
inductive LinkChar where
  | good (b : Byte)
  | badlyFramed
  deriving DecidableEq, Repr

/-- One command for each row of the opcode table. -/
inductive Instr where
  /-- POWER_UP (R174). -/
  | powerUp
  /-- RESET_LINE (R9). -/
  | resetLine
  /-- CONTROLLER_FRAME_RECEIVED (R12): the good frame that completes. -/
  | controllerFrameReceived (f : Frame)
  /-- GAP_TIMEOUT (R6): on which port. -/
  | gapTimeout (p : Port)
  /-- BREAK (R7): on which port. -/
  | lineBreak (p : Port)
  /-- REPLY_TRANSMIT_START (R10). -/
  | replyTransmitStart
  /-- REPLY_TRANSMIT_END (R20). -/
  | replyTransmitEnd
  /-- TRUNK_ARBITRATION (R33). -/
  | trunkArbitration
  /-- TURNAROUND_END (R11). -/
  | turnaroundEnd
  /-- ATTEMPT_SENT (R26). -/
  | attemptSent
  /-- TRUNK_FRAME_RECEIVED (R27): the good frame that completes. -/
  | trunkFrameReceived (f : Frame)
  /-- REPLY_TIMEOUT (R28). -/
  | replyTimeout
  /-- SECONDS_TICK (R49). -/
  | secondsTick
  /-- OFF_WINDOWS_ELAPSED (R62): of which stage. -/
  | offWindowsElapsed (u : UnitIx) (i : Slot)
  /-- MINIMUM_ON_END (R67): of which stage. -/
  | minimumOnEnd (u : UnitIx) (i : Slot)
  /-- BLANKING_WINDOW_END (R66): of which unit. -/
  | blankingWindowEnd (u : UnitIx)
  /-- ENTRY_AGING (R86). -/
  | entryAging
  /-- ADMISSION_PASS (R89). -/
  | admissionPass
  /-- STAGGER_TIMER_END (R92). -/
  | staggerTimerEnd
  /-- DEMAND_SAMPLE (R98). -/
  | demandSample
  /-- SHED_REACTION (R122). -/
  | shedReaction
  /-- STEP_TIMER_END (R122). -/
  | stepTimerEnd
  /-- RESTORE_HOLD_END (R123). -/
  | restoreHoldEnd
  /-- DR_EVENT_EXPIRY (R118). -/
  | drEventExpiry
  /-- INPUT_LINE_CHANGE (R175): which line, and the level it takes (true: closed). -/
  | inputLineChange (l : InputLine) (closed : Bool)
  /-- DEBOUNCE_EXPIRY (R175): of which input. -/
  | debounceExpiry (l : InputLine)
  /-- IDENTIFY (R157). -/
  | identify
  /-- READ_ROOF (R157). -/
  | readRoof
  /-- READ_UNIT (R157). -/
  | readUnit
  /-- READ_STAGE (R157). -/
  | readStage
  /-- READ_QUEUE (R157). -/
  | readQueue
  /-- READ_HISTORY (R157). -/
  | readHistory
  /-- READ_ERRORS (R156). -/
  | readErrors
  /-- CLEAR_PEAK (R109). -/
  | clearPeak
  /-- READ_NOTICES (R172). -/
  | readNotices
  /-- ACK_NOTICES (R172). -/
  | ackNotices
  /-- READ_CAPTURES (R147). -/
  | readCaptures
  /-- DISCARD_CAPTURES (R147). -/
  | discardCaptures
  /-- CLEAR_TRIP (R144). -/
  | clearTrip
  /-- FORCE_STAGE (R153). -/
  | forceStage
  /-- ISOLATE (R47). -/
  | isolate
  /-- RESTORE (R47). -/
  | restore
  /-- DR_BEGIN (R117). -/
  | drBegin
  /-- DR_END (R118). -/
  | drEnd
  /-- OPEN_EDIT (R160). -/
  | openEdit
  /-- SELECT (R161). -/
  | selectTable
  /-- SEEK (R161). -/
  | seek
  /-- WRITE (R162). -/
  | writeRecord
  /-- EXCHANGE (R162). -/
  | exchange
  /-- READ_AT (R162). -/
  | readAt
  /-- APPLY (R163). -/
  | applyTables
  /-- ABANDON (R160). -/
  | abandon
  /-- STORE_CONFIG (R165). -/
  | storeConfig
  /-- RESTART (R167). -/
  | restart
  /-- SESSION_IDLE_EXPIRY (R160). -/
  | sessionIdleExpiry
  /-- STORE_END (R165): whether the written image read back equal to the snapshot. -/
  | storeEnd (readBackEqual : Bool)
  /-- CHARACTER_RECEIVED (R5): on which port, and the character. -/
  | characterReceived (p : Port) (c : LinkChar)
  /-- POWER_LOSS (R165). -/
  | powerLoss
  /-- BAD_JOB_CODE (R155). -/
  | badJobCode
  deriving DecidableEq, Repr

end Sys2Proof
end

