-- ==== Sys2Proof/WellFormed.lean ====
section
/-! DEFINITION. Which commands the roof link can bring: a frame's payload is at most 48 bytes (R3), so that
its LEN byte lies in 4..52. Every other operand is well formed by its type. -/

namespace Sys2Proof

/-- R3: PAYLOAD is LEN − 4 bytes, 0..48. -/
def Frame.wellFormed (f : Frame) : Bool := f.payload.length ≤ 48

/-- The commands that can occur: the two frame events bring a well-formed frame. -/
def Instr.wellFormed : Instr → Bool
  | .controllerFrameReceived f => f.wellFormed
  | .trunkFrameReceived f => f.wellFormed
  | .powerUp | .resetLine | .gapTimeout _ | .lineBreak _ | .replyTransmitStart | .replyTransmitEnd
  | .trunkArbitration | .turnaroundEnd | .attemptSent | .replyTimeout | .secondsTick
  | .offWindowsElapsed _ _ | .minimumOnEnd _ _ | .blankingWindowEnd _ | .entryAging | .admissionPass
  | .staggerTimerEnd | .demandSample | .shedReaction | .stepTimerEnd | .restoreHoldEnd | .drEventExpiry
  | .inputLineChange _ _ | .debounceExpiry _ | .identify | .readRoof | .readUnit | .readStage | .readQueue
  | .readHistory | .readErrors | .clearPeak | .readNotices | .ackNotices | .readCaptures | .discardCaptures
  | .clearTrip | .forceStage | .isolate | .restore | .drBegin | .drEnd | .openEdit | .selectTable | .seek
  | .writeRecord | .exchange | .readAt | .applyTables | .abandon | .storeConfig | .restart
  | .sessionIdleExpiry | .storeEnd _ | .characterReceived _ _ | .powerLoss | .badJobCode => true

end Sys2Proof
end

