-- ==== Sys2Proof/Decode.lean ====
section
/-! DEFINITION. The command that a word spells by the opcode table's bits. No row of this table gives bits
(98_reader.md: "n_rows_with_fixed": 0, "n_rows_with_fields": 0), so no word spells a command. -/

namespace Sys2Proof

/-- No row of spec/opcode_table.json gives bits, so every word is refused. -/
def decodeTableWord (_nbits _w : Nat) : Option Instr := none

end Sys2Proof
end

