-- ==== Sys2Proof/Machine/Bytes.lean ====
section
/-! DEFINITION. Byte order and signed fields on the roof link (00_scope.md, chapter 11): multi-byte fields
are little-endian, signed fields two's complement. -/

namespace Sys2Proof.Machine

/-- The byte at an offset; 0 beyond the end (never read there by a length-checked reader). -/
def byteAt (l : List Byte) (i : Nat) : Byte := l.getD i 0

/-- An unsigned byte field. -/
def u8At (l : List Byte) (i : Nat) : Nat := (byteAt l i).toNat

/-- An unsigned 16-bit field, low byte first. -/
def u16At (l : List Byte) (i : Nat) : Nat := u8At l i + 256 * u8At l (i + 1)

/-- An unsigned 32-bit field, low byte first. -/
def u32At (l : List Byte) (i : Nat) : Nat := u16At l i + 65536 * u16At l (i + 2)

/-- A signed byte field. -/
def s8At (l : List Byte) (i : Nat) : Int := (byteAt l i).toInt

/-- A signed 16-bit field, low byte first. -/
def s16At (l : List Byte) (i : Nat) : Int := (BitVec.ofNat 16 (u16At l i)).toInt

/-- One unsigned byte (the low eight bits of the value). -/
def le8 (n : Nat) : List Byte := [BitVec.ofNat 8 n]

/-- Two bytes, low byte first. -/
def le16 (n : Nat) : List Byte := [BitVec.ofNat 8 n, BitVec.ofNat 8 (n / 256)]

/-- Four bytes, low byte first. -/
def le32 (n : Nat) : List Byte :=
  [BitVec.ofNat 8 n, BitVec.ofNat 8 (n / 256), BitVec.ofNat 8 (n / 65536), BitVec.ofNat 8 (n / 16777216)]

/-- A signed byte. -/
def leInt8 (v : Int) : List Byte := [BitVec.ofInt 8 v]

/-- A signed 16-bit field, low byte first. -/
def leInt16 (v : Int) : List Byte := le16 (BitVec.ofInt 16 v).toNat

/-- A signed 32-bit field, low byte first. -/
def leInt32 (v : Int) : List Byte := le32 (BitVec.ofInt 32 v).toNat

/-- A flag sent as 0 for clear or 1 for set (11.9; in a table record DESIGN CHOICE: log entry 52). -/
def leBool (b : Bool) : List Byte := [if b then 1 else 0]

/-- A byte made of bits, bit 0 first. -/
def packBits (l : List Bool) : Byte :=
  BitVec.ofNat 8 (l.foldr (fun b n => (if b then 1 else 0) + 2 * n) 0)

end Sys2Proof.Machine
end

