-- ==== Sys2Proof/Machine/Tables.lean ====
section
/-! DEFINITION. The nine live tables as data (R159): what a record of each holds. -/

namespace Sys2Proof.Machine

/-- The kind of a stage, a profile or a start-queue entry (R58, R81). -/
inductive Kind where
  | cool
  | heat
  deriving DecidableEq, Repr

/-- R97: the sync mode. -/
inductive SyncMode where
  | freeRun
  | meterSync
  deriving DecidableEq, Repr

/-- R136: the mode of a trip policy. -/
inductive TripMode where
  | auto
  | latched
  deriving DecidableEq, Repr

/-- R148: the quantity a band watches. -/
inductive Quantity where
  | supply
  | ret
  | space
  | outside
  | delta
  | damper
  deriving DecidableEq, Repr

/-- R148: when a band applies. -/
inductive AppliesWhen where
  | any
  | coolingOn
  | heatingOn
  deriving DecidableEq, Repr

/-- R148: a band's action. -/
inductive BandAction where
  | notice
  | inhibit
  | trip
  deriving DecidableEq, Repr

/-- R169: the class of a notice kind. -/
inductive NoticeClass where
  | report
  | quiet
  | off
  deriving DecidableEq, Repr

/-- R177: an output's mode. -/
inductive OutputMode where
  | off
  | on
  | follow
  deriving DecidableEq, Repr

/-- R177: the condition an output follows. -/
inductive OutputCondition where
  | shedActive
  | drActive
  | anyLatched
  | attention
  | syncMissing
  | anyOffline
  deriving DecidableEq, Repr

/-- R136: one trip policy. -/
structure Policy where
  mode : TripMode
  strikeLimit : Nat
  blankable : Bool
  deriving DecidableEq, Repr

/-- R159: the ROOF record. Rates are held as their codes (11.8). -/
structure RoofRec where
  intervalLength : Nat
  syncMode : SyncMode
  syncGrace : Nat
  ceiling : Nat
  restoreHysteresis : Nat
  admissionReserve : Nat
  stepTime : Nat
  restoreHold : Nat
  drDefaultCeiling : Nat
  staggerTime : Nat
  agingTime : Nat
  replyTimeout : Nat
  retryCount : Nat
  offlineThreshold : Nat
  refreshInterval : Nat
  offlinePollInterval : Nat
  staleLimit : Nat
  controllerRate : Nat
  trunkRate : Nat
  strikeWindow : Nat
  bandPolicy : Policy
  coolLow : Int
  coolHigh : Int
  heatLow : Int
  heatHigh : Int
  swapThreshold : Nat
  deriving DecidableEq, Repr

/-- R40: one record of the UNIT table, the configuration half of a unit record. -/
structure UnitCfg where
  fitted : Bool
  priority : Fin 4
  baseRating : Nat
  powerLimit : Nat
  bind : Vector (Option (Fin 8)) 7
  group : Option (Fin 8)
  leadLag : Bool
  offSupply : Int
  offReturn : Int
  offSpace : Int
  offOutside : Int
  deriving DecidableEq, Repr

/-- R58: one stage profile. -/
structure Profile where
  kind : Kind
  rating : Nat
  minOn : Nat
  minOff : Nat
  startToStart : Nat
  blanking : Nat
  inrush : Bool
  deriving DecidableEq, Repr

/-- R125: one record of the SHED table: a cap for each priority class and the gating mask. -/
structure ShedRec where
  caps : Vector Nat 4
  mask : BitVec 8
  deriving DecidableEq, Repr

/-- R128: one rotation group; `follow` is none for OWN. -/
structure RotationRec where
  onTime : Nat
  offTime : Nat
  follow : Option (Fin 8)
  deriving DecidableEq, Repr

/-- R148: one supervision band; bit u−1 of the mask is unit u's. -/
structure BandRec where
  quantity : Quantity
  applies : AppliesWhen
  mask : BitVec 32
  low : Int
  high : Int
  hysteresis : Nat
  settle : Nat
  action : BandAction
  deriving DecidableEq, Repr

/-- R177: one output's record. -/
structure OutputRec where
  mode : OutputMode
  condition : OutputCondition
  deriving DecidableEq, Repr

/-- R159: the nine tables. -/
structure Tables where
  roof : RoofRec
  units : Vector UnitCfg 32
  profiles : Vector Profile 8
  shed : Vector ShedRec 7
  rotation : Vector RotationRec 8
  bands : Vector BandRec 16
  policies : Vector Policy 6
  noticeClass : Vector NoticeClass 24
  outputs : Vector OutputRec 4
  deriving DecidableEq, Repr

/-- R159: a table's name. -/
inductive TableId where
  | roof
  | unit
  | profile
  | shed
  | rotation
  | band
  | policy
  | noticeClass
  | output
  deriving DecidableEq, Repr

end Sys2Proof.Machine
end

