-- ==== Sys2Proof/Machine/Blocks.lean ====
section
/-! DEFINITION. The state each block of the supervisor holds, block by block (00_scope.md, "Block
overview"): the stage and unit records, the start queue, the injection set, the notice and capture lists,
the demand meter, the shed and rotation state, the ports and queues, the job processor, the discrete lines. -/

namespace Sys2Proof.Machine

/-! ## Stages and units -/

/-- The ten stage states, in the order of the states table of section 4.2. -/
inductive StageState where
  | notFitted
  | offLocked
  | offReady
  | queued
  | starting
  | runMin
  | running
  | trippedAuto
  | trippedLatched
  | inLocal
  deriving DecidableEq, Repr

/-- R60, R153: the manual force of a slot. -/
inductive Force where
  | none
  | forceOff
  | forceOn
  deriving DecidableEq, Repr

/-- R60: one stage record. Its active trip set is read from the unit's cause list (R137). -/
structure Stage where
  state : StageState
  stopPending : Bool
  startTime : Option Nat
  stopTime : Option Nat
  minOnEnd : Option Nat
  minOffEnd : Option Nat
  startToStartEnd : Option Nat
  force : Force
  deriving DecidableEq, Repr

/-- R65: a running blanking window. -/
structure Window where
  anchor : Nat
  length : Nat
  deriving DecidableEq, Repr

/-- A stage map or run map (00_scope.md, 11.2): bit i is slot i's; `fan` is ON or running. -/
structure StageMap where
  slots : BitVec 7
  fan : Bool
  deriving DecidableEq, Repr

/-- R42: the call record. An empty call record is read as `Call.empty` (Initial.lean). -/
structure Call where
  cool : Nat
  heat : Nat
  coolClamped : Bool
  heatClamped : Bool
  fanOn : Bool
  economizer : Bool
  occupied : Bool
  age : Nat
  deriving DecidableEq, Repr

/-- R48, 11.3: the folded status record with its age. A temperature without a value is `none`. -/
structure Status where
  mode : Byte
  hand : Bool
  run : StageMap
  circuitFaults : BitVec 16
  unitFaults : Byte
  supply : Option Int
  ret : Option Int
  space : Option Int
  outside : Option Int
  damper : Nat
  power : Nat
  age : Nat
  deriving DecidableEq, Repr

/-- The unit states of section 3.2. -/
inductive UnitState where
  | absent
  | unadopted
  | online
  | offline
  | inLocal
  deriving DecidableEq, Repr

/-- R135: the nine trip classes, in the order of their codes (11.7). -/
inductive TripClass where
  | hp
  | lp
  | ovc
  | frz
  | flm
  | fpf
  | smk
  | band
  | shutdown
  deriving DecidableEq, Repr

/-- R137: an active cause. `position` is the circuit slot or the band number. `applies` is the
applies-when of the band at the entry of a BAND cause, which fixes its scope (log entry 9); `any` for the
other classes. -/
structure Cause where
  tripClass : TripClass
  position : Option Nat
  applies : AppliesWhen
  latched : Bool
  present : Bool
  entryTime : Nat
  deriving DecidableEq, Repr

/-- R142: the strike times of one class and position of a unit, oldest first. -/
structure StrikeList where
  tripClass : TripClass
  position : Option Nat
  times : List Nat
  deriving DecidableEq, Repr

/-- R149: the state of a band and unit pair. -/
inductive PairState where
  | notApplicable
  | inside
  | outside
  deriving DecidableEq, Repr

/-- R149: a band and unit pair with its applicability anchor. -/
structure BandPair where
  state : PairState
  anchor : Option Nat
  deriving DecidableEq, Repr

/-- R41, R60, R137, R142, R149, R128: everything the supervisor keeps of one unit beside its UNIT record. -/
structure UnitRec where
  state : UnitState
  isolated : Bool
  failures : Nat
  call : Call
  target : StageMap
  ack : StageMap
  status : Option Status
  fresh : Bool
  notProven : Vector Nat 7
  lead : List Slot
  runHours : Vector Nat 4
  stages : Vector Stage 7
  window : Option Window
  fanForce : Bool
  causes : List Cause
  strikes : List StrikeList
  pairs : Vector BandPair 16
  gateClosed : Bool
  deriving DecidableEq, Repr

/-! ## The start queue, the admission unit and the injection set -/

/-- R81: the last skip reason of an entry. -/
inductive SkipReason where
  | none
  | lockout
  | manualOnly
  | changeover
  | shedCap
  | gated
  | stagger
  | demand
  deriving DecidableEq, Repr

/-- R81: a start-queue entry. -/
structure Entry where
  unit : UnitIx
  kind : Kind
  baseClass : Nat
  currentClass : Nat
  sequence : Nat
  joinTime : Nat
  skip : SkipReason
  deriving DecidableEq, Repr

/-- What the stage sequencer and the admission unit change: the unit records, the start queue with the
sequence counter, the roof stagger timer, the uncounted grant sum G (chapter 5), and the injection set in
its two orders (R31). `passDue` is the model's own: an entry has joined an empty queue in the event under
way, so an admission pass follows the event (R83, R89). -/
structure Plant where
  units : Vector UnitRec 32
  queue : List Entry
  sequence : Nat
  passDue : Bool
  staggerEnd : Option Nat
  grantSum : Nat
  /-- R31: the units with a pending injection, in creation order. -/
  injections : List UnitIx
  /-- R31: the units whose pending injection is marked protection, in the order of their marks. -/
  protection : List UnitIx
  deriving DecidableEq, Repr

/-! ## Notices and captures -/

/-- R168: the 24 notice kinds, in the order of their codes (11.7). -/
inductive NoticeKind where
  | powerUp
  | configDefaulted
  | trip
  | tripCleared
  | latchEscalated
  | unitOffline
  | unitOnline
  | unitLocal
  | unitRemote
  | shedLevel
  | drBegin
  | drEnd
  | intervalClosed
  | syncMissing
  | bandOut
  | bandIn
  | powerClamped
  | notProven
  | leadSwapped
  | applyDone
  | storeDone
  | storeFailed
  | captureOverwritten
  | listOverflow
  deriving DecidableEq, Repr

/-- R168: a notice record. -/
structure Notice where
  kind : NoticeKind
  unit : Nat
  index : Option Nat
  firstTime : Nat
  lastTime : Nat
  count : Nat
  value : Option Int
  deriving DecidableEq, Repr

/-- R146: a capture record. -/
structure Capture where
  time : Nat
  unit : Nat
  tripClass : TripClass
  slot : Option Nat
  sinceStart : Option Nat
  power : Option Nat
  forecast : Nat
  level : Nat
  deriving DecidableEq, Repr

/-- The plant with the two lists that record what happens to it. -/
structure Roof where
  plant : Plant
  notices : List Notice
  captures : List Capture
  deriving DecidableEq, Repr

/-! ## The demand meter, the shed controller, the rotation unit -/

/-- R104, R105: what closed an interval. -/
inductive CloseCause where
  | freeRun
  | sync
  | syncMissing
  deriving DecidableEq, Repr

/-- R108: a history record. -/
structure HistoryRec where
  average : Nat
  length : Nat
  peak : Nat
  shedPeak : Nat
  cause : CloseCause
  deriving DecidableEq, Repr

/-- R109: the peak-interval record. -/
structure PeakRec where
  average : Nat
  closeTime : Nat
  deriving DecidableEq, Repr

/-- R97: the demand meter: t, E, P, Pk, F, the interval shed peak, the history and the peak record, with the
forecast that the latest sample left, which the shed controller reacts to (R122). -/
structure Meter where
  clock : Nat
  energy : Nat
  power : Nat
  peak : Nat
  forecast : Nat
  shedPeak : Nat
  history : List HistoryRec
  peakRecord : Option PeakRec
  sampleForecast : Nat
  deriving DecidableEq, Repr

/-- R121, R123: the restore hold timer: idle, running, or with its end reached and not yet acted on. -/
inductive HoldTimer where
  | idle
  | running (endTime : Nat)
  | reached (endTime : Nat)
  deriving DecidableEq, Repr

/-- R117: the active job event. -/
structure JobEvent where
  ceiling : Nat
  beginTime : Nat
  endTime : Nat
  deriving DecidableEq, Repr

/-- R121: the shed controller. `contact` holds the time from which the contact event is present (R119). -/
structure Shed where
  level : Nat
  stepEnd : Option Nat
  hold : HoldTimer
  jobEvent : Option JobEvent
  contact : Option Nat
  ceiling : Nat
  deriving DecidableEq, Repr

/-- R128, R129: for each rotation group its carrier epoch, `none` while the group is not gated. -/
abbrev Rotation := Vector (Option Nat) 8

/-- What the sequencer, the admission unit and the protection unit read of the other blocks. -/
structure Env where
  now : Nat
  tables : Tables
  meter : Meter
  shed : Shed
  rotation : Rotation
  deriving DecidableEq, Repr

/-! ## The ports, the queues and the trunk -/

/-- R5: a receiver with what each of its four states holds. -/
inductive Receiver where
  | hunt
  | length
  | body (len : Nat) (bytes : List Byte) (check : BitVec 16)
  | check (bytes : List Byte) (check : BitVec 16) (low : Option Byte)
  deriving DecidableEq, Repr

/-- R10: a frame's characters on a line, with the rate they go at (R2). -/
structure Sending where
  bytes : List Byte
  rate : Nat
  deriving DecidableEq, Repr

/-- R20: a frame of the reply queue; `restart` marks the reply to an accepted RESTART (R167). -/
structure Reply where
  frame : Frame
  restart : Bool
  deriving DecidableEq, Repr

/-- R33: what a transaction was chosen from. -/
inductive Origin where
  | relay
  | injection
  | poll
  deriving DecidableEq, Repr

/-- The request a transaction carries. A `raw` request goes down as received (R36); `setpoint` carries the
clamped setpoints (R24). -/
inductive Request where
  | stageMap (u : UnitIx)
  | statusRead (u : UnitIx)
  | setpoint (addr : Byte) (cool heat : Int)
  | raw (addr kind flags : Byte) (payload : List Byte)
  deriving DecidableEq, Repr

/-- R26, R28, R29: the transaction in flight. `unit` is the addressed unit record, none for a foreign or
broadcast address; `unreported` says that the unit was ABSENT at the first attempt or was made ABSENT by an
installation since; `single` that the unit was OFFLINE at the start. The tag, the retry count and the
timeout are those read at the latest attempt. -/
structure Transaction where
  origin : Origin
  request : Request
  unit : Option UnitIx
  unreported : Bool
  single : Bool
  attempt : Nat
  tag : Byte
  retryCount : Nat
  replyTimeout : Nat
  deriving DecidableEq, Repr

/-- R26: the trunk port's transaction states. SENDING holds the attempt's characters. -/
inductive TrunkPort where
  | free
  | ready (t : Transaction)
  | sending (t : Transaction) (out : Sending)
  | awaiting (t : Transaction)
  deriving DecidableEq, Repr

/-- R33: the last-served marker. -/
inductive Marker where
  | relay
  | injection
  deriving DecidableEq, Repr

/-- The two ports and the queues of the request path (chapters 1 and 2). `quiet` says that the turnaround
wait of R11 is satisfied. -/
structure Link where
  controllerRate : Nat
  trunkRate : Nat
  controllerRx : Receiver
  trunkRx : Receiver
  transmitting : Option Sending
  replies : List Reply
  relay : List Frame
  jobs : List Frame
  quiet : Bool
  trunk : TrunkPort
  tag : Byte
  marker : Marker
  cursor : UnitIx
  lastPoll : Vector Nat 32
  deriving DecidableEq, Repr

/-! ## The job processor -/

/-- R160: the edit session's state. -/
inductive SessionState where
  | closed
  | opened
  | applying
  deriving DecidableEq, Repr

/-- R166: the configuration state. -/
inductive ConfigState where
  | stored
  | defaulted
  | modified
  deriving DecidableEq, Repr

/-- R160, R161: the edit session. The shadow of a selected table is that table's part of `shadows`; the
parts of tables not selected are never read. -/
structure Session where
  state : SessionState
  selected : List TableId
  shadows : Tables
  current : Option TableId
  cursor : Nat
  idleEnd : Option Nat
  deriving DecidableEq, Repr

/-- R156: an error list entry. -/
structure ErrorEntry where
  job : Byte
  error : Byte
  time : Nat
  deriving DecidableEq, Repr

/-- R165: a store in progress: the snapshot, and whether an installation was made since its acceptance. -/
structure Store where
  snapshot : Tables
  installedSince : Bool
  deriving DecidableEq, Repr

/-- The job processor. `image` is the stored image: its nine tables while its CRC is good, `none` while its
CRC is bad (log entry 3). `restarting` is set from the acceptance of RESTART to the reset (R167). -/
structure Jobs where
  session : Session
  errors : List ErrorEntry
  store : Option Store
  image : Option Tables
  config : ConfigState
  restarting : Bool
  deriving DecidableEq, Repr

/-! ## The discrete lines -/

/-- R175: one discrete input: the line's own level, the debounced level (true: closed), and whether the
50 ms debounce timer runs. -/
structure Input where
  line : Bool
  debounced : Bool
  timing : Bool
  deriving DecidableEq, Repr

/-- R175, R177, R178: the discrete line unit: the inputs, the sync-missing flag and the four output relays
(true: energised). -/
structure Lines where
  intervalSync : Input
  drContact : Input
  roofShutdown : Input
  syncMissing : Bool
  outputs : Vector Bool 4
  deriving DecidableEq, Repr

end Sys2Proof.Machine
end

