-- ==== Sys2Proof/Machine/Codes.lean ====
section
/-! DEFINITION. The code encodings of chapter 11: error codes, frame kinds, reasons, states, classes. -/

namespace Sys2Proof.Machine

/-! ## Frame kinds (R13) -/

/-- STAGE_CALL (R13). -/
def kStageCall : Byte := 0x01
/-- STATUS_READ (R13). -/
def kStatusRead : Byte := 0x02
/-- SETPOINT_WRITE (R13). -/
def kSetpointWrite : Byte := 0x03
/-- STAGE_MAP (R13). -/
def kStageMap : Byte := 0x04
/-- JOB (R13). -/
def kJob : Byte := 0x10
/-- The passthrough kinds 0x20..0x3F (R13). -/
def isPassthrough (k : Byte) : Bool := 0x20 ≤ k.toNat && k.toNat ≤ 0x3F
/-- R14: a reply carries its request's KIND with the reply bit added. -/
def replyKind (k : Byte) : Byte := k ||| 0x80
/-- R3: the reply bit is KIND's top bit. -/
def hasReplyBit (k : Byte) : Bool := k.getLsbD 7

/-! ## Error codes (11.5) -/

def eBusy : Byte := 0x01
def eNoRoute : Byte := 0x02
def eNotFitted : Byte := 0x03
def eCallConflict : Byte := 0x04
def eIsolated : Byte := 0x05
def eBroadcastStage : Byte := 0x06
def eNoReply : Byte := 0x07
def eBadJob : Byte := 0x10
def eBadArgument : Byte := 0x11
def eNoSession : Byte := 0x20
def eSessionOpen : Byte := 0x21
def eApplyPending : Byte := 0x22
def eInvalidTable : Byte := 0x23
def eInUse : Byte := 0x30
def eStoreBusy : Byte := 0x31
def eConditionPresent : Byte := 0x40

/-! ## Reasons (11.4) -/

/-- R17: the reason a trailer gives for a kind. -/
inductive Reason where
  | none
  | clamped
  | queued
  | lockout
  | stagger
  | demand
  | shedCap
  | gated
  | changeover
  | tripped
  | manual
  | inLocal
  | isolated
  | offline
  | adopting
  | heldMinOn
  deriving DecidableEq, Repr

/-- 11.4: the reason codes 0..15. -/
def Reason.code : Reason → Nat
  | .none => 0 | .clamped => 1 | .queued => 2 | .lockout => 3 | .stagger => 4 | .demand => 5
  | .shedCap => 6 | .gated => 7 | .changeover => 8 | .tripped => 9 | .manual => 10 | .inLocal => 11
  | .isolated => 12 | .offline => 13 | .adopting => 14 | .heldMinOn => 15

/-- 11.4: the skip reasons use the reason codes, with MANUAL_ONLY as 16. -/
def SkipReason.code : SkipReason → Nat
  | .none => 0 | .lockout => 3 | .stagger => 4 | .demand => 5 | .shedCap => 6 | .gated => 7
  | .changeover => 8 | .manualOnly => 16

/-! ## States and classes -/

/-- 11.4: the unit state codes. -/
def UnitState.code : UnitState → Nat
  | .absent => 0 | .unadopted => 1 | .online => 2 | .offline => 3 | .inLocal => 4

/-- 11.9, READ_STAGE: the stage state codes, in the order of section 4.2. -/
def StageState.code : StageState → Nat
  | .notFitted => 0 | .offLocked => 1 | .offReady => 2 | .queued => 3 | .starting => 4
  | .runMin => 5 | .running => 6 | .trippedAuto => 7 | .trippedLatched => 8 | .inLocal => 9

/-- 11.9, READ_STAGE: the manual force codes. -/
def Force.code : Force → Nat
  | .none => 0 | .forceOff => 1 | .forceOn => 2

/-- 11.7: the trip class codes. -/
def TripClass.code : TripClass → Nat
  | .hp => 0 | .lp => 1 | .ovc => 2 | .frz => 3 | .flm => 4 | .fpf => 5 | .smk => 6 | .band => 7
  | .shutdown => 8

/-- 11.7: the notice kind codes. -/
def NoticeKind.code : NoticeKind → Fin 24
  | .powerUp => 0 | .configDefaulted => 1 | .trip => 2 | .tripCleared => 3 | .latchEscalated => 4
  | .unitOffline => 5 | .unitOnline => 6 | .unitLocal => 7 | .unitRemote => 8 | .shedLevel => 9
  | .drBegin => 10 | .drEnd => 11 | .intervalClosed => 12 | .syncMissing => 13 | .bandOut => 14
  | .bandIn => 15 | .powerClamped => 16 | .notProven => 17 | .leadSwapped => 18 | .applyDone => 19
  | .storeDone => 20 | .storeFailed => 21 | .captureOverwritten => 22 | .listOverflow => 23

/-- 11.9: the kind codes of a queue entry. -/
def Kind.code : Kind → Nat
  | .cool => 0 | .heat => 1

/-- 11.9: the close cause codes. -/
def CloseCause.code : CloseCause → Nat
  | .freeRun => 0 | .sync => 1 | .syncMissing => 2

/-- 11.9, IDENTIFY: the configuration state codes. -/
def ConfigState.code : ConfigState → Nat
  | .stored => 0 | .defaulted => 1 | .modified => 2

/-- 11.9, IDENTIFY: the session state codes. -/
def SessionState.code : SessionState → Nat
  | .closed => 0 | .opened => 1 | .applying => 2

/-- R159: the table codes. -/
def TableId.code : TableId → Nat
  | .roof => 0 | .unit => 1 | .profile => 2 | .shed => 3 | .rotation => 4 | .band => 5 | .policy => 6
  | .noticeClass => 7 | .output => 8

/-- R159, R161: the table a code names. -/
def TableId.ofCode (n : Nat) : Option TableId :=
  [TableId.roof, .unit, .profile, .shed, .rotation, .band, .policy, .noticeClass, .output][n]?

/-- The unit record of a unit address 1..32. -/
def unitOfAddr (a : Nat) : Option UnitIx :=
  if h : 1 ≤ a ∧ a ≤ 32 then some ⟨a - 1, by omega⟩ else none

/-- A unit's address. -/
def unitAddr (u : UnitIx) : Nat := u.val + 1

/-- The slot of a slot index 0..6. -/
def slotOfIndex (n : Nat) : Option Slot := if h : n < 7 then some ⟨n, h⟩ else none

end Sys2Proof.Machine
end

