-- ==== Sys2Proof/Machine/Frames.lean ====
section
/-! DEFINITION. The frame check, a frame's characters on the line, and the receiver's state machine
(R3 to R8). -/

namespace Sys2Proof.Machine

/-! ## The frame check (R4) -/

/-- R4: one shift of the check register toward its most significant end. -/
def crcShift (r : BitVec 16) : BitVec 16 := if r.msb then (r <<< 1) ^^^ 0x1021 else r <<< 1

/-- R4: eight shifts. -/
def crcShift8 (r : BitVec 16) : BitVec 16 :=
  crcShift (crcShift (crcShift (crcShift (crcShift (crcShift (crcShift (crcShift r)))))))

/-- R4: a byte is combined into the upper eight bits, then the register is shifted eight times. -/
def crcByte (r : BitVec 16) (b : Byte) : BitVec 16 := crcShift8 (r ^^^ (b ++ (0 : BitVec 8)))

/-- R4: the check of a run of bytes; the register starts at 0xFFFF and is not inverted. -/
def crcOf (l : List Byte) : BitVec 16 := l.foldl crcByte 0xFFFF

/-- The low byte of a check, sent first. -/
def crcLow (c : BitVec 16) : Byte := c.extractLsb' 0 8
/-- The high byte of a check. -/
def crcHigh (c : BitVec 16) : Byte := c.extractLsb' 8 8

/-! ## A frame on the line (R3) -/

/-- R3: the bytes LEN counts: ADDR, TAG, KIND, FLAGS and the payload. -/
def frameBody (f : Frame) : List Byte := f.addr :: f.tag :: f.kind :: f.flags :: f.payload

/-- R3: LEN. -/
def frameLen (f : Frame) : Byte := BitVec.ofNat 8 (f.payload.length + 4)

/-- R3, R4: a frame's characters: SYNC, LEN, ADDR, TAG, KIND, FLAGS, PAYLOAD, and the check over LEN through
the payload, low byte first. -/
def wireOf (f : Frame) : List Byte :=
  let c := crcOf (frameLen f :: frameBody f)
  0xA5 :: frameLen f :: (frameBody f ++ [crcLow c, crcHigh c])

/-- The frame whose counted bytes are given (R8). -/
def frameOfBody (l : List Byte) : Frame :=
  ⟨byteAt l 0, byteAt l 1, byteAt l 2, byteAt l 3, l.drop 4⟩

/-! ## The receiver (R5 to R8) -/

/-- R5: a good byte at a receiver: its next state, and the frame it hands on. -/
def Receiver.byte (r : Receiver) (b : Byte) : Receiver × Option Frame :=
  match r with
  | .hunt => (if b = 0xA5 then .length else .hunt, none)
  | .length =>
    (if 4 ≤ b.toNat ∧ b.toNat ≤ 52 then .body b.toNat [] (crcByte 0xFFFF b) else .hunt, none)
  | .body n l c =>
    let l' := l ++ [b]
    let c' := crcByte c b
    (if n ≤ l'.length then .check l' c' none else .body n l' c', none)
  | .check l c none => (.check l c (some b), none)
  | .check l c (some low) =>
    (.hunt, if low = crcLow c ∧ b = crcHigh c then some (frameOfBody l) else none)

/-- R5, R7: a character at a receiver. A character framed badly discards the frame in assembly. -/
def Receiver.char (r : Receiver) (c : LinkChar) : Receiver × Option Frame :=
  match c with
  | .good b => r.byte b
  | .badlyFramed => (.hunt, none)

/-- A receiver over a run of good bytes, with the frames it hands on, in order. -/
def Receiver.run (r : Receiver) : List Byte → Receiver × List Frame
  | [] => (r, [])
  | b :: rest =>
    ((Receiver.run (r.byte b).1 rest).1, (r.byte b).2.toList ++ (Receiver.run (r.byte b).1 rest).2)

end Sys2Proof.Machine
end

