-- ==== Sys2Proof/Machine/Factory.lean ====
section
/-! DEFINITION. The factory defaults of the nine tables (R40, R58, R125, R128, R136, R148, R159, R169, R177). -/

namespace Sys2Proof.Machine

/-- R159: the ROOF record's factory defaults. -/
def factoryRoof : RoofRec where
  intervalLength := 900
  syncMode := .freeRun
  syncGrace := 60
  ceiling := 65535
  restoreHysteresis := 200
  admissionReserve := 0
  stepTime := 60
  restoreHold := 300
  drDefaultCeiling := 65535
  staggerTime := 15
  agingTime := 900
  replyTimeout := 80
  retryCount := 1
  offlineThreshold := 3
  refreshInterval := 10
  offlinePollInterval := 10
  staleLimit := 30
  controllerRate := 1
  trunkRate := 0
  strikeWindow := 3600
  bandPolicy := ⟨.auto, 3, false⟩
  coolLow := 180
  coolHigh := 300
  heatLow := 100
  heatHigh := 260
  swapThreshold := 50

/-- R40: a UNIT record's factory defaults: not fitted, every slot NOT_FITTED. -/
def factoryUnit : UnitCfg where
  fitted := false
  priority := 3
  baseRating := 0
  powerLimit := 65535
  bind := tabulate fun _ => none
  group := none
  leadLag := false
  offSupply := 0
  offReturn := 0
  offSpace := 0
  offOutside := 0

/-- R58: the defaults of a COOL profile. -/
def factoryCool : Profile := ⟨.cool, 0, 180, 300, 600, 10, true⟩
/-- R58: the defaults of a HEAT profile. -/
def factoryHeat : Profile := ⟨.heat, 0, 60, 60, 0, 0, false⟩

/-- R125: the factory SHED table, levels 1..7. -/
def factoryShed : Vector ShedRec 7 := #v[
  ⟨#v[4, 4, 4, 3], 0x00⟩,
  ⟨#v[4, 4, 3, 2], 0x00⟩,
  ⟨#v[4, 3, 2, 1], 0x01⟩,
  ⟨#v[3, 2, 1, 1], 0x03⟩,
  ⟨#v[3, 2, 1, 0], 0x0F⟩,
  ⟨#v[2, 1, 0, 0], 0x3F⟩,
  ⟨#v[1, 0, 0, 0], 0xFF⟩]

/-- R136: the factory POLICY table, in the order HP, LP, OVC, FRZ, FLM, FPF. -/
def factoryPolicies : Vector Policy 6 := #v[
  ⟨.auto, 3, false⟩, ⟨.auto, 3, true⟩, ⟨.auto, 3, true⟩,
  ⟨.auto, 3, false⟩, ⟨.auto, 3, false⟩, ⟨.auto, 3, false⟩]

/-- R169: the factory class of each notice kind, in the order of R168's table. -/
def factoryNoticeClass : Vector NoticeClass 24 := #v[
  .report, .report, .report, .quiet, .report, .report, .quiet, .report,
  .quiet, .quiet, .report, .quiet, .quiet, .report, .report, .quiet,
  .quiet, .report, .quiet, .quiet, .quiet, .report, .report, .report]

/-- R148: a band's factory defaults: an empty mask, watching nothing. -/
def factoryBand : BandRec := ⟨.supply, .any, 0, -400, 1200, 0, 0, .notice⟩

/-- R166: the factory defaults of all nine tables. -/
def factoryTables : Tables where
  roof := factoryRoof
  units := tabulate fun _ => factoryUnit
  profiles := tabulate fun i => if i.val < 4 then factoryCool else factoryHeat
  shed := factoryShed
  rotation := tabulate fun _ => ⟨10, 5, none⟩
  bands := tabulate fun _ => factoryBand
  policies := factoryPolicies
  noticeClass := factoryNoticeClass
  outputs := tabulate fun _ => ⟨.off, .shedActive⟩

end Sys2Proof.Machine
end

