-- ==== Sys2Proof/Machine/Initial.lean ====
section
/-! DEFINITION. What each block holds right after a reset, for the tables the reset loads (R9, R18 to R20,
R41, R60, R88, R97, R121, R128, R137, R147, R152, R156, R160, R175). -/

namespace Sys2Proof.Machine

/-- The kind of a slot: C1..C4 are COOL, H1..H3 are HEAT (00_scope.md). -/
def slotKind (i : Slot) : Kind := if i.val < 4 then .cool else .heat

/-- All slots, C1..C4 then H1..H3. -/
def allSlots : List Slot := [0, 1, 2, 3, 4, 5, 6]

/-- All unit records in ascending address order. -/
def allUnits : List UnitIx := List.finRange 32

/-- R135, R179: a slot is bound when its unit is fitted and its binding names a profile. -/
def UnitCfg.bound (c : UnitCfg) (i : Slot) : Bool := c.fitted && c.bind[i].isSome

/-- R58, R60: the minimum off time of the profile a slot is bound to; 0 for a slot that is not bound. -/
def minOffOf (t : Tables) (u : UnitIx) (i : Slot) : Nat :=
  match t.units[u].bind[i] with
  | some p => t.profiles[p].minOff
  | none => 0

/-- No slot on, fan AUTO-OFF. -/
def emptyMap : StageMap := ⟨0, false⟩

/-- R42: how an empty call record is read. -/
def emptyCall : Call := ⟨0, 0, false, false, false, false, false, 65535⟩

/-- R60: the record of a slot that is not fitted: every field cleared, its times absent after a reset too
(DEDUCED: log entry 50). -/
def blankStage : Stage := ⟨.notFitted, false, none, none, none, none, none, .none⟩

/-- R60: a stage record after a reset, or for a newly bound slot, at the instant `at0`. After a reset it stays
OFF_LOCKED until its event, also where its windows are 0 (DEDUCED: log entry 19). -/
def freshStage (t : Tables) (u : UnitIx) (i : Slot) (at0 : Nat) : Stage :=
  if t.units[u].bound i then
    ⟨.offLocked, false, none, some at0, none, some (at0 + minOffOf t u i), none, .none⟩
  else blankStage

/-- R149: a pair that does not apply. -/
def blankPair : BandPair := ⟨.notApplicable, none⟩

/-- R41: the unit's fitted cooling slots, ascending. -/
def fittedCooling (c : UnitCfg) : List Slot := ([0, 1, 2, 3] : List Slot).filter fun i => c.bound i

/-- R41, R43, R60: a unit record after a reset, or when an installation fits the unit, at `at0`. -/
def freshUnit (t : Tables) (u : UnitIx) (at0 : Nat) : UnitRec where
  state := if t.units[u].fitted then .unadopted else .absent
  isolated := false
  failures := 0
  call := emptyCall
  target := emptyMap
  ack := emptyMap
  status := none
  fresh := false
  notProven := tabulate fun _ => 0
  lead := fittedCooling t.units[u]
  runHours := tabulate fun _ => 0
  stages := tabulate fun i => freshStage t u i at0
  window := none
  fanForce := false
  causes := []
  strikes := []
  pairs := tabulate fun _ => blankPair
  gateClosed := false

/-- R31, R41, R88: the plant after a reset. -/
def freshPlant (t : Tables) : Plant where
  units := tabulate fun u => freshUnit t u 0
  queue := []
  sequence := 0
  passDue := false
  staggerEnd := none
  grantSum := 0
  injections := []
  protection := []

/-- R97: the demand meter after a reset. -/
def freshMeter : Meter := ⟨0, 0, 0, 0, 0, 0, [], none, 0⟩

/-- R119 to R121: the shed controller after a reset, with the contact closed or open. The contact event is
then present from the reset instant, and the effective ceiling is derived from the loaded record. -/
def freshShed (t : Tables) (contactClosed : Bool) : Shed where
  level := 0
  stepEnd := none
  hold := .idle
  jobEvent := none
  contact := if contactClosed then some 0 else none
  ceiling := if contactClosed then min t.roof.ceiling t.roof.drDefaultCeiling else t.roof.ceiling

/-- R128: no group is gated after a reset. -/
def freshRotation : Rotation := tabulate fun _ => none

/-- R2, R9, R18 to R20, R26, R33, R35: the ports and queues after a reset. -/
def freshLink (t : Tables) : Link where
  controllerRate := t.roof.controllerRate
  trunkRate := t.roof.trunkRate
  controllerRx := .hunt
  trunkRx := .hunt
  transmitting := none
  replies := []
  relay := []
  jobs := []
  quiet := true
  trunk := .free
  tag := 0
  marker := .injection
  cursor := 0
  lastPoll := tabulate fun _ => 0

/-- R160: a closed session: no table selected, no shadow. -/
def closedSession : Session := ⟨.closed, [], factoryTables, none, 0, none⟩

/-- R156, R160, R165, R166: the job processor after a reset that found the stored image as `image`. -/
def freshJobs (image : Option Tables) : Jobs where
  session := closedSession
  errors := []
  store := none
  image := image
  config := if image.isSome then .stored else .defaulted
  restarting := false

/-- R175: an input after a reset: the debounced level is the line's level, and no debounce runs. -/
def freshInput (line : Bool) : Input := ⟨line, line, false⟩

end Sys2Proof.Machine
end

