-- ==== Sys2Proof/Machine/Flags.lean ====
section
/-! DEFINITION. Every flag the manual gives: the FLAGS byte of a frame (R14), the attention flag (R173), and
the conditions the discrete outputs follow (R177). -/

namespace Sys2Proof.Machine

/-! ## The FLAGS byte (R14, 11.1) -/

/-- The FLAGS byte of the five indicators. -/
def flagsByte (reply error attention trailer noReply : Bool) : Byte :=
  packBits [reply, error, attention, trailer, noReply]

/-- REPLY. -/
def flagReply (f : Byte) : Bool := f.getLsbD 0
/-- ERROR. -/
def flagError (f : Byte) : Bool := f.getLsbD 1

/-- FLAGS with ATTENTION clear: what a frame of the reply queue carries until its transmission begins. -/
def withoutAttention (f : Byte) : Byte := f &&& 0xFB

/-- R10, R14: FLAGS completed with ATTENTION at the start of a transmission. -/
def withAttention (f : Byte) (attention : Bool) : Byte :=
  if attention then f ||| 0x04 else f &&& 0xFB

/-! ## The attention flag and the outputs -/

/-- R169: a notice kind's class in the live table. -/
def classOf (t : Tables) (k : NoticeKind) : NoticeClass := t.noticeClass[k.code]

/-- R173: the list holds at least one record whose kind's live class is REPORT. -/
def attention (t : Tables) (ns : List Notice) : Bool := ns.any fun n => classOf t n.kind = .report

/-- R177: what each condition reads. -/
def conditionTrue (t : Tables) (sh : Shed) (p : Plant) (ns : List Notice) (syncMissing : Bool) :
    OutputCondition → Bool
  | .shedActive => 1 ≤ sh.level
  | .drActive => sh.jobEvent.isSome || sh.contact.isSome
  | .anyLatched => allUnits.any fun u => p.units[u].causes.any (·.latched)
  | .attention => attention t ns
  | .syncMissing => syncMissing
  | .anyOffline => allUnits.any fun u => p.units[u].state = .offline

/-- R177: an output's relay. -/
def outputDriven (o : OutputRec) (condition : Bool) : Bool :=
  match o.mode with
  | .off => false
  | .on => true
  | .follow => condition

/-- R177: the four output relays as their records and conditions drive them. -/
def drivenOutputs (t : Tables) (sh : Shed) (p : Plant) (ns : List Notice) (syncMissing : Bool) : Vector Bool 4 :=
  tabulate fun i => outputDriven t.outputs[i] (conditionTrue t sh p ns syncMissing t.outputs[i].condition)

end Sys2Proof.Machine
end

