-- ==== Sys2Proof/Config.lean ====
section
/-! DEFINITION. What the part fixes (queue places, timers, codes of the part itself) and the model's free
value. -/

namespace Sys2Proof.Config

/-- R18: the relay queue's places. -/
def relayPlaces : Nat := 4
/-- R19: the job queue's places. -/
def jobPlaces : Nat := 2
/-- R20: the reply queue's places. -/
def replyPlaces : Nat := 8
/-- R147: the capture list's places. -/
def capturePlaces : Nat := 16
/-- R170, R171: notice records other than LIST_OVERFLOW. -/
def noticePlaces : Nat := 31
/-- R156: the error list's places. -/
def errorPlaces : Nat := 3
/-- R108: the history's places. -/
def historyPlaces : Nat := 8
/-- R142: strike times one list holds. -/
def strikePlaces : Nat := 7
/-- R160: the edit session's idle time, seconds. -/
def sessionIdle : Nat := 120
/-- 11.9, IDENTIFY: the family code. -/
def familyCode : Nat := 0x0320
/-- 11.9, IDENTIFY: the revision. DEDUCED: the table's encoding column gives 1 (log entry 14). -/
def revision : Nat := 1
/-- 00_scope.md: the seconds counter has 32 bits. -/
def secondsMax : Nat := 4294967295

/-- The seconds counter at the tick after 4294967295: the manual says of it neither that it wraps nor that
it saturates. A free value, drawn anew at each use (log entry 1). -/
opaque secondsAfterMax : Nat → BitVec 32

end Sys2Proof.Config
end

