-- ==== Sys2Proof/Machine/State.lean ====
section
/-! DEFINITION. The whole state of the supervisor, the (unused) reasons of a stop, and the state after
reset. -/

namespace Sys2Proof.Machine

/-- Everything the supervisor holds, with the commands that wait. -/
structure State where
  /-- The commands that wait, first in, first out: the model's own. -/
  pending : List Instr
  /-- Whether supply is applied (POWER_UP, POWER_LOSS): the model's own (log entry 4). -/
  powered : Bool
  /-- How many free values have been drawn: the model's own (log entry 1). -/
  draws : Nat
  /-- 00_scope.md: the seconds counter. -/
  seconds : Nat
  /-- R159: the live tables. -/
  tables : Tables
  meter : Meter
  shed : Shed
  rotation : Rotation
  plant : Plant
  /-- R168: the notice list, oldest first. -/
  notices : List Notice
  /-- R147: the capture list, oldest first. -/
  captures : List Capture
  link : Link
  jobs : Jobs
  lines : Lines
  deriving DecidableEq, Repr

/-- Why a machine could stop with a fault. -/
inductive Fault where
  /-- Raised by no command: the manual gives every command an effect in every state. Safe. -/
  | unused
  deriving DecidableEq, Repr

/-- Why a command could be refused by the model. -/
inductive Refusal where
  /-- Raised by `exec` for a command that has no meaning yet; no arm raises it in this model. Safe. -/
  | notModelled (mnemonic : String)
  deriving DecidableEq, Repr

/-- The machine after a power-up of a part whose stored image was never written (log entry 2): factory
tables, every block at its reset value, POWER_UP and CONFIG_DEFAULTED in the notice list (R174), every
contact open. -/
def State.reset : State where
  pending := []
  powered := true
  draws := 0
  seconds := 0
  tables := factoryTables
  meter := freshMeter
  shed := freshShed factoryTables false
  rotation := freshRotation
  plant := freshPlant factoryTables
  notices := [⟨.powerUp, 0, none, 0, 0, 1, some 0⟩, ⟨.configDefaulted, 0, none, 0, 0, 1, none⟩]
  captures := []
  link := freshLink factoryTables
  jobs := freshJobs none
  lines := ⟨freshInput false, freshInput false, freshInput false, false, tabulate fun _ => false⟩

end Sys2Proof.Machine
end

