-- ==== Sys2Proof/Machine/Ops.lean ====
section
/-! DEFINITION. The named operations over the blocks that the commands share: unit records, the start queue's
order, the injection set, the notice list, the capture list, the reply queue, the outputs and the ends of a
command. -/

namespace Sys2Proof.Machine

/-! ## Views of the state -/

/-- What the plant's operations read of the other blocks. -/
def State.env (s : State) : Env := ⟨s.seconds, s.tables, s.meter, s.shed, s.rotation⟩

/-- The plant with the notice and capture lists. -/
def State.roof (s : State) : Roof := ⟨s.plant, s.notices, s.captures⟩

/-- The state with the plant and the two lists replaced. -/
def State.withRoof (s : State) (r : Roof) : State :=
  { s with plant := r.plant, notices := r.notices, captures := r.captures }

/-- An operation of the plant carried out on the state. -/
def State.onPlant (s : State) (f : Env → Plant → Plant) : State := { s with plant := f s.env s.plant }

/-- An operation of the plant carried out beside the two lists. -/
def Roof.onPlant (r : Roof) (f : Plant → Plant) : Roof := { r with plant := f r.plant }

/-- An operation of the plant and the two lists carried out on the state. -/
def State.onRoof (s : State) (f : Env → Roof → Roof) : State := s.withRoof (f s.env s.roof)

/-- The state with the ports and queues changed. -/
def State.onLink (s : State) (f : Link → Link) : State := { s with link := f s.link }

/-! ## Unit records -/

/-- The record of a unit. -/
def Plant.unit (p : Plant) (u : UnitIx) : UnitRec := p.units[u]

/-- The plant with one unit's record changed. -/
def Plant.modUnit (p : Plant) (u : UnitIx) (f : UnitRec → UnitRec) : Plant :=
  { p with units := p.units.set u (f p.units[u]) }

/-- The UNIT record of a unit, as live. -/
def Env.cfg (e : Env) (u : UnitIx) : UnitCfg := e.tables.units[u]

/-- R58, R59: the profile a slot is bound to. -/
def Env.profile (e : Env) (u : UnitIx) (i : Slot) : Option Profile :=
  (e.cfg u).bind[i].map fun p => e.tables.profiles[p]

/-- R137: the unit's causes whose scope is the whole unit hold the fan off (R75). -/
def fanForcedOff (r : UnitRec) : Bool :=
  r.causes.any fun c => c.tripClass = .smk || c.tripClass = .shutdown

/-! ## The injection set (R31, R32) -/

/-- R31: a pending injection for the unit, at the back of the creation order when none is pending. A
protection change marks it and places it at the back of the protection order, unless it was marked. -/
def Plant.inject (p : Plant) (u : UnitIx) (prot : Bool) : Plant :=
  { p with
    injections := if u ∈ p.injections then p.injections else p.injections ++ [u]
    protection := if prot ∧ u ∉ p.protection then p.protection ++ [u] else p.protection }

/-- R31, R32: the unit's pending injection is removed. -/
def Plant.dropInjection (p : Plant) (u : UnitIx) : Plant :=
  { p with
    injections := p.injections.filter fun v => v ≠ u
    protection := p.protection.filter fun v => v ≠ u }

/-! ## The start queue (R82) -/

/-- R82: `a` stands nearer the head than `b`: by current class, then by sequence number; entries that share
a number after the counter has saturated are ordered by unit address, then kind, COOL first. -/
def Entry.ahead (a b : Entry) : Bool :=
  a.currentClass < b.currentClass ||
  (a.currentClass = b.currentClass &&
    (a.sequence < b.sequence ||
      (a.sequence = b.sequence &&
        (a.unit.val < b.unit.val || (a.unit = b.unit && a.kind.code < b.kind.code)))))

/-- R82: an entry at its place in the queue. -/
def insertEntry (n : Entry) : List Entry → List Entry
  | [] => [n]
  | m :: rest => if n.ahead m then n :: m :: rest else m :: insertEntry n rest

/-- R82: the queue in its order. -/
def orderQueue (q : List Entry) : List Entry := q.foldr insertEntry []

/-- The entry is the unit's of the kind. -/
def Entry.isOf (n : Entry) (u : UnitIx) (k : Kind) : Bool := n.unit = u && n.kind = k

/-- R83: the unit has an entry of the kind. -/
def Plant.hasEntry (p : Plant) (u : UnitIx) (k : Kind) : Bool := p.queue.any fun n => n.isOf u k

/-- R84: the unit's entry of the kind leaves the queue. -/
def Plant.dropEntry (p : Plant) (u : UnitIx) (k : Kind) : Plant :=
  { p with queue := p.queue.filter fun n => !n.isOf u k }

/-! ## The notice list (R168 to R171) -/

/-- R168: the record has the raise's key. -/
def Notice.hasKey (n : Notice) (kind : NoticeKind) (unit : Nat) (index : Option Nat) : Bool :=
  n.kind = kind && n.unit = unit && n.index = index

/-- R170: a raise coalesces into a held record. -/
def Notice.coalesce (n : Notice) (now : Nat) (value : Option Int) : Notice :=
  { n with lastTime := now, count := min 255 (n.count + 1), value := value }

/-- R170: a new record behind the others, directly in front of LIST_OVERFLOW when that is held. -/
def placeNotice (new : Notice) : List Notice → List Notice
  | [] => [new]
  | n :: rest => if n.kind = .listOverflow then new :: n :: rest else n :: placeNotice new rest

/-- R171: the raise of a kind is dropped and counted in LIST_OVERFLOW. -/
def overflowNotice (now : Nat) (kind : NoticeKind) (ns : List Notice) : List Notice :=
  if ns.any (·.kind = .listOverflow) then
    ns.map fun n => if n.kind = .listOverflow then n.coalesce now (some kind.code.val) else n
  else ns ++ [⟨.listOverflow, 0, none, now, now, 1, some kind.code.val⟩]

/-- R170, R171: a raise of a notice: not stored for an OFF kind, coalesced into the held record of its key,
stored as a new record while fewer than 31 others are held, and otherwise dropped into LIST_OVERFLOW. -/
def raiseNotice (t : Tables) (now : Nat) (kind : NoticeKind) (unit : Nat) (index : Option Nat)
    (value : Option Int) (ns : List Notice) : List Notice :=
  if classOf t kind = .off then ns
  else if ns.any (·.hasKey kind unit index) then
    ns.map fun n => if n.hasKey kind unit index then n.coalesce now value else n
  else if (ns.filter (·.kind ≠ .listOverflow)).length < Config.noticePlaces then
    placeNotice ⟨kind, unit, index, now, now, 1, value⟩ ns
  else overflowNotice now kind ns

/-- A raise by a block that works on the plant. -/
def Roof.raise (e : Env) (kind : NoticeKind) (unit : Nat) (index : Option Nat) (value : Option Int)
    (r : Roof) : Roof :=
  { r with notices := raiseNotice e.tables e.now kind unit index value r.notices }

/-- A raise by a block that works on the whole state. -/
def State.raise (s : State) (kind : NoticeKind) (unit : Nat) (index : Option Nat) (value : Option Int) :
    State :=
  { s with notices := raiseNotice s.tables s.seconds kind unit index value s.notices }

/-! ## The capture list (R147) -/

/-- R147: a capture record at the back; the oldest of 16 is removed first, with CAPTURE_OVERWRITTEN. -/
def Roof.addCapture (e : Env) (c : Capture) (r : Roof) : Roof :=
  if r.captures.length < Config.capturePlaces then { r with captures := r.captures ++ [c] }
  else
    match r.captures with
    | [] => { r with captures := [c] }
    | old :: rest =>
      { r with captures := rest ++ [c] }.raise e .captureOverwritten 0 none (some old.unit)

/-! ## The reply queue (R20, R21) -/

/-- R18, R20: U, the accepted requests not yet answered. -/
def Link.unanswered (l : Link) : Nat := l.relay.length + l.jobs.length

/-- R21: a reply place is free beside those reserved: H + U < 8. -/
def Link.roomForReply (l : Link) : Bool := l.replies.length + l.unanswered < Config.replyPlaces

/-- A frame placed at the back of the reply queue; its ATTENTION is completed at transmission (R10). -/
def Link.place (l : Link) (f : Frame) : Link := { l with replies := l.replies ++ [⟨f, false⟩] }

/-- R21: a refusal at arrival joins the reply queue when H + U < 8 and is discarded otherwise. -/
def Link.refuse (l : Link) (f : Frame) : Link := if l.roomForReply then l.place f else l

/-- R16: an error reply to a request, without a trailer. -/
def errorReply (req : Frame) (code : Byte) (details : List Byte) : Frame :=
  ⟨req.addr, req.tag, replyKind req.kind, flagsByte true true false false false, code :: details⟩

/-- R18: the head's answer is placed in the reply queue and the head leaves the relay queue. -/
def Link.answerHead (l : Link) (answer : Frame → Frame) : Link :=
  match l.relay with
  | [] => l
  | head :: rest => { l with relay := rest, replies := l.replies ++ [⟨answer head, false⟩] }

/-- R19: the head job's reply is placed in the reply queue and the job leaves the job queue. -/
def Link.answerJob (l : Link) (f : Frame) (restart : Bool) : Link :=
  { l with jobs := l.jobs.drop 1, replies := l.replies ++ [⟨f, restart⟩] }

/-! ## The ends of a command -/

/-- The outcome of a command. -/
abbrev Result := Host.Outcome State Fault Refusal

/-- R177: the output relays driven from their records and conditions as they stand. -/
def driveOutputs (s : State) : State :=
  { s with
    lines := { s.lines with
      outputs := drivenOutputs s.tables s.shed s.plant s.notices s.lines.syncMissing } }

/-- A command acts only while supply is applied (log entry 4). -/
def whilePowered (s : State) (f : State → State) : Result :=
  if s.powered then .next (f s) else .next s

end Sys2Proof.Machine
end

