-- ==== Sys2Proof/Machine/Curtail.lean ====
section
/-! DEFINITION. What a shed level and a gated group mean: the cooling caps and the gating mask (R126), and
the rotation gates' arithmetic (R128 to R131). -/

namespace Sys2Proof.Machine

/-! ## Caps and mask (R126) -/

/-- R126: a class's cooling cap at a level: the least over the SHED records of levels 1 to the level; 4 at
level 0. -/
def capAt (t : Tables) (level : Nat) (cls : Fin 4) : Nat :=
  (List.finRange 7).foldl (fun m j => if j.val < level then min m t.shed[j].caps[cls] else m) 4

/-- R126: the gating mask at a level: the union of the masks of levels 1 to the level. -/
def maskAt (t : Tables) (level : Nat) : BitVec 8 :=
  (List.finRange 7).foldl (fun m j => if j.val < level then m ||| t.shed[j].mask else m) 0

/-- R126: a unit's cooling cap, by its priority class. -/
def coolingCap (e : Env) (u : UnitIx) : Nat := capAt e.tables e.shed.level (e.cfg u).priority

/-! ## Rotation gates (R128 to R131) -/

/-- R128: the members of a group, ascending. -/
def members (t : Tables) (g : Fin 8) : List UnitIx :=
  allUnits.filter fun u => t.units[u].fitted && decide (t.units[u].group = some g)

/-- R130: in the carrier of a group of `n` members, member `k` is closed. -/
def carrierClosed (r : RotationRec) (epoch now n k : Nat) : Bool :=
  let p := (r.onTime + r.offTime) * 60
  let o := r.offTime * 60
  let offset := k * p / n
  ((((now - epoch : Nat) : Int) - (offset : Int)) % (p : Int)) < (o : Int)

/-- R130, R131: a unit's gate is closed. A unit that is not fitted or has no group has no gate of its own,
and it is taken as open. -/
def gateEval (t : Tables) (rot : Rotation) (now : Nat) (u : UnitIx) : Bool :=
  match t.units[u].fitted, t.units[u].group with
  | true, some g =>
    let k := (members t g).idxOf u
    match rot[g], t.rotation[g].follow with
    | none, _ => false
    | some epoch, none => carrierClosed t.rotation[g] epoch now (members t g).length k
    | some _, some h =>
      let n := (members t h).length
      match rot[h] with
      | none => false
      | some epoch => if n = 0 then false else !carrierClosed t.rotation[h] epoch now n (k % n)
  | _, _ => false

/-- R129: the epochs when the mask is as given: a group whose bit enters takes the present second, a group
that stays keeps its epoch, a group whose bit leaves loses it. -/
def regate (rot : Rotation) (mask : BitVec 8) (now : Nat) : Rotation :=
  tabulate fun g => if mask.getLsbD g.val then some (rot[g].getD now) else none

end Sys2Proof.Machine
end

