-- ==== Sys2Proof/Machine/Operands.lean ====
section
/-! DEFINITION. The operand forms: the records of the nine tables as bytes (11.6, 11.8), with the range of
every field (R40, R58, R125, R128, R136, R148, R159, R169, R177), and the request checks of R15. -/

namespace Sys2Proof.Machine

/-! ## Fields and their ranges -/

/-- One field of a record: where it stands, how it is read, its range, and one value more that it admits
(0xFF for NOT_FITTED, "no group" and OWN). -/
structure FieldSpec where
  offset : Nat
  size : Nat
  signed : Bool
  low : Int
  high : Int
  also : Option Int
  deriving DecidableEq, Repr

/-- The field's value in a record's bytes. -/
def FieldSpec.read (f : FieldSpec) (l : List Byte) : Int :=
  match f.size, f.signed with
  | 1, true => s8At l f.offset
  | 1, false => u8At l f.offset
  | 2, true => s16At l f.offset
  | 2, false => u16At l f.offset
  | _, _ => u32At l f.offset

/-- The field lies within its range. -/
def FieldSpec.ok (f : FieldSpec) (l : List Byte) : Bool :=
  decide (f.low ≤ f.read l ∧ f.read l ≤ f.high) || decide (f.also = some (f.read l))

/-- R155 step 4: the offset of the first byte of the first field out of range. -/
def firstBad (fs : List FieldSpec) (l : List Byte) : Option Nat :=
  match fs with
  | [] => none
  | f :: rest => if f.ok l then firstBad rest l else some f.offset

/-- An unsigned byte field of range `low..high`. -/
def byteField (o : Nat) (low high : Int) : FieldSpec := ⟨o, 1, false, low, high, none⟩
/-- An unsigned 16-bit field. -/
def wordField (o : Nat) (low high : Int) : FieldSpec := ⟨o, 2, false, low, high, none⟩
/-- A signed 16-bit field. -/
def signedField (o : Nat) (low high : Int) : FieldSpec := ⟨o, 2, true, low, high, none⟩

/-- R159, 11.8: the ROOF record's fields. -/
def roofFields : List FieldSpec := [
  wordField 0 300 3600, byteField 2 0 1, wordField 3 10 300, wordField 5 0 65535, wordField 7 0 5000,
  wordField 9 0 5000, wordField 11 30 600, wordField 13 60 1800, wordField 15 0 65535, byteField 17 5 120,
  wordField 18 60 3600, wordField 20 20 500, byteField 22 0 3, byteField 23 1 15, byteField 24 2 60,
  byteField 25 5 60, byteField 26 5 120, byteField 27 0 4, byteField 28 0 4, wordField 29 600 7200,
  byteField 31 0 1, byteField 32 1 7, byteField 33 0 1, signedField 34 (-400) 1200,
  signedField 36 (-400) 1200, signedField 38 (-400) 1200, signedField 40 (-400) 1200, wordField 42 1 500]

/-- R40: a slot binding: profile 0..7, or 0xFF for NOT_FITTED. -/
def bindField (o : Nat) : FieldSpec := ⟨o, 1, false, 0, 7, some 255⟩

/-- R40: the UNIT record's fields. -/
def unitFields : List FieldSpec := [
  byteField 0 0 1, byteField 1 0 3, wordField 2 0 65535, wordField 4 0 65535,
  bindField 6, bindField 7, bindField 8, bindField 9, bindField 10, bindField 11, bindField 12,
  bindField 13, byteField 14 0 1,
  ⟨15, 1, true, -50, 50, none⟩, ⟨16, 1, true, -50, 50, none⟩, ⟨17, 1, true, -50, 50, none⟩,
  ⟨18, 1, true, -50, 50, none⟩]

/-- R58: the PROFILE record's fields; the timing ranges are those of the kind the record gives. -/
def profileFields (l : List Byte) : List FieldSpec :=
  if u8At l 0 = 0 then
    [byteField 0 0 1, wordField 1 0 65535, wordField 3 60 600, wordField 5 60 900, wordField 7 300 1800,
     byteField 9 0 60, byteField 10 0 1]
  else
    [byteField 0 0 1, wordField 1 0 65535, wordField 3 0 300, wordField 5 0 600, wordField 7 0 1800,
     byteField 9 0 60, byteField 10 0 1]

/-- R125: the SHED record's fields. -/
def shedFields : List FieldSpec :=
  [byteField 0 0 4, byteField 1 0 4, byteField 2 0 4, byteField 3 0 4, byteField 4 0 255]

/-- R128: the ROTATION record's fields; the source is 0..7, or 0xFF for OWN. -/
def rotationFields : List FieldSpec := [byteField 0 1 60, byteField 1 1 60, ⟨2, 1, false, 0, 7, some 255⟩]

/-- R148: the limits' range by the quantity a BAND record gives. -/
def bandLimits (quantity : Nat) : Int × Int :=
  if quantity = 4 then (-1600, 1600) else if quantity = 5 then (0, 100) else (-400, 1200)

/-- R148: the BAND record's fields. -/
def bandFields (l : List Byte) : List FieldSpec :=
  let r := bandLimits (u8At l 0)
  [byteField 0 0 5, byteField 1 0 2, ⟨2, 4, false, 0, 4294967295, none⟩, signedField 6 r.1 r.2,
   signedField 8 r.1 r.2, byteField 10 0 100, wordField 11 0 1800, byteField 13 0 2]

/-- R136: the POLICY record's fields. -/
def policyFields : List FieldSpec := [byteField 0 0 1, byteField 1 1 7, byteField 2 0 1]

/-- R169: the NOTICE_CLASS record's fields: POWER_UP and LIST_OVERFLOW are always REPORT. -/
def noticeClassFields : List FieldSpec :=
  (List.range 24).map fun k => byteField k 0 (if k = 0 ∨ k = 23 then 0 else 2)

/-- R177: the OUTPUT record's fields. -/
def outputFields : List FieldSpec := [byteField 0 0 2, byteField 1 0 5]

/-- The fields of a record of a table. -/
def fieldsOf (t : TableId) (l : List Byte) : List FieldSpec :=
  match t with
  | .roof => roofFields
  | .unit => unitFields
  | .profile => profileFields l
  | .shed => shedFields
  | .rotation => rotationFields
  | .band => bandFields l
  | .policy => policyFields
  | .noticeClass => noticeClassFields
  | .output => outputFields

/-- 11.6: the bytes of a record of a table. -/
def recordSize : TableId → Nat
  | .roof => 44 | .unit => 19 | .profile => 11 | .shed => 5 | .rotation => 3 | .band => 14 | .policy => 3
  | .noticeClass => 24 | .output => 2

/-- R159: the records of a table. -/
def recordCount : TableId → Nat
  | .roof => 1 | .unit => 32 | .profile => 8 | .shed => 7 | .rotation => 8 | .band => 16 | .policy => 6
  | .noticeClass => 1 | .output => 4

/-! ## Records from bytes -/

/-- An optional number 0..7, with 0xFF for none. -/
def opt8At (l : List Byte) (o : Nat) : Option (Fin 8) :=
  if h : u8At l o < 8 then some ⟨u8At l o, h⟩ else none

/-- A mode, strike limit and blankable flag at an offset (R136); the flag is set unless its byte is 0 (DESIGN CHOICE:
log entry 52). -/
def policyAt (l : List Byte) (o : Nat) : Policy :=
  ⟨if u8At l o = 0 then .auto else .latched, u8At l (o + 1), u8At l (o + 2) ≠ 0⟩

/-- 11.8: a ROOF record from its bytes. -/
def roofOf (l : List Byte) : RoofRec where
  intervalLength := u16At l 0
  syncMode := if u8At l 2 = 0 then .freeRun else .meterSync
  syncGrace := u16At l 3
  ceiling := u16At l 5
  restoreHysteresis := u16At l 7
  admissionReserve := u16At l 9
  stepTime := u16At l 11
  restoreHold := u16At l 13
  drDefaultCeiling := u16At l 15
  staggerTime := u8At l 17
  agingTime := u16At l 18
  replyTimeout := u16At l 20
  retryCount := u8At l 22
  offlineThreshold := u8At l 23
  refreshInterval := u8At l 24
  offlinePollInterval := u8At l 25
  staleLimit := u8At l 26
  controllerRate := u8At l 27
  trunkRate := u8At l 28
  strikeWindow := u16At l 29
  bandPolicy := policyAt l 31
  coolLow := s16At l 34
  coolHigh := s16At l 36
  heatLow := s16At l 38
  heatHigh := s16At l 40
  swapThreshold := u16At l 42

/-- 11.6: a UNIT record from its bytes; its flags are set unless their byte is 0 (DESIGN CHOICE: log entry 52). -/
def unitOf (l : List Byte) : UnitCfg where
  fitted := u8At l 0 ≠ 0
  priority := ⟨u8At l 1 % 4, Nat.mod_lt _ (by decide)⟩
  baseRating := u16At l 2
  powerLimit := u16At l 4
  bind := tabulate fun i => opt8At l (6 + i.val)
  group := opt8At l 13
  leadLag := u8At l 14 ≠ 0
  offSupply := s8At l 15
  offReturn := s8At l 16
  offSpace := s8At l 17
  offOutside := s8At l 18

/-- 11.6: a PROFILE record from its bytes; its flag is set unless its byte is 0 (DESIGN CHOICE: log entry 52). -/
def profileOf (l : List Byte) : Profile where
  kind := if u8At l 0 = 0 then .cool else .heat
  rating := u16At l 1
  minOn := u16At l 3
  minOff := u16At l 5
  startToStart := u16At l 7
  blanking := u8At l 9
  inrush := u8At l 10 ≠ 0

/-- 11.6: a SHED record from its bytes. -/
def shedOf (l : List Byte) : ShedRec := ⟨tabulate fun c => u8At l c.val, byteAt l 4⟩

/-- 11.6: a ROTATION record from its bytes. -/
def rotationOf (l : List Byte) : RotationRec := ⟨u8At l 0, u8At l 1, opt8At l 2⟩

/-- R148: the quantities in the order of their codes. -/
def quantityOf (n : Nat) : Quantity :=
  match n with
  | 0 => .supply | 1 => .ret | 2 => .space | 3 => .outside | 4 => .delta | _ => .damper

/-- R148: applies-when in the order of the codes. -/
def appliesOf (n : Nat) : AppliesWhen :=
  match n with
  | 0 => .any | 1 => .coolingOn | _ => .heatingOn

/-- R148: the actions in the order of their codes. -/
def actionOf (n : Nat) : BandAction :=
  match n with
  | 0 => .notice | 1 => .inhibit | _ => .trip

/-- 11.6: a BAND record from its bytes. -/
def bandOf (l : List Byte) : BandRec where
  quantity := quantityOf (u8At l 0)
  applies := appliesOf (u8At l 1)
  mask := BitVec.ofNat 32 (u32At l 2)
  low := s16At l 6
  high := s16At l 8
  hysteresis := u8At l 10
  settle := u16At l 11
  action := actionOf (u8At l 13)

/-- R169, 11.6: the classes in the order of their codes. -/
def noticeClassOf (n : Nat) : NoticeClass :=
  match n with
  | 0 => .report | 1 => .quiet | _ => .off

/-- R177: the modes in the order of their codes. -/
def outputModeOf (n : Nat) : OutputMode :=
  match n with
  | 0 => .off | 1 => .on | _ => .follow

/-- R177: the conditions in the order of their codes. -/
def outputConditionOf (n : Nat) : OutputCondition :=
  match n with
  | 0 => .shedActive | 1 => .drActive | 2 => .anyLatched | 3 => .attention | 4 => .syncMissing
  | _ => .anyOffline

/-- 11.6: an OUTPUT record from its bytes. -/
def outputOf (l : List Byte) : OutputRec := ⟨outputModeOf (u8At l 0), outputConditionOf (u8At l 1)⟩

/-! ## Records to bytes -/

/-- A number 0..7, or 0xFF for none. -/
def leOpt8 (o : Option (Fin 8)) : List Byte :=
  match o with
  | some p => le8 p.val
  | none => [0xFF]

/-- R136: a mode, strike limit and blankable flag. -/
def policyBytes (p : Policy) : List Byte :=
  le8 (match p.mode with | .auto => 0 | .latched => 1) ++ le8 p.strikeLimit ++ leBool p.blankable

/-- 11.8: a ROOF record's 44 bytes. -/
def roofBytes (r : RoofRec) : List Byte :=
  le16 r.intervalLength ++ le8 (match r.syncMode with | .freeRun => 0 | .meterSync => 1) ++ le16 r.syncGrace
  ++ le16 r.ceiling ++ le16 r.restoreHysteresis ++ le16 r.admissionReserve ++ le16 r.stepTime
  ++ le16 r.restoreHold ++ le16 r.drDefaultCeiling ++ le8 r.staggerTime ++ le16 r.agingTime
  ++ le16 r.replyTimeout ++ le8 r.retryCount ++ le8 r.offlineThreshold ++ le8 r.refreshInterval
  ++ le8 r.offlinePollInterval ++ le8 r.staleLimit ++ le8 r.controllerRate ++ le8 r.trunkRate
  ++ le16 r.strikeWindow ++ policyBytes r.bandPolicy ++ leInt16 r.coolLow ++ leInt16 r.coolHigh
  ++ leInt16 r.heatLow ++ leInt16 r.heatHigh ++ le16 r.swapThreshold

/-- 11.6: a UNIT record's 19 bytes. -/
def unitBytes (c : UnitCfg) : List Byte :=
  leBool c.fitted ++ le8 c.priority.val ++ le16 c.baseRating ++ le16 c.powerLimit
  ++ allSlots.flatMap (fun i => leOpt8 c.bind[i]) ++ leOpt8 c.group ++ leBool c.leadLag
  ++ leInt8 c.offSupply ++ leInt8 c.offReturn ++ leInt8 c.offSpace ++ leInt8 c.offOutside

/-- 11.6: a PROFILE record's 11 bytes. -/
def profileBytes (p : Profile) : List Byte :=
  le8 p.kind.code ++ le16 p.rating ++ le16 p.minOn ++ le16 p.minOff ++ le16 p.startToStart ++ le8 p.blanking
  ++ leBool p.inrush

/-- 11.6: a SHED record's 5 bytes. -/
def shedBytes (r : ShedRec) : List Byte :=
  le8 r.caps[0] ++ le8 r.caps[1] ++ le8 r.caps[2] ++ le8 r.caps[3] ++ [r.mask]

/-- 11.6: a ROTATION record's 3 bytes. -/
def rotationBytes (r : RotationRec) : List Byte := le8 r.onTime ++ le8 r.offTime ++ leOpt8 r.follow

/-- 11.6: a BAND record's 14 bytes. -/
def bandBytes (b : BandRec) : List Byte :=
  le8 (match b.quantity with
       | .supply => 0 | .ret => 1 | .space => 2 | .outside => 3 | .delta => 4 | .damper => 5)
  ++ le8 (match b.applies with | .any => 0 | .coolingOn => 1 | .heatingOn => 2)
  ++ le32 b.mask.toNat ++ leInt16 b.low ++ leInt16 b.high ++ le8 b.hysteresis ++ le16 b.settle
  ++ le8 (match b.action with | .notice => 0 | .inhibit => 1 | .trip => 2)

/-- 11.6: the NOTICE_CLASS record's 24 bytes, in kind code order. -/
def noticeClassBytes (v : Vector NoticeClass 24) : List Byte :=
  v.toList.flatMap fun c => le8 (match c with | .report => 0 | .quiet => 1 | .off => 2)

/-- 11.6: an OUTPUT record's 2 bytes. -/
def outputBytes (o : OutputRec) : List Byte :=
  le8 (match o.mode with | .off => 0 | .on => 1 | .follow => 2)
  ++ le8 (match o.condition with
          | .shedActive => 0 | .drActive => 1 | .anyLatched => 2 | .attention => 3 | .syncMissing => 4
          | .anyOffline => 5)

/-! ## A record of a table -/

/-- The bytes of record `i` of a table; nothing for an index past the table's end. -/
def recordBytes (t : Tables) (id : TableId) (i : Nat) : List Byte :=
  match id with
  | .roof => if i = 0 then roofBytes t.roof else []
  | .unit => if h : i < 32 then unitBytes t.units[i] else []
  | .profile => if h : i < 8 then profileBytes t.profiles[i] else []
  | .shed => if h : i < 7 then shedBytes t.shed[i] else []
  | .rotation => if h : i < 8 then rotationBytes t.rotation[i] else []
  | .band => if h : i < 16 then bandBytes t.bands[i] else []
  | .policy => if h : i < 6 then policyBytes t.policies[i] else []
  | .noticeClass => if i = 0 then noticeClassBytes t.noticeClass else []
  | .output => if h : i < 4 then outputBytes t.outputs[i] else []

/-- The tables with record `i` of a table replaced by the one the bytes give. -/
def putRecord (t : Tables) (id : TableId) (i : Nat) (l : List Byte) : Tables :=
  match id with
  | .roof => if i = 0 then { t with roof := roofOf l } else t
  | .unit => if h : i < 32 then { t with units := t.units.set i (unitOf l) } else t
  | .profile => if h : i < 8 then { t with profiles := t.profiles.set i (profileOf l) } else t
  | .shed => if h : i < 7 then { t with shed := t.shed.set i (shedOf l) } else t
  | .rotation => if h : i < 8 then { t with rotation := t.rotation.set i (rotationOf l) } else t
  | .band => if h : i < 16 then { t with bands := t.bands.set i (bandOf l) } else t
  | .policy => if h : i < 6 then { t with policies := t.policies.set i (policyAt l 0) } else t
  | .noticeClass =>
    if i = 0 then { t with noticeClass := tabulate fun k => noticeClassOf (u8At l k.val) } else t
  | .output => if h : i < 4 then { t with outputs := t.outputs.set i (outputOf l) } else t

/-- The tables with one table taken from `src` (R161, R164). -/
def copyTable (id : TableId) (src dst : Tables) : Tables :=
  match id with
  | .roof => { dst with roof := src.roof }
  | .unit => { dst with units := src.units }
  | .profile => { dst with profiles := src.profiles }
  | .shed => { dst with shed := src.shed }
  | .rotation => { dst with rotation := src.rotation }
  | .band => { dst with bands := src.bands }
  | .policy => { dst with policies := src.policies }
  | .noticeClass => { dst with noticeClass := src.noticeClass }
  | .output => { dst with outputs := src.outputs }

/-! ## The checks of an interpreted request (R15) -/

/-- R15: the detail byte of the refusal of an interpreted request's payload, none when it is well formed. -/
def requestFault (kind : Byte) (p : List Byte) : Option Byte :=
  if kind = kStageCall then
    if p.length ≠ 5 then some 0xFF
    else if 1 < u8At p 2 then some 2
    else if 1 < u8At p 3 then some 3
    else if 1 < u8At p 4 then some 4
    else none
  else if kind = kStatusRead then
    if p.length ≠ 0 then some 0xFF else none
  else if kind = kSetpointWrite then
    if p.length ≠ 4 then some 0xFF
    else if s16At p 0 = -32768 then some 0
    else if s16At p 2 = -32768 then some 2
    else none
  else none

/-! ## Stage maps as bytes (11.2) -/

/-- 11.2: a stage map's byte: bits 0..6 the slots, bit 7 the fan. -/
def mapByte (m : StageMap) : Byte := BitVec.ofBool m.fan ++ m.slots

/-- 11.2, R179: the map a unit's byte gives, taken for the unit's bound slots only; bit 7 is always taken. -/
def mapOfByte (c : UnitCfg) (b : Byte) : StageMap :=
  ⟨BitVec.ofBoolListLE (allSlots.map fun i => c.bound i && b.getLsbD i.val), b.getLsbD 7⟩

/-- The slots for which `f` holds, as a map's bits. -/
def slotBits (f : Slot → Bool) : BitVec 7 := BitVec.ofBoolListLE (allSlots.map f)

end Sys2Proof.Machine
end

