-- ==== Sys2Proof/Machine/Sequencer.lean ====
section
/-! DEFINITION. The stage sequencer and the joining and leaving of start-queue entries: stage moves, target
maps, settlement (chapter 4; R81 to R87 of chapter 5). -/

namespace Sys2Proof.Machine

/-! ## Stage states -/

/-- The stage is held on: STARTING, RUN_MIN or RUNNING. -/
def StageState.isOn : StageState → Bool
  | .starting | .runMin | .running => true
  | .notFitted | .offLocked | .offReady | .queued | .trippedAuto | .trippedLatched | .inLocal => false

/-- The stage is TRIPPED_AUTO or TRIPPED_LATCHED. -/
def StageState.isTripped : StageState → Bool
  | .trippedAuto | .trippedLatched => true
  | .notFitted | .offLocked | .offReady | .queued | .starting | .runMin | .running | .inLocal => false

/-- The stage is off and free to start: OFF_READY or QUEUED. -/
def StageState.isFree : StageState → Bool
  | .offReady | .queued => true
  | .notFitted | .offLocked | .starting | .runMin | .running | .trippedAuto | .trippedLatched
  | .inLocal => false

/-- R79: a NOT_PROVEN count is kept only in RUN_MIN and RUNNING. -/
def StageState.isProving : StageState → Bool
  | .runMin | .running => true
  | .notFitted | .offLocked | .offReady | .queued | .starting | .trippedAuto | .trippedLatched
  | .inLocal => false

/-- R60: a window has elapsed when the counter has reached its end; an absent end counts as elapsed. -/
def elapsed (now : Nat) : Option Nat → Bool
  | none => true
  | some t => t ≤ now

/-- Every stage record of a unit changed by `f`. R79: the NOT_PROVEN count of a stage that is then neither
RUN_MIN nor RUNNING is 0. -/
def UnitRec.mapStages (r : UnitRec) (f : Slot → Stage → Stage) : UnitRec :=
  { r with
    stages := tabulate fun i => f i r.stages[i]
    notProven := tabulate fun i => if (f i r.stages[i]).state.isProving then r.notProven[i] else 0 }

/-- One stage record of a unit changed by `f`. -/
def UnitRec.modStage (r : UnitRec) (i : Slot) (f : Stage → Stage) : UnitRec :=
  r.mapStages fun j st => if j = i then f st else st

/-- R62: a stage that is OFF_LOCKED with both windows elapsed passes on; R63 then makes it QUEUED where due. -/
def passOn (now : Nat) (st : Stage) : Stage :=
  if st.state = .offLocked ∧ elapsed now st.minOffEnd ∧ elapsed now st.startToStartEnd then
    { st with state := .offReady }
  else st

/-- R68: a stage stops: OFF_LOCKED, with its stop time, its minimum-off end and its mark cleared. -/
def stopStage (now minOff : Nat) (st : Stage) : Stage :=
  passOn now
    { st with state := .offLocked, stopPending := false, stopTime := some now, minOffEnd := some (now + minOff) }

/-! ## Start order and the queued slot (R63, R70) -/

/-- R63: the slots of a kind in start order: the lead order for cooling, H1 to H3 for heating. -/
def startOrder (r : UnitRec) : Kind → List Slot
  | .cool => r.lead
  | .heat => [4, 5, 6]

/-- R63: the first slot of a kind in start order that is free and not forced off. -/
def firstFree (r : UnitRec) (k : Kind) : Option Slot :=
  (startOrder r k).find? fun i => r.stages[i].state.isFree && decide (r.stages[i].force ≠ .forceOff)

/-- The flag of a kind. -/
def hasEntryOf (hasCool hasHeat : Bool) : Kind → Bool
  | .cool => hasCool
  | .heat => hasHeat

/-- R63: of the free slots, the first in start order of a kind with an entry is QUEUED, the rest OFF_READY. -/
def selectQueued (hasCool hasHeat : Bool) (r : UnitRec) : UnitRec :=
  r.mapStages fun i st =>
    if st.state.isFree then
      { st with state := if hasEntryOf hasCool hasHeat (slotKind i) ∧ firstFree r (slotKind i) = some i then .queued else .offReady }
    else st

/-- R63 for a unit, both kinds. -/
def reselect (u : UnitIx) (p : Plant) : Plant :=
  p.modUnit u (selectQueued (p.hasEntry u .cool) (p.hasEntry u .heat))

/-! ## The target map (R31, R49, R61, R75) -/

/-- The slot is on in the map. -/
def StageMap.has (m : StageMap) (i : Slot) : Bool := m.slots.getLsbD i.val

/-- R61, R75: the map that follows from the stage records: the slots on, and the fan by the fan rule. -/
def scheduledMap (r : UnitRec) : StageMap :=
  let slots := slotBits fun i => r.stages[i].state.isOn
  ⟨slots, !fanForcedOff r && (r.call.fanOn || decide (slots ≠ 0) || r.fanForce)⟩

/-- R31, R49, R61: the target map is written. A write that changes it clears the fresh-since-change flag and,
for an ONLINE unit, makes a pending injection, marked protection for a protection change. -/
def writeTarget (prot : Bool) (u : UnitIx) (m : StageMap) (p : Plant) : Plant :=
  if (p.unit u).target = m then p
  else
    let p' := p.modUnit u fun r => { r with target := m, fresh := false }
    if (p.unit u).state = .online then p'.inject u prot else p'

/-- R61: the sequencer writes the target map again from the stage records. A LOCAL unit's map follows its
report (R55), and an ABSENT unit's is empty. -/
def refreshTarget (prot : Bool) (u : UnitIx) (p : Plant) : Plant :=
  match (p.unit u).state with
  | .unadopted | .online | .offline => writeTarget prot u (scheduledMap (p.unit u)) p
  | .inLocal | .absent => p

/-! ## Lead and lag (R78) -/

/-- The slots of a kind. -/
def slotsOf (k : Kind) : List Slot := allSlots.filter fun i => decide (slotKind i = k)

/-- R78: the cooling stage rests. -/
def StageState.rests : StageState → Bool
  | .notFitted | .offLocked | .offReady | .trippedAuto | .trippedLatched => true
  | .queued | .starting | .runMin | .running | .inLocal => false

/-- R78: the lead/lag condition of a unit. -/
def leadCondition (e : Env) (u : UnitIx) (p : Plant) : Bool :=
  (e.cfg u).leadLag && decide (2 ≤ (p.unit u).lead.length) &&
  (slotsOf .cool).all (fun i => !(e.cfg u).bound i || (p.unit u).stages[i].state.rests) &&
  !p.hasEntry u .cool

/-- The run-hour counter of a slot; heating slots have none (R77). -/
def runHoursOf (r : UnitRec) (i : Slot) : Nat := if h : i.val < 4 then r.runHours[i.val] else 0

/-- R78: the lead order rotated, keeping its cyclic order, so that the slot with the smallest counter, the
first of those that share it, stands first; none when the spread does not exceed the threshold or that slot
leads already. -/
def leadRotation (r : UnitRec) (thresholdHours : Nat) : Option (List Slot) :=
  let hours := r.lead.map (runHoursOf r)
  let least := hours.foldl min (hours.headD 0)
  let most := hours.foldl max 0
  let k := hours.idxOf least
  if thresholdHours * 3600 < most - least ∧ k ≠ 0 then some (r.lead.drop k ++ r.lead.take k) else none

/-- R78: the lead/lag check of one unit. -/
def leadCheck (e : Env) (u : UnitIx) (r : Roof) : Roof :=
  match leadRotation (r.plant.unit u) e.tables.roof.swapThreshold with
  | none => r
  | some order =>
    Roof.raise e .leadSwapped (unitAddr u) none (order.head?.map fun i => (i.val : Int))
      { r with plant := r.plant.modUnit u fun x => { x with lead := order } }

/-- R78: a move of a unit's stages or entries, with the lead/lag check at the moment at which it makes the unit's
condition true (DEDUCED: log entry 15 says what one moment is). -/
def moveUnit (e : Env) (u : UnitIx) (f : Plant → Plant) (r : Roof) : Roof :=
  if !leadCondition e u r.plant && leadCondition e u (f r.plant) then leadCheck e u (r.onPlant f) else r.onPlant f

/-! ## Joining and leaving the start queue (R83, R84) -/

/-- The wanted count of a kind. -/
def wanted (r : UnitRec) : Kind → Nat
  | .cool => r.call.cool
  | .heat => r.call.heat

/-- R83: the stages of the kind that are on, not stop-pending and not under FORCE_ON. -/
def joiningCount (r : UnitRec) (k : Kind) : Nat :=
  ((slotsOf k).filter fun i =>
    r.stages[i].state.isOn && !r.stages[i].stopPending && decide (r.stages[i].force ≠ .forceOn)).length

/-- R83, R84: some slot of the kind is bound and not TRIPPED_LATCHED. -/
def someUsable (r : UnitRec) (k : Kind) : Bool :=
  (slotsOf k).any fun i =>
    decide (r.stages[i].state ≠ .notFitted) && decide (r.stages[i].state ≠ .trippedLatched)

/-- R81: the sequence counter increases by 1 and saturates. -/
def nextSequence (n : Nat) : Nat := satAdd 4294967295 n 1

/-- R81, R83: an entry joins the queue, in the unit's priority class. -/
def Plant.join (e : Env) (u : UnitIx) (k : Kind) (p : Plant) : Plant :=
  { p with
    queue := insertEntry ⟨u, k, (e.cfg u).priority.val, (e.cfg u).priority.val, p.sequence, e.now, .none⟩ p.queue
    sequence := nextSequence p.sequence
    passDue := p.passDue || p.queue.isEmpty }

/-- R83, R84: at the end of a settlement, the unit's entry of a kind leaves or joins. -/
def examine (e : Env) (u : UnitIx) (k : Kind) (p : Plant) : Plant :=
  let r := p.unit u
  if p.hasEntry u k then
    if wanted r k ≤ joiningCount r k ∨ !someUsable r k then p.dropEntry u k else p
  else if r.state = .online ∧ !r.isolated ∧ someUsable r k ∧ joiningCount r k < wanted r k then p.join e u k
  else p

/-- R84: the unit's entries are withdrawn, and R63 follows. -/
def withdrawEntries (e : Env) (u : UnitIx) (r : Roof) : Roof :=
  moveUnit e u (fun p => reselect u ((p.dropEntry u .cool).dropEntry u .heat)) r

/-! ## Settlement (R69 to R71) -/

/-- R69: units in UNADOPTED, ONLINE or OFFLINE are settled. -/
def UnitState.isSettled : UnitState → Bool
  | .unadopted | .online | .offline => true
  | .absent | .inLocal => false

/-- R69: the held count of a kind. -/
def heldCount (e : Env) (u : UnitIx) (r : UnitRec) : Kind → Nat
  | .heat => r.call.heat
  | .cool => if r.gateClosed then 0 else min r.call.cool (coolingCap e u)

/-- R70: slot `a` started earlier than slot `b`; at equal start times the one earlier in start order. -/
def startedBefore (r : UnitRec) (k : Kind) (a b : Slot) : Bool :=
  let ta := r.stages[a].startTime.getD 0
  let tb := r.stages[b].startTime.getD 0
  ta < tb || (ta = tb && (startOrder r k).idxOf a < (startOrder r k).idxOf b)

/-- R69: the stage is on and under no force. -/
def Stage.scheduled (st : Stage) : Bool := st.state.isOn && decide (st.force = .none)

/-- R70: how many of the kind's scheduled on stages started before the slot's. -/
def startRank (r : UnitRec) (i : Slot) : Nat :=
  ((slotsOf (slotKind i)).filter fun j => r.stages[j].scheduled && startedBefore r (slotKind i) j i).length

/-- R69: whether a settlement leaves an on stage stop-pending. -/
def pendingAfter (e : Env) (u : UnitIx) (r : UnitRec) (i : Slot) : Bool :=
  match r.stages[i].force with
  | .forceOff => true
  | .forceOn => false
  | .none => decide (heldCount e u r (slotKind i) ≤ startRank r i)

/-- R68, R69: a settlement at one stage: the mark is set or cleared, and a marked RUNNING stage stops. -/
def settleStage (e : Env) (u : UnitIx) (r : UnitRec) (i : Slot) (st : Stage) : Stage :=
  if st.state.isOn then
    if pendingAfter e u r i then
      if st.state = .running then stopStage e.now (minOffOf e.tables u i) st
      else { st with stopPending := true }
    else { st with stopPending := false }
  else st

/-- R69 for a unit's record, both kinds. -/
def settleMarks (e : Env) (u : UnitIx) (r : UnitRec) : UnitRec := r.mapStages (settleStage e u r)

/-- R83, R84, R63: the admission unit re-examines the unit's entries, COOL and then HEAT (DESIGN CHOICE: log entry
39), and the queued slots are chosen again. -/
def examineUnit (e : Env) (u : UnitIx) (r : Roof) : Roof :=
  moveUnit e u (fun p => reselect u (examine e u .heat (examine e u .cool p))) r

/-- R69, R71: a unit is settled, both kinds, and its entries are re-examined. -/
def settle (e : Env) (u : UnitIx) (r : Roof) : Roof :=
  if (r.plant.unit u).state.isSettled then
    examineUnit e u ((moveUnit e u (fun p => p.modUnit u (settleMarks e u)) r).onPlant (refreshTarget false u))
  else r

/-- R71, R124, R126, R132: units settled in ascending address order, those for which `due` holds. -/
def settleAll (e : Env) (due : UnitIx → Bool) (r : Roof) : Roof :=
  allUnits.foldl (fun q u => if due u then settle e u q else q) r

/-- R132: every gate evaluated; the units whose gate changed, or for which `also` holds, are settled. -/
def evaluateGates (e : Env) (also : UnitIx → Bool) (r : Roof) : Roof :=
  settleAll e
    (fun u => decide (gateEval e.tables e.rotation e.now u ≠ (r.plant.unit u).gateClosed) || also u)
    (r.onPlant fun p => { p with units := tabulate fun u =>
      { p.units[u] with gateClosed := gateEval e.tables e.rotation e.now u } })

/-! ## Starts and the blanking window (R64, R65) -/

/-- R65: the unit's blanking window after a start at `now` with the profile. -/
def windowAfterStart (now : Nat) (pr : Profile) (w : Option Window) : Option Window :=
  match w with
  | none => if pr.inrush ∧ pr.blanking ≠ 0 then some ⟨now, pr.blanking⟩ else none
  | some w =>
    let len := max w.length pr.blanking
    if pr.inrush then if len = 0 then none else some ⟨now, len⟩ else some ⟨w.anchor, len⟩

/-- R64, R65: the record of a unit whose slot starts with the profile. -/
def startRecord (now : Nat) (pr : Profile) (i : Slot) (r : UnitRec) : UnitRec :=
  let w := windowAfterStart now pr r.window
  { r.modStage i fun st =>
      { st with
        state := if w.isSome then .starting else .runMin
        stopPending := false
        startTime := some now
        minOnEnd := some (now + pr.minOn)
        startToStartEnd := some (now + pr.startToStart) } with
    window := w }

/-- R64: a slot of a unit starts: stage, window, target map, and the settlement of the unit. -/
def startSlot (e : Env) (u : UnitIx) (i : Slot) (pr : Profile) (r : Roof) : Roof :=
  settle e u (r.onPlant fun p => refreshTarget false u (p.modUnit u (startRecord e.now pr i)))

/-! ## Window ends (R62, R66, R67) -/

/-- R62: one OFF_LOCKED stage whose windows have both elapsed leaves it. -/
def offWindowsEnd (e : Env) (u : UnitIx) (i : Slot) (p : Plant) : Plant :=
  reselect u (p.modUnit u fun r => r.modStage i (passOn e.now))

/-- R67: a RUN_MIN stage whose minimum-on end is reached enters RUNNING and stops if it is marked. -/
def endMinOn (now minOff : Nat) (st : Stage) : Stage :=
  if st.state = .runMin ∧ elapsed now st.minOnEnd then
    if st.stopPending then stopStage now minOff { st with state := .running } else { st with state := .running }
  else st

/-- R67: the minimum-on end of one stage. -/
def minimumOnEnds (e : Env) (u : UnitIx) (i : Slot) (r : Roof) : Roof :=
  (moveUnit e u (fun p => p.modUnit u fun x => x.modStage i (endMinOn e.now (minOffOf e.tables u i))) r).onPlant
    fun p => reselect u (refreshTarget false u p)

/-- R66: a STARTING stage at its unit's window end. -/
def endStarting (now minOff : Nat) (st : Stage) : Stage :=
  if st.state = .starting then endMinOn now minOff { st with state := .runMin } else st

/-- R66: a running window has reached its end. -/
def windowDue (now : Nat) (w : Option Window) : Bool :=
  match w with
  | some w => w.anchor + w.length ≤ now
  | none => false

/-- R66: the end of a unit's blanking window. -/
def blankingEnds (e : Env) (u : UnitIx) (r : Roof) : Roof :=
  if windowDue e.now (r.plant.unit u).window then
    (moveUnit e u (fun p => p.modUnit u fun x =>
      { x.mapStages fun i st => endStarting e.now (minOffOf e.tables u i) st with window := none }) r).onPlant
      fun p => reselect u (refreshTarget false u p)
  else r

/-! ## Trips (R72, R73) -/

/-- R135: the cause's scope includes the slot. -/
def Cause.covers (c : Cause) (i : Slot) : Bool :=
  match c.tripClass with
  | .hp | .lp | .ovc => decide (c.position = some i.val)
  | .frz => decide (slotKind i = .cool)
  | .flm => decide (slotKind i = .heat)
  | .fpf | .smk | .shutdown => true
  | .band =>
    match c.applies with
    | .any => true
    | .coolingOn => decide (slotKind i = .cool)
    | .heatingOn => decide (slotKind i = .heat)

/-- R137: the state in which the causes hold a slot, none when its active trip set is empty. -/
def trippedState (causes : List Cause) (i : Slot) : Option StageState :=
  if causes.any fun c => c.covers i && c.latched then some .trippedLatched
  else if causes.any fun c => c.covers i then some .trippedAuto
  else none

/-- R72: a stage whose slot a cause has been entered for, or escalated for. The minimum-on end of the run cut short
keeps its value (DESIGN CHOICE: log entry 38). -/
def tripStage (now minOff : Nat) (causes : List Cause) (i : Slot) (st : Stage) : Stage :=
  match trippedState causes i with
  | none => st
  | some ts =>
    if st.state.isOn then
      { st with state := ts, stopPending := false, stopTime := some now, minOffEnd := some (now + minOff) }
    else { st with state := ts }

/-- R73: a tripped stage from whose set causes have been removed. -/
def releaseStage (inLocal : Bool) (now minOff : Nat) (causes : List Cause) (i : Slot) (st : Stage) : Stage :=
  if st.state.isTripped then
    match trippedState causes i with
    | some ts => { st with state := ts }
    | none =>
      if inLocal then { st with state := .inLocal } else stopStage now minOff st
  else st

/-- R72: the bound slots for which `scope` holds are moved for the causes the unit now has; the change of
the target map is a protection change, and the unit is settled. -/
def tripSlots (e : Env) (u : UnitIx) (scope : Slot → Bool) (r : Roof) : Roof :=
  settle e u ((moveUnit e u (fun p => p.modUnit u fun x =>
    x.mapStages fun i st =>
      if (e.cfg u).bound i && scope i then tripStage e.now (minOffOf e.tables u i) x.causes i st else st) r).onPlant
    (refreshTarget true u))

/-- R73: the bound slots for which `scope` holds are handed on for the causes left; the unit is settled. -/
def releaseSlots (e : Env) (u : UnitIx) (scope : Slot → Bool) (r : Roof) : Roof :=
  settle e u ((moveUnit e u (fun p => p.modUnit u fun x =>
    x.mapStages fun i st =>
      if (e.cfg u).bound i && scope i then
        releaseStage (decide (x.state = .inLocal)) e.now (minOffOf e.tables u i) x.causes i st
      else st) r).onPlant (refreshTarget false u))

end Sys2Proof.Machine
end

