-- ==== Sys2Proof/Machine/Power.lean ====
section
/-! DEFINITION. A unit's estimate and the power the demand meter takes of it (R53, R54), and the forecast
formula (R101, R103). -/

namespace Sys2Proof.Machine

/-- R53: the slot is on in the target map or in the acknowledged map. -/
def onInEither (r : UnitRec) (i : Slot) : Bool := r.target.has i || r.ack.has i

/-- R53: the estimate includes the base rating. -/
def baseIncluded (r : UnitRec) : Bool :=
  allSlots.any (onInEither r) || (match r.status with | some st => st.run.fan | none => false)

/-- The rating of the profile a slot is bound to; 0 for a slot that is not bound. -/
def ratingOf (e : Env) (u : UnitIx) (i : Slot) : Nat :=
  match e.profile u i with
  | some pr => pr.rating
  | none => 0

/-- R53: a unit's estimate, saturating at 65535. -/
def estimate (e : Env) (u : UnitIx) (r : UnitRec) : Nat :=
  min 65535 (((allSlots.filter (onInEither r)).map (ratingOf e u)).sum
    + (if baseIncluded r then (e.cfg u).baseRating else 0))

/-- R54: the status record is present and no older than the stale limit. -/
def statusFresh (e : Env) (r : UnitRec) : Option Status :=
  r.status.filter fun st => st.age ≤ e.tables.roof.staleLimit

/-- R54: the power the demand meter takes of a unit. -/
def unitPower (e : Env) (u : UnitIx) (r : UnitRec) : Nat :=
  match r.state with
  | .absent => 0
  | .offline => estimate e u r
  | .unadopted | .online =>
    match statusFresh e r with
    | some st => if r.fresh ∧ r.window.isNone then st.power else estimate e u r
    | none => estimate e u r
  | .inLocal =>
    match statusFresh e r with
    | some st => st.power
    | none => estimate e u r

/-- R99: the roof power, saturating at 65535. -/
def roofPower (e : Env) (p : Plant) : Nat :=
  min 65535 (allUnits.map fun u => unitPower e u (p.unit u)).sum

/-- R101: the forecast average of an interval of length `T` after `t` samples of energy `E` at power `P`. -/
def forecastOf (t E T P : Nat) : Nat := if t ≤ T then (E + P * (T - t)) / T else E / t

end Sys2Proof.Machine
end

