-- ==== Sys2Proof/Machine/Admission.lean ====
section
/-! DEFINITION. The admission unit: aging, the six tests, the queued grant and the manual start
(R85 to R87, R89 to R96). -/

namespace Sys2Proof.Machine

/-! ## The tests (R90 to R94) -/

/-- R63, R90: the unit's QUEUED slot of a kind. -/
def queuedSlot (r : UnitRec) (k : Kind) : Option Slot :=
  (slotsOf k).find? fun i => decide (r.stages[i].state = .queued)

/-- The other kind. -/
def otherKind : Kind → Kind
  | .cool => .heat
  | .heat => .cool

/-- R76: some slot of the kind is on for changeover. -/
def onForChangeover (r : UnitRec) (k : Kind) : Bool := (slotsOf k).any (onInEither r)

/-- R91: an INHIBIT band of the kind is OUTSIDE for the unit. -/
def bandInhibits (e : Env) (r : UnitRec) (k : Kind) : Bool :=
  (List.finRange 16).any fun b =>
    decide (e.tables.bands[b].action = .inhibit) && decide (r.pairs[b].state = .outside) &&
    decide (k = (match e.tables.bands[b].applies with | .heatingOn => Kind.heat | _ => Kind.cool))

/-- R92: the roof stagger timer is running. -/
def staggerRunning (e : Env) (p : Plant) : Bool :=
  match p.staggerEnd with
  | some t => e.now < t
  | none => false

/-- R93: the candidate rating of a slot with its profile. -/
def candidateRating (e : Env) (u : UnitIx) (pr : Profile) (p : Plant) : Nat :=
  pr.rating + (if baseIncluded (p.unit u) then 0 else (e.cfg u).baseRating)

/-- R94, R103: the candidate forecast: P + G + r in place of P, saturating at 65535. -/
def candidateForecast (e : Env) (p : Plant) (r : Nat) : Nat :=
  forecastOf e.meter.clock e.meter.energy e.tables.roof.intervalLength
    (min 65535 (e.meter.power + p.grantSum + r))

/-- R94: the admission limit L. -/
def admissionLimit (e : Env) : Nat := e.shed.ceiling - e.tables.roof.admissionReserve

/-- R94: the demand test passes; it is not made at an effective ceiling of 65535. -/
def demandPasses (e : Env) (p : Plant) (r : Nat) : Bool :=
  decide (e.shed.ceiling = 65535) || decide (candidateForecast e p r ≤ admissionLimit e)

/-- R89 to R94: the first test an entry fails, in the order of the table; NONE when it passes all six. -/
def testEntry (e : Env) (p : Plant) (n : Entry) : SkipReason :=
  let r := p.unit n.unit
  match queuedSlot r n.kind with
  | none => .lockout
  | some i =>
    if r.stages[i].force = .forceOn then .manualOnly
    else if onForChangeover r (otherKind n.kind) then .changeover
    else if n.kind = .cool ∧ coolingCap e n.unit ≤ joiningCount r .cool then .shedCap
    else if (n.kind = .cool ∧ r.gateClosed) ∨ bandInhibits e r n.kind then .gated
    else
      match e.profile n.unit i with
      | none => .lockout
      | some pr =>
        if pr.inrush ∧ staggerRunning e p then .stagger
        else if demandPasses e p (candidateRating e n.unit pr p) then .none
        else .demand

/-- R89: the walk of the queue from the head: each failing entry records its reason; the first that passes
is granted, and entries beyond it are not tested. -/
def walkQueue (e : Env) (p : Plant) : List Entry → List Entry × Option Entry
  | [] => ([], none)
  | n :: rest =>
    match testEntry e p n with
    | .none => ({ n with skip := .none } :: rest, some n)
    | why => ({ n with skip := why } :: (walkQueue e p rest).1, (walkQueue e p rest).2)

/-! ## Grants (R64, R85, R92, R93, R95, R96) -/

/-- R92, R93, R95: a slot is granted: the stagger timer starts for an inrush profile, the candidate rating
is added to G, and the sequencer starts the slot. -/
def grantSlot (e : Env) (u : UnitIx) (i : Slot) (pr : Profile) (r : Roof) : Roof :=
  startSlot e u i pr (r.onPlant fun p =>
    { p with
      staggerEnd := if pr.inrush then some (e.now + e.tables.roof.staggerTime) else p.staggerEnd
      grantSum := satAdd 65535 p.grantSum (candidateRating e u pr p) })

/-- R85: the granted entry, when it has not left, is re-queued at the back of its current class. -/
def requeue (e : Env) (u : UnitIx) (k : Kind) (p : Plant) : Plant :=
  match p.queue.find? fun n => n.isOf u k with
  | none => p
  | some n =>
    reselect u
      { p with
        queue := insertEntry { n with sequence := p.sequence, joinTime := e.now, skip := .none }
          (p.queue.filter fun m => !m.isOf u k)
        sequence := nextSequence p.sequence }

/-- R96: a manual start that meets every condition. -/
def manualReady (e : Env) (p : Plant) (u : UnitIx) (i : Slot) : Option Profile :=
  let r := p.unit u
  if r.stages[i].force = .forceOn ∧ r.stages[i].state.isFree ∧ r.state = .online ∧ !r.isolated
      ∧ !onForChangeover r (otherKind (slotKind i)) then
    (e.profile u i).filter fun pr => !(pr.inrush && staggerRunning e p)
  else none

/-- R96: the unit and slot pairs in ascending address order, within a unit in slot order. -/
def unitSlots : List (UnitIx × Slot) := allUnits.flatMap fun u => allSlots.map fun i => (u, i)

/-- R96: the first manual start that is granted. -/
def firstManual (e : Env) (p : Plant) : Option (UnitIx × Slot × Profile) :=
  unitSlots.findSome? fun ui => (manualReady e p ui.1 ui.2).map fun pr => (ui.1, ui.2, pr)

/-- R89, R95: a granted entry: its slot is started, and the entry leaves or is re-queued. -/
def grantEntry (e : Env) (n : Entry) (r : Roof) : Roof :=
  match queuedSlot (r.plant.unit n.unit) n.kind with
  | none => r
  | some i =>
    match e.profile n.unit i with
    | none => r
    | some pr => (grantSlot e n.unit i pr r).onPlant (requeue e n.unit n.kind)

/-- R89: one admission pass: a manual start, or else the walk of the queue. -/
def admissionPass (e : Env) (r : Roof) : Roof :=
  match firstManual e r.plant with
  | some (u, i, pr) => grantSlot e u i pr r
  | none =>
    let walked := walkQueue e r.plant r.plant.queue
    match walked.2 with
    | none => r.onPlant fun p => { p with queue := walked.1 }
    | some n => grantEntry e n (r.onPlant fun p => { p with queue := walked.1 })

/-- R83, R89: passes while one is due; `n` bounds them. -/
def runPasses (e : Env) : Nat → Roof → Roof
  | 0, r => r.onPlant fun p => { p with passDue := false }
  | n + 1, r =>
    if r.plant.passDue then runPasses e n (admissionPass e (r.onPlant fun p => { p with passDue := false })) else r

/-- R83, R89: the pass that follows an event in which an entry joined an empty queue. The pass is an event
itself: where an entry joins an empty queue in it, one more follows, at most one for each of the 64 entries. -/
def runDuePass (e : Env) (r : Roof) : Roof := runPasses e 64 r

/-! ## Aging and class changes (R86, R87) -/

/-- R86: an entry at a tick. -/
def ageEntry (now aging : Nat) (n : Entry) : Entry :=
  if 0 < n.currentClass ∧ aging ≤ now - n.joinTime then
    { n with currentClass := n.currentClass - 1, joinTime := now }
  else n

/-- R86: the queue aged, in its new order. -/
def ageQueue (e : Env) (p : Plant) : Plant :=
  { p with queue := orderQueue (p.queue.map (ageEntry e.now e.tables.roof.agingTime)) }

/-- R87: the unit's entries take a new class. -/
def reclassEntries (u : UnitIx) (cls : Nat) (p : Plant) : Plant :=
  { p with queue := orderQueue (p.queue.map fun n =>
      if n.unit = u then { n with baseClass := cls, currentClass := cls } else n) }

end Sys2Proof.Machine
end

