-- ==== Sys2Proof/Machine/Protection.lean ====
section
/-! DEFINITION. The protection unit: entering, releasing and escalating causes, strikes, captures, CLEAR_TRIP,
the roof shutdown, and the supervision bands (chapter 8). -/

namespace Sys2Proof.Machine

/-! ## Policies, positions and notices -/

/-- R136: the policy that governs a class; none for SMK and SHUTDOWN. -/
def policyOf (t : Tables) : TripClass → Option Policy
  | .hp => some t.policies[0]
  | .lp => some t.policies[1]
  | .ovc => some t.policies[2]
  | .frz => some t.policies[3]
  | .flm => some t.policies[4]
  | .fpf => some t.policies[5]
  | .band => some t.roof.bandPolicy
  | .smk | .shutdown => none

/-- R140: the latched mark of a cause at its entry. -/
def latchedAtEntry (t : Tables) (c : TripClass) : Bool :=
  match c with
  | .smk => true
  | _ => match policyOf t c with
    | some p => decide (p.mode = .latched)
    | none => false

/-- R139: the class's blankable flag. -/
def blankable (t : Tables) (c : TripClass) : Bool :=
  match policyOf t c with
  | some p => p.blankable
  | none => false

/-- The cause is of the class and position. -/
def Cause.isOf (c : Cause) (cls : TripClass) (pos : Option Nat) : Bool :=
  decide (c.tripClass = cls) && decide (c.position = pos)

/-- R137: the unit holds a cause of the class and position. -/
def holdsCause (r : UnitRec) (cls : TripClass) (pos : Option Nat) : Bool := r.causes.any (·.isOf cls pos)

/-- R135: HP, LP and OVC stand at a circuit slot; every other class has unit scope. -/
def TripClass.isCircuit : TripClass → Bool
  | .hp | .lp | .ovc => true
  | .frz | .flm | .fpf | .smk | .band | .shutdown => false

/-! ## Captures (R146) -/

/-- R146: the start times of the bound slots of the cause's scope that are on. -/
def startsInScope (e : Env) (u : UnitIx) (c : Cause) (r : UnitRec) : List Nat :=
  (allSlots.filter fun i => (e.cfg u).bound i && c.covers i && r.stages[i].state.isOn).filterMap
    fun i => r.stages[i].startTime

/-- R146: the capture of a cause's entry in a unit, from the record before the cause's stages move. -/
def captureOf (e : Env) (u : UnitIx) (c : Cause) (r : UnitRec) : Capture where
  time := e.now
  unit := unitAddr u
  tripClass := c.tripClass
  slot := if c.tripClass.isCircuit then c.position else none
  sinceStart :=
    match startsInScope e u c r with
    | [] => none
    | t :: ts => some (e.now - ts.foldl max t)
  power := (statusFresh e r).map (·.power)
  forecast := e.meter.forecast
  level := e.shed.level

/-! ## Entering a cause (R140) -/

/-- R140: a cause is entered: it joins the list, one capture is made, a TRIP notice is raised, the slots in
its scope are tripped, and the unit is settled. -/
def enterCause (e : Env) (u : UnitIx) (cls : TripClass) (pos : Option Nat) (ap : AppliesWhen) (r : Roof) :
    Roof :=
  let c : Cause := ⟨cls, pos, ap, latchedAtEntry e.tables cls, true, e.now⟩
  let cap := captureOf e u c (r.plant.unit u)
  let r1 : Roof := { r with plant := r.plant.modUnit u fun x => { x with causes := x.causes ++ [c] } }
  let r2 := (r1.addCapture e cap).raise e .trip (unitAddr u) pos (some cls.code)
  tripSlots e u c.covers r2

/-! ## Strikes (R142) -/

/-- R142: a strike appended: aged strikes leave, the present second joins, and at most 7 are kept. -/
def strike (now window : Nat) (times : List Nat) : List Nat :=
  let l := times.dropWhile (fun t => window < now - t) ++ [now]
  if Config.strikePlaces < l.length then l.drop 1 else l

/-- R142: the strike times of a class and position. -/
def strikesOf (r : UnitRec) (cls : TripClass) (pos : Option Nat) : List Nat :=
  match r.strikes.find? fun s => decide (s.tripClass = cls) && decide (s.position = pos) with
  | some s => s.times
  | none => []

/-- R142, R144: the strike list of a class and position replaced; an empty list is not held. -/
def setStrikes (cls : TripClass) (pos : Option Nat) (times : List Nat) (r : UnitRec) : UnitRec :=
  let others := r.strikes.filter fun s => !(decide (s.tripClass = cls) && decide (s.position = pos))
  { r with strikes := if times.isEmpty then others else others ++ [⟨cls, pos, times⟩] }

/-! ## Release and escalation (R141) -/

/-- A cause leaves the list, TRIP_CLEARED is raised, and its slots are handed to R73. -/
def removeCause (e : Env) (u : UnitIx) (c : Cause) (r : Roof) : Roof :=
  let r1 : Roof := { r with plant := r.plant.modUnit u fun x =>
    { x with causes := x.causes.filter fun d => !d.isOf c.tripClass c.position } }
  releaseSlots e u c.covers (r1.raise e .tripCleared (unitAddr u) c.position (some c.tripClass.code))

/-- R141: a cause is escalated: its mark is set, it stays with its condition absent, its slots go
TRIPPED_LATCHED, and LATCH_ESCALATED is raised with the strikes held, behind a LEAD_SWAPPED of that move (DESIGN
CHOICE: log entry 45). -/
def escalateCause (e : Env) (u : UnitIx) (c : Cause) (held : Nat) (r : Roof) : Roof :=
  (tripSlots e u c.covers (r.onPlant fun p => p.modUnit u fun x =>
    { x with causes := x.causes.map fun d =>
        if d.isOf c.tripClass c.position then { d with latched := true, present := false } else d })).raise e
    .latchEscalated (unitAddr u) c.position (some held)

/-- R141: an automatic cause whose condition is absent: a strike for an editable class, then escalation at
the limit or release. -/
def releaseCause (e : Env) (u : UnitIx) (c : Cause) (r : Roof) : Roof :=
  match policyOf e.tables c.tripClass with
  | none => removeCause e u c r
  | some pol =>
    let times := strike e.now e.tables.roof.strikeWindow (strikesOf (r.plant.unit u) c.tripClass c.position)
    let r1 : Roof := { r with plant := r.plant.modUnit u (setStrikes c.tripClass c.position times) }
    if pol.strikeLimit ≤ times.length then escalateCause e u c times.length r1 else removeCause e u c r1

/-! ## The fault conditions of a fold (R135, R138, R139) -/

/-- R138: the fault conditions in the order they are read: HP, LP and OVC of each cooling slot, then FRZ,
FLM, FPF and SMK. -/
def faultConditions : List (TripClass × Option Nat) :=
  [(.hp, some 0), (.lp, some 0), (.ovc, some 0), (.hp, some 1), (.lp, some 1), (.ovc, some 1),
   (.hp, some 2), (.lp, some 2), (.ovc, some 2), (.hp, some 3), (.lp, some 3), (.ovc, some 3),
   (.frz, none), (.flm, none), (.fpf, none), (.smk, none)]

/-- R135, 11.3: the fold shows the condition; a circuit bit of a slot that is not bound is ignored. -/
def conditionShown (c : UnitCfg) (st : Status) (cls : TripClass) (pos : Option Nat) : Bool :=
  let circuit (k : Nat) : Bool :=
    match pos with
    | some j => if h : j < 7 then c.bound ⟨j, h⟩ && st.circuitFaults.getLsbD (3 * j + k) else false
    | none => false
  match cls with
  | .hp => circuit 0
  | .lp => circuit 1
  | .ovc => circuit 2
  | .frz => st.unitFaults.getLsbD 0
  | .flm => st.unitFaults.getLsbD 1
  | .fpf => st.unitFaults.getLsbD 2
  | .smk => st.unitFaults.getLsbD 3
  | .band | .shutdown => false

/-- R138 step 2, R139: a condition shown that has no active cause enters one, unless its class is blankable
and the unit's blanking window is running. -/
def enterIfShown (e : Env) (u : UnitIx) (shown : Bool) (cls : TripClass) (pos : Option Nat) (ap : AppliesWhen)
    (r : Roof) : Roof :=
  let x := r.plant.unit u
  if shown ∧ !holdsCause x cls pos ∧ !(blankable e.tables cls && x.window.isSome) then
    enterCause e u cls pos ap r
  else r

/-- R138 step 3: the condition flag of an active cause follows the evaluation. -/
def setPresent (u : UnitIx) (cls : TripClass) (pos : Option Nat) (shown : Bool) (p : Plant) : Plant :=
  p.modUnit u fun x =>
    { x with causes := x.causes.map fun c => if c.isOf cls pos then { c with present := shown } else c }

/-- R138 step 3, R143: the flag of an active cause is set, and an automatic cause whose condition is absent
is released. -/
def followCondition (e : Env) (u : UnitIx) (shown : Bool) (cls : TripClass) (pos : Option Nat) (r : Roof) :
    Roof :=
  let r1 : Roof := { r with plant := setPresent u cls pos shown r.plant }
  match (r1.plant.unit u).causes.find? (·.isOf cls pos) with
  | none => r1
  | some c => if shown ∨ c.latched then r1 else releaseCause e u c r1

/-- R138 steps 1 to 3: the fault conditions of a folded status. -/
def foldFaults (e : Env) (u : UnitIx) (st : Status) (r : Roof) : Roof :=
  let cfg := e.cfg u
  let r1 := faultConditions.foldl
    (fun q cp => enterIfShown e u (conditionShown cfg st cp.1 cp.2) cp.1 cp.2 .any q) r
  faultConditions.foldl (fun q cp => followCondition e u (conditionShown cfg st cp.1 cp.2) cp.1 cp.2 q) r1

/-! ## Supervision bands (R148 to R152) -/

/-- R148: the quantity a band watches, in the folded status; none for "no value". -/
def quantityValue (st : Status) : Quantity → Option Int
  | .supply => st.supply
  | .ret => st.ret
  | .space => st.space
  | .outside => st.outside
  | .delta =>
    match st.ret, st.supply with
    | some a, some b => some (a - b)
    | _, _ => none
  | .damper => some st.damper

/-- R149: the band's applies-when holds of the folded run map. -/
def appliesTo (st : Status) : AppliesWhen → Bool
  | .any => true
  | .coolingOn => (slotsOf .cool).any st.run.has
  | .heatingOn => (slotsOf .heat).any st.run.has

/-- R150: an applicable pair judged by the quantity's value. -/
def judge (b : BandRec) (v : Option Int) (was : PairState) : PairState :=
  match v with
  | none => was
  | some v =>
    if v < b.low ∨ b.high < v then .outside
    else if was = .outside ∧ ¬(b.low + b.hysteresis ≤ v ∧ v ≤ b.high - b.hysteresis) then .outside
    else .inside

/-- R149, R150: a pair at a fold of its unit. -/
def evaluatePair (now : Nat) (u : UnitIx) (b : BandRec) (st : Status) (q : BandPair) : BandPair :=
  if b.mask.getLsbD u.val && appliesTo st b.applies then
    let anchor := q.anchor.getD now
    if now - anchor < b.settle then ⟨.notApplicable, some anchor⟩
    else ⟨judge b (quantityValue st b.quantity) q.state, some anchor⟩
  else blankPair

/-- R151: the notice of a pair's crossing. -/
def crossingNotice (e : Env) (u : UnitIx) (b : Fin 16) (v : Option Int) (was now : PairState) (r : Roof) : Roof :=
  match was, now with
  | .notApplicable, .outside | .inside, .outside => r.raise e .bandOut (unitAddr u) (some b.val) v
  | .outside, .inside => r.raise e .bandIn (unitAddr u) (some b.val) v
  | .outside, .notApplicable => r.raise e .bandIn (unitAddr u) (some b.val) none
  | _, _ => r

/-- R149 to R151: one band evaluated at a fold, with its crossing's notice. -/
def evaluateBand (e : Env) (u : UnitIx) (st : Status) (b : Fin 16) (r : Roof) : Roof :=
  let rec0 := e.tables.bands[b]
  let was := (r.plant.unit u).pairs[b]
  let next := evaluatePair e.now u rec0 st was
  crossingNotice e u b (quantityValue st rec0.quantity) was.state next.state
    { r with plant := r.plant.modUnit u fun x => { x with pairs := x.pairs.set b next } }

/-- R151: the condition of a unit's BAND cause for a band is present. -/
def bandCondition (e : Env) (r : UnitRec) (b : Fin 16) : Bool :=
  decide (e.tables.bands[b].action = .trip) && decide (r.pairs[b].state = .outside)

/-- R138 step 4: the bands are evaluated; then new BAND causes are entered, and then BAND causes released; the 16
bands in ascending number at each (DESIGN CHOICE: log entry 41). -/
def foldBands (e : Env) (u : UnitIx) (st : Status) (r : Roof) : Roof :=
  let r1 := (List.finRange 16).foldl (fun q b => evaluateBand e u st b q) r
  let r2 := (List.finRange 16).foldl (fun q b =>
    enterIfShown e u (bandCondition e (q.plant.unit u) b) .band (some b.val) e.tables.bands[b].applies q) r1
  (List.finRange 16).foldl (fun q b =>
    followCondition e u (bandCondition e (q.plant.unit u) b) .band (some b.val) q) r2

/-- R152: the pair of a band and unit is reset at an installation: BAND_IN without a value when it was
OUTSIDE; an automatic BAND cause is removed without a strike, and a latched one stays with its condition
absent. -/
def resetPair (e : Env) (u : UnitIx) (b : Fin 16) (r : Roof) : Roof :=
  let was := (r.plant.unit u).pairs[b].state
  let r1 : Roof := { r with plant := r.plant.modUnit u fun x => { x with pairs := x.pairs.set b blankPair } }
  let r2 := if was = .outside then r1.raise e .bandIn (unitAddr u) (some b.val) none else r1
  let r3 : Roof := { r2 with plant := setPresent u .band (some b.val) false r2.plant }
  match (r3.plant.unit u).causes.find? (·.isOf .band (some b.val)) with
  | none => r3
  | some c => if c.latched then r3 else removeCause e u c r3

/-! ## CLEAR_TRIP (R144) -/

/-- R144: the latched causes a CLEAR_TRIP selects; a slot of none stands for ALL. -/
def selectedCauses (r : UnitRec) (slot : Option Slot) : List Cause :=
  r.causes.filter fun c => c.latched && (match slot with | some i => c.covers i | none => true)

/-- R16, R144: the detail byte of CONDITION_PRESENT: the slot index of the first circuit cause in slot order
whose condition is present, or 0xFF for a unit-scope cause; none when no selected condition is present. -/
def presentDetail (sel : List Cause) : Option Nat :=
  match allSlots.find? fun i =>
      sel.any fun c => c.present && c.tripClass.isCircuit && decide (c.position = some i.val) with
  | some i => some i.val
  | none => if sel.any (·.present) then some 255 else none

/-- R144: a unit record without a cause and with its strike list emptied. -/
def forgetCause (c : Cause) (x : UnitRec) : UnitRec :=
  setStrikes c.tripClass c.position []
    ({ x with causes := x.causes.filter fun d => !d.isOf c.tripClass c.position })

/-- R144: one selected cause is removed, its strike list emptied, and TRIP_CLEARED raised. -/
def clearCause (e : Env) (u : UnitIx) (r : Roof) (c : Cause) : Roof :=
  Roof.raise e .tripCleared (unitAddr u) c.position (some c.tripClass.code)
    { r with plant := r.plant.modUnit u (forgetCause c) }

/-- R144: the selected causes are cleared in list order, and their slots handed to R73; a CLEAR_TRIP that
selects none changes nothing. -/
def clearCauses (e : Env) (u : UnitIx) (sel : List Cause) (r : Roof) : Roof :=
  if sel.isEmpty then r
  else
    releaseSlots e u (fun i => sel.any (·.covers i)) (sel.foldl (clearCause e u) r)

/-! ## Roof shutdown (R145) -/

/-- R145: an ONLINE unit gets a protection injection, also where its target map was all off already (DEDUCED: log
entry 35). -/
def injectShutdown (u : UnitIx) (p : Plant) : Plant :=
  if (p.unit u).state = .online then p.inject u true else p

/-- R145: the SHUTDOWN cause of one unit, with no capture and no notice of its own. -/
def enterShutdown (e : Env) (u : UnitIx) (r : Roof) : Roof :=
  if holdsCause (r.plant.unit u) .shutdown none then r
  else
    (tripSlots e u (fun _ => true) (r.onPlant fun p => p.modUnit u fun x =>
      { x with causes := x.causes ++ [⟨.shutdown, none, .any, false, true, e.now⟩] })).onPlant (injectShutdown u)

/-- The fitted units, ascending. -/
def fittedUnits (t : Tables) : List UnitIx := allUnits.filter fun u => t.units[u].fitted

/-- R145, R146: an assertion: one capture and one TRIP notice for the roof, and a SHUTDOWN cause in every
fitted unit. -/
def shutdownAssert (e : Env) (r : Roof) : Roof :=
  let cap : Capture := ⟨e.now, 0, .shutdown, none, none, none, e.meter.forecast, e.shed.level⟩
  (fittedUnits e.tables).foldl (fun q u => enterShutdown e u q)
    ((r.addCapture e cap).raise e .trip 0 none (some TripClass.shutdown.code))

/-- R141, R145: the SHUTDOWN cause of one unit is released, without a strike. -/
def leaveShutdown (e : Env) (u : UnitIx) (r : Roof) : Roof :=
  if holdsCause (r.plant.unit u) .shutdown none then
    releaseSlots e u (fun _ => true) (r.onPlant fun p => p.modUnit u fun x =>
      { x with causes := x.causes.filter fun c => !c.isOf .shutdown none })
  else r

/-- R145: a release: one TRIP_CLEARED notice for the roof, and every unit's SHUTDOWN cause is released. -/
def shutdownRelease (e : Env) (r : Roof) : Roof :=
  (fittedUnits e.tables).foldl (fun q u => leaveShutdown e u q)
    (r.raise e .tripCleared 0 none (some TripClass.shutdown.code))

end Sys2Proof.Machine
end

