-- ==== Sys2Proof/Machine/Units.lean ====
section
/-! DEFINITION. The unit table: taking calls, the outcome of a transaction, the status fold with adoption and
hand mode, proving, isolation (chapter 3; R23, R34, R79). -/

namespace Sys2Proof.Machine

/-! ## Taking a call (R23) -/

/-- The slots of a kind bound to a profile. -/
def boundCount (c : UnitCfg) (k : Kind) : Nat := ((slotsOf k).filter c.bound).length

/-- R23, R42: the call record a STAGE_CALL's payload gives, clamped to the unit's bound slots. -/
def callOf (c : UnitCfg) (payload : List Byte) : Call where
  cool := min (u8At payload 0) (boundCount c .cool)
  heat := min (u8At payload 1) (boundCount c .heat)
  coolClamped := decide (boundCount c .cool < u8At payload 0)
  heatClamped := decide (boundCount c .heat < u8At payload 1)
  fanOn := decide (u8At payload 2 ≠ 0)
  economizer := decide (u8At payload 3 ≠ 0)
  occupied := decide (u8At payload 4 ≠ 0)
  age := 0

/-- R23: a STAGE_CALL that passed the request checks is taken, and the sequencer takes the changed call. -/
def takeCall (e : Env) (u : UnitIx) (payload : List Byte) (r : Roof) : Roof :=
  settle e u (r.onPlant fun p => p.modUnit u fun x => { x with call := callOf (e.cfg u) payload })

/-- R42: a call clamped again to the unit's bound slots. -/
def reclamp (c : UnitCfg) (k : Call) : Call :=
  { k with
    cool := min k.cool (boundCount c .cool)
    heat := min k.heat (boundCount c .heat)
    coolClamped := k.coolClamped || decide (boundCount c .cool < k.cool)
    heatClamped := k.heatClamped || decide (boundCount c .heat < k.heat) }

/-! ## Repetition (R34) -/

/-- R34: the acknowledged map has on a tripped slot, or the fan ON while a trip forces it off. -/
def protectionDue (r : UnitRec) : Bool :=
  (allSlots.any fun i => r.ack.has i && r.stages[i].state.isTripped) || (r.ack.fan && fanForcedOff r)

/-- R34, R51: an ONLINE unit whose acknowledged and target maps differ gets a pending injection when none is
pending; one that is pending keeps its mark (DEDUCED: log entry 44). -/
def repetition (u : UnitIx) (p : Plant) : Plant :=
  let r := p.unit u
  if r.state = .online ∧ r.ack ≠ r.target ∧ u ∉ p.injections then p.inject u (protectionDue r) else p

/-! ## Hand mode (R55, R56) -/

/-- R55: the maps of a LOCAL unit follow its report. -/
def followReport (u : UnitIx) (run : StageMap) (p : Plant) : Plant :=
  (writeTarget false u run p).modUnit u fun r => { r with ack := run }

/-- R55: the unit enters LOCAL: its stages, entries and injection. A minimum-on end keeps its value (DESIGN CHOICE:
log entry 38). -/
def enterLocal (e : Env) (u : UnitIx) (r : Roof) : Roof :=
  (withdrawEntries e u (r.onPlant fun p => p.modUnit u fun x =>
    { x.mapStages fun i st =>
        if (e.cfg u).bound i && !st.state.isTripped then { st with state := .inLocal, stopPending := false }
        else st with
      state := .inLocal })).onPlant fun p => p.dropInjection u

/-- R56: the unit leaves LOCAL for the state given: its LOCAL stages stop, and an all-off map is written
after the unit state has changed. -/
def leaveLocal (e : Env) (u : UnitIx) (next : UnitState) (r : Roof) : Roof :=
  (moveUnit e u (fun p => p.modUnit u fun x =>
    { x.mapStages fun i st =>
        if st.state = .inLocal then stopStage e.now (minOffOf e.tables u i) st else st with
      state := next }) r).onPlant (refreshTarget false u)

/-! ## Outcomes of transactions (R44, R45, R57) -/

/-- R57: an OFFLINE unit has no entry and no pending injection. -/
def enterOffline (e : Env) (u : UnitIx) (r : Roof) : Roof :=
  let r1 :=
    if (r.plant.unit u).state = .inLocal then leaveLocal e u .offline r
    else r.onPlant fun p => p.modUnit u fun x => { x with state := .offline }
  (withdrawEntries e u r1).onPlant fun p => p.dropInjection u

/-- R44: an unanswered transaction is reported to the unit record; UNIT_OFFLINE is raised after the effects of the move
(DESIGN CHOICE: log entry 45). -/
def reportUnanswered (e : Env) (u : UnitIx) (r : Roof) : Roof :=
  let n := satAdd 255 (r.plant.unit u).failures 1
  let r1 : Roof := { r with plant := r.plant.modUnit u fun x => { x with failures := n } }
  match (r.plant.unit u).state with
  | .unadopted | .online | .inLocal =>
    if e.tables.roof.offlineThreshold ≤ n then
      Roof.raise e .unitOffline (unitAddr u) none (some n) (enterOffline e u r1)
    else r1
  | .offline | .absent => r1

/-- R44, R45: an answered transaction that is not a fold is reported to the unit record. -/
def reportAnswered (u : UnitIx) (p : Plant) : Plant :=
  p.modUnit u fun r => { r with failures := 0, state := if r.state = .offline then .unadopted else r.state }

/-- R29: the echoed map becomes the acknowledged map. -/
def acknowledge (e : Env) (u : UnitIx) (b : Byte) (p : Plant) : Plant :=
  p.modUnit u fun r => { r with ack := mapOfByte (e.cfg u) b }

/-! ## The status fold (R48) -/

/-- R48: a temperature as folded. -/
def foldTemperature (raw offset : Int) : Option Int :=
  if raw = -32768 then none else some (clampInt (-400) 1200 (raw + offset))

/-- R48, R179, 11.3: the status record a status reply's payload gives. -/
def statusOf (c : UnitCfg) (l : List Byte) : Status where
  mode := byteAt l 0
  hand := decide (u8At l 1 ≠ 0)
  run := mapOfByte c (byteAt l 2)
  circuitFaults := BitVec.ofNat 16 (u16At l 3)
  unitFaults := byteAt l 5
  supply := foldTemperature (s16At l 6) c.offSupply
  ret := foldTemperature (s16At l 8) c.offReturn
  space := foldTemperature (s16At l 10) c.offSpace
  outside := foldTemperature (s16At l 12) c.offOutside
  damper := min 100 (u8At l 14)
  power := min c.powerLimit (u16At l 15)
  age := 0

/-- R50: one bound slot that is not tripped, compared with the unit's report. A run found stopped keeps its
minimum-on end (DESIGN CHOICE: log entry 38). -/
def adoptStage (e : Env) (u : UnitIx) (run : StageMap) (i : Slot) (st : Stage) : Stage :=
  if !(e.cfg u).bound i || st.state.isTripped then st
  else
    match st.state.isOn, run.has i with
    | true, true | false, false => st
    | true, false => stopStage e.now (minOffOf e.tables u i) st
    | false, true =>
      { st with
        state := .running
        stopPending := false
        startTime := some e.now
        minOnEnd := none
        startToStartEnd := some (e.now + (match e.profile u i with
          | some pr => pr.startToStart
          | none => 0)) }

/-- R50: the unit's record after the comparison; its NOT_PROVEN counts are 0 (R79). -/
def adoptStages (e : Env) (u : UnitIx) (run : StageMap) (r : UnitRec) : UnitRec :=
  { r.mapStages (adoptStage e u run) with notProven := tabulate fun _ => 0 }

/-- R51: the adopted map: the slots on after the comparison, the fan as reported. -/
def adoptedMap (run : StageMap) (r : UnitRec) : StageMap :=
  ⟨slotBits fun i => r.stages[i].state.isOn, run.fan⟩

/-- R51: the acknowledged map at adoption: the adopted map, with the tripped slots reported running. -/
def adoptedAck (run : StageMap) (r : UnitRec) : StageMap :=
  ⟨slotBits fun i => r.stages[i].state.isOn || (r.stages[i].state.isTripped && run.has i), run.fan⟩

/-- R50, R51: the unit is adopted into ONLINE. The adopted map is written before the unit is ONLINE, so that
write makes no injection; the call is then taken as changed, and an injection is asked for where the maps
differ. A fan that the settlement sets AUTO-OFF for a cause already held is an ordinary change (DEDUCED: log entry
37). UNIT_ONLINE is raised between the comparison and the settlement (DESIGN CHOICE: log entry 45). -/
def adoptOnline (e : Env) (u : UnitIx) (run : StageMap) (r : Roof) : Roof :=
  let r1 := moveUnit e u (fun p => p.modUnit u (adoptStages e u run)) r
  let r2 := r1.onPlant fun p => (writeTarget false u (adoptedMap run (p.unit u)) p).modUnit u fun x =>
    { x with ack := adoptedAck run x, state := .online, failures := 0 }
  (settle e u (r2.raise e .unitOnline (unitAddr u) none (some UnitState.online.code))).onPlant (repetition u)

/-- R52: the unit is adopted into LOCAL; its notices are raised after the effects of R55 (DESIGN CHOICE: log entry
45). -/
def adoptLocal (e : Env) (u : UnitIx) (r : Roof) : Roof :=
  let r1 := enterLocal e u (r.onPlant fun p => p.modUnit u fun x =>
    { x with failures := 0, notProven := tabulate fun _ => 0 })
  (r1.raise e .unitOnline (unitAddr u) none (some UnitState.inLocal.code)).raise e .unitLocal (unitAddr u) none none

/-- R46, R50, R52: step 1 of a fold: the unit state is settled; UNIT_LOCAL and UNIT_REMOTE are raised after the effects
of the move (DESIGN CHOICE: log entry 45). -/
def foldState (e : Env) (u : UnitIx) (st : Status) (r : Roof) : Roof :=
  match (r.plant.unit u).state, st.hand with
  | .unadopted, false | .offline, false => adoptOnline e u st.run r
  | .unadopted, true | .offline, true => adoptLocal e u r
  | .online, true =>
    (enterLocal e u r).raise e .unitLocal (unitAddr u) none none
  | .inLocal, false =>
    (settle e u (leaveLocal e u .online r)).raise e .unitRemote (unitAddr u) none none
  | .online, false | .inLocal, true | .absent, _ => r

/-! ## Proving (R79) -/

/-- R79: the slot is examined at the fold and found unproven. -/
def unproven (c : UnitCfg) (st : Status) (r : UnitRec) (i : Slot) : Bool :=
  c.bound i && r.stages[i].state.isProving && r.ack.has i && !st.run.has i &&
  decide (st.unitFaults &&& 0x0F = 0) &&
  (decide (slotKind i = .heat) ||
    !(st.circuitFaults.getLsbD (3 * i.val) || st.circuitFaults.getLsbD (3 * i.val + 1) ||
      st.circuitFaults.getLsbD (3 * i.val + 2)))

/-- R79: one slot at a fold: its NOT_PROVEN count, and the notice when it reaches 2. -/
def proveSlot (e : Env) (u : UnitIx) (st : Status) (r : Roof) (i : Slot) : Roof :=
  let x := r.plant.unit u
  let n := if unproven (e.cfg u) st x i then satAdd 255 x.notProven[i] 1 else 0
  let r1 : Roof := { r with plant := r.plant.modUnit u fun y => { y with notProven := y.notProven.set i n } }
  if n = 2 ∧ x.notProven[i] = 1 then r1.raise e .notProven (unitAddr u) (some i.val) (some n) else r1

/-- R48 step 3, R79: proving at a fold of an ONLINE unit, in slot order (DESIGN CHOICE: log entry 47). -/
def foldProving (e : Env) (u : UnitIx) (st : Status) (r : Roof) : Roof :=
  if (r.plant.unit u).state = .online then allSlots.foldl (proveSlot e u st) r else r

/-! ## The whole fold -/

/-- R48: the status record is replaced, with POWER_CLAMPED where the received power is above the limit. -/
def storeStatus (e : Env) (u : UnitIx) (l : List Byte) (r : Roof) : Roof :=
  let r1 : Roof := { r with plant := r.plant.modUnit u fun x =>
    { x with status := some (statusOf (e.cfg u) l), fresh := true } }
  if (e.cfg u).powerLimit < u16At l 15 then
    r1.raise e .powerClamped (unitAddr u) none (some (u16At l 15))
  else r1

/-- R48 step 2: the maps of a LOCAL unit follow the report. -/
def foldLocalMaps (u : UnitIx) (st : Status) (r : Roof) : Roof :=
  if (r.plant.unit u).state = .inLocal then { r with plant := followReport u st.run r.plant } else r

/-- R29, R48: a good status reply to a fitted unit is folded: the record, then the unit state, the LOCAL
maps, proving, and protection with the bands. -/
def fold (e : Env) (u : UnitIx) (l : List Byte) (r : Roof) : Roof :=
  let st := statusOf (e.cfg u) l
  let r0 : Roof := { r with plant := r.plant.modUnit u fun x => { x with failures := 0 } }
  foldBands e u st (foldFaults e u st (foldProving e u st (foldLocalMaps u st (foldState e u st
    (storeStatus e u l r0)))))

/-- R37: the map whose counts a trailer gives when the fold adopted the unit: the adopted map of R51, or the
run map of a unit adopted into LOCAL; none when the fold adopted nothing. -/
def adoptionMap (e : Env) (u : UnitIx) (l : List Byte) (r : Roof) : Option StageMap :=
  let st := statusOf (e.cfg u) l
  match (r.plant.unit u).state with
  | .unadopted | .offline =>
    some (if st.hand then st.run else adoptedMap st.run (adoptStages e u st.run (r.plant.unit u)))
  | .online | .inLocal | .absent => none

/-! ## Isolation (R47) -/

/-- R47: the isolation flag is set, and the unit's entries are withdrawn. -/
def isolateUnit (e : Env) (u : UnitIx) (r : Roof) : Roof :=
  if (r.plant.unit u).isolated then r
  else withdrawEntries e u (r.onPlant fun p => p.modUnit u fun x => { x with isolated := true })

/-- R47: the isolation flag is cleared, and the sequencer takes the call record as a changed call. -/
def restoreUnit (e : Env) (u : UnitIx) (r : Roof) : Roof :=
  if (r.plant.unit u).isolated then
    settle e u (r.onPlant fun p => p.modUnit u fun x => { x with isolated := false })
  else r

end Sys2Proof.Machine
end

