-- ==== Sys2Proof/Machine/Meter.lean ====
section
/-! DEFINITION. The demand meter's sample and close (R98 to R110), and the ends of the commands that act on
the roof. -/

namespace Sys2Proof.Machine

/-! ## The ends of a command that acts on the roof -/

/-- R83, R89: the admission pass that follows an event in which an entry joined an empty queue. -/
def passAfterJoin (s : State) : State := if s.plant.passDue then s.onRoof runDuePass else s

/-- What follows an event that acts on the roof: the due admission pass, the outputs. -/
def conclude (s : State) : State := driveOutputs (passAfterJoin s)

/-- A command that acts on the roof. -/
def roofCommand (s : State) (f : State → State) : Result := whilePowered s fun s => conclude (f s)

/-! ## Closing an interval (R107 to R110) -/

/-- R108: a record at the front of the history; the oldest of 8 leaves. -/
def pushHistory (r : HistoryRec) (h : List HistoryRec) : List HistoryRec :=
  (r :: h).take Config.historyPlaces

/-- R109: the peak-interval record examined at a close. -/
def examinePeak (a now : Nat) (p : Option PeakRec) : Option PeakRec :=
  match p with
  | none => some ⟨a, now⟩
  | some q => if q.average < a then some ⟨a, now⟩ else some q

/-- R107 steps 1 and 2: the meter with the closed interval recorded; unchanged when t is 0. -/
def recordClose (cause : CloseCause) (now : Nat) (m : Meter) : Meter :=
  if m.clock = 0 then m
  else
    { m with
      history := pushHistory ⟨m.energy / m.clock, m.clock, m.peak, m.shedPeak, cause⟩ m.history
      peakRecord := examinePeak (m.energy / m.clock) now m.peakRecord }

/-- R107 step 4, R110: the next interval opens with the P of the latest sample. -/
def openInterval (level : Nat) (m : Meter) : Meter :=
  { m with energy := 0, clock := 0, peak := m.power, forecast := m.power, shedPeak := level }

/-- R107: an interval closes. R178: a close with cause SYNC clears the sync-missing flag. -/
def closeInterval (cause : CloseCause) (s : State) : State :=
  let s1 : State := { s with
    meter := openInterval s.shed.level (recordClose cause s.seconds s.meter)
    lines := { s.lines with syncMissing := if cause = .sync then false else s.lines.syncMissing } }
  if s.meter.clock = 0 then s1
  else s1.raise .intervalClosed 0 none (some ((s.meter.energy / s.meter.clock : Nat) : Int))

/-- R106: a SYNC_MISSING close: the notice with t, the sync-missing flag (R178), then the close. The order of
its two notices is that of the worked case (DEDUCED: log entry 48). -/
def closeMissing (s : State) : State :=
  let s1 := s.raise .syncMissing 0 none (some (s.meter.clock : Int))
  closeInterval .syncMissing { s1 with lines := { s1.lines with syncMissing := true } }

/-! ## The demand sample (R98 to R104) -/

/-- R98 steps 1 to 5: the meter after a sample that found the roof power `P`. -/
def sampleMeter (T P : Nat) (m : Meter) : Meter :=
  let E := m.energy + P
  let t := satAdd 65535 m.clock 1
  { m with power := P, energy := E, clock := t, peak := max m.peak P, forecast := forecastOf t E T P }

/-- R104: the close test. -/
def closeTest (r : RoofRec) (t : Nat) : Option CloseCause :=
  match r.syncMode with
  | .freeRun => if r.intervalLength ≤ t then some .freeRun else none
  | .meterSync => if r.intervalLength + r.syncGrace ≤ t then some .syncMissing else none

/-- R98 step 6: the close test of a sample. -/
def testClose (s : State) : State :=
  match closeTest s.tables.roof s.meter.clock with
  | none => s
  | some .syncMissing => closeMissing s
  | some c => closeInterval c s

/-- R122: the forecast the sample leaves is kept for the shed controller's reaction. -/
def leaveForecast (s : State) : State := { s with meter := { s.meter with sampleForecast := s.meter.forecast } }

/-- R98: a sample's own steps. R93: the uncounted grant sum is set to 0. -/
def takeSample (s : State) : State :=
  leaveForecast <| testClose { s with
    meter := sampleMeter s.tables.roof.intervalLength (roofPower s.env s.plant) s.meter
    plant := { s.plant with grantSum := 0 } }

/-- R105: a sync edge. -/
def syncEdge (s : State) : State :=
  match s.tables.roof.syncMode with
  | .freeRun => s
  | .meterSync => if s.meter.clock < 60 then s else closeInterval .sync s

end Sys2Proof.Machine
end

