-- ==== Sys2Proof/Machine/Shedding.lean ====
section
/-! DEFINITION. The shed controller and the demand-response events (R116 to R124). -/

namespace Sys2Proof.Machine

/-! ## The effective ceiling (R120) -/

/-- R120: the least of C, Cj while the job event is active, and Cc while the contact event is present. -/
def ceilingOf (r : RoofRec) (sh : Shed) : Nat :=
  let c := match sh.jobEvent with
    | some j => min r.ceiling j.ceiling
    | none => r.ceiling
  if sh.contact.isSome then min c r.drDefaultCeiling else c

/-- R120: the effective ceiling derived again. -/
def deriveCeiling (s : State) : State :=
  { s with shed := { s.shed with ceiling := ceilingOf s.tables.roof s.shed } }

/-! ## Demand-response events (R117 to R119) -/

/-- R117: the job event is created, or replaced in place. -/
def beginJobEvent (ceiling minutes : Nat) (s : State) : State :=
  (deriveCeiling { s with
    shed := { s.shed with jobEvent := some ⟨ceiling, s.seconds, s.seconds + minutes * 60⟩ } }).raise
    .drBegin 0 (some 0) (some (ceiling : Int))

/-- R118: the job event ends; nothing happens when none is active. -/
def endJobEvent (s : State) : State :=
  match s.shed.jobEvent with
  | none => s
  | some j =>
    (deriveCeiling { s with shed := { s.shed with jobEvent := none } }).raise
      .drEnd 0 (some 0) (some ((s.seconds - j.beginTime : Nat) : Int))

/-- R119: the contact closes. -/
def closeContact (s : State) : State :=
  (deriveCeiling { s with shed := { s.shed with contact := some s.seconds } }).raise
    .drBegin 0 (some 1) (some (s.tables.roof.drDefaultCeiling : Int))

/-- R119: the contact opens. The value raised is the whole number of seconds, also past 2147483647 (DESIGN CHOICE:
log entry 42). -/
def openContact (s : State) : State :=
  match s.shed.contact with
  | none => s
  | some since =>
    (deriveCeiling { s with shed := { s.shed with contact := none } }).raise
      .drEnd 0 (some 1) (some ((s.seconds - since : Nat) : Int))

/-! ## The shed level (R121 to R124) -/

/-- R124: the level changes: the notice, the interval shed peak, the gating mask with the groups' gates, and
the settlement of every fitted unit whose cap or gate changed, in ascending address order. -/
def changeLevel (level : Nat) (s : State) : State :=
  let s1 := { s with shed := { s.shed with level := level } }.raise .shedLevel 0 none (some (level : Int))
  let s2 := { s1 with
    meter := { s1.meter with shedPeak := max s1.meter.shedPeak level }
    rotation := regate s1.rotation (maskAt s1.tables level) s1.seconds }
  s2.onRoof fun e => evaluateGates e fun u =>
    (e.cfg u).fitted && decide (capAt e.tables s.shed.level (e.cfg u).priority ≠ coolingCap e u)

/-- R121: the step timer is running. -/
def stepRunning (now : Nat) (sh : Shed) : Bool :=
  match sh.stepEnd with
  | some t => now < t
  | none => false

/-- R123: the hold timer is running and its end is reached. -/
def HoldTimer.isReached (now : Nat) : HoldTimer → Bool
  | .idle => false
  | .running t => t ≤ now
  | .reached _ => true

/-- R123: F is below the restore threshold; no F is when H exceeds the effective ceiling. -/
def belowThreshold (r : RoofRec) (sh : Shed) (F : Nat) : Bool :=
  decide (r.restoreHysteresis ≤ sh.ceiling) && decide (F < sh.ceiling - r.restoreHysteresis)

/-- R122: the reaction raises the level. -/
def rises (now F : Nat) (sh : Shed) : Bool :=
  decide (sh.ceiling < F) && decide (sh.level < 7) && !stepRunning now sh

/-- R123: the reaction lowers the level. -/
def falls (r : RoofRec) (now F : Nat) (sh : Shed) : Bool :=
  decide (1 ≤ sh.level) && belowThreshold r sh F && sh.hold.isReached now

/-- R123: the hold timer after a reaction. -/
def holdAfter (r : RoofRec) (now F : Nat) (sh : Shed) : HoldTimer :=
  if sh.level = 0 ∨ !belowThreshold r sh F then .idle
  else
    match sh.hold with
    | .idle => .running (now + r.restoreHold)
    | h =>
      if h.isReached now then if sh.level = 1 then .idle else .running (now + r.restoreHold)
      else h

/-- R122, R123: the shed controller's reaction to a sample, with the forecast that the sample left. -/
def react (s : State) : State :=
  let sh := s.shed
  let r := s.tables.roof
  let F := s.meter.sampleForecast
  let s1 := { s with shed := { sh with
    hold := holdAfter r s.seconds F sh
    stepEnd := if rises s.seconds F sh then some (s.seconds + r.stepTime) else sh.stepEnd } }
  if rises s.seconds F sh then changeLevel (sh.level + 1) s1
  else if falls r s.seconds F sh then changeLevel (sh.level - 1) s1
  else s1

end Sys2Proof.Machine
end

