-- ==== Sys2Proof/Machine/Installation.lean ====
section
/-! DEFINITION. The validation at APPLY and the installation of tables (R42, R43, R59, R60, R87, R126, R133,
R152, R163, R164). -/

namespace Sys2Proof.Machine

/-! ## The checks of APPLY (R163) -/

/-- R163 check 1: the finer conditions on the ROOF record. -/
def roofValid (r : RoofRec) : Bool :=
  decide (r.intervalLength % 60 = 0) && decide (r.controllerRate ≤ 4) && decide (r.trunkRate ≤ 2) &&
  decide (r.coolLow ≤ r.coolHigh) && decide (r.heatLow ≤ r.heatHigh)

/-- R163 check 2: a fitted unit's bound slots name profiles of the slot's kind. -/
def unitValid (t : Tables) (u : UnitIx) : Bool :=
  !t.units[u].fitted || allSlots.all fun i =>
    match t.units[u].bind[i] with
    | some p => decide (t.profiles[p].kind = slotKind i)
    | none => true

/-- R163 checks 1 to 4: the details of INVALID_TABLE, none when the tables pass. -/
def invalidTable (t : Tables) : Option (List Byte) :=
  if !roofValid t.roof then some [0, 0]
  else
    match allUnits.find? fun u => !unitValid t u with
    | some u => some [1, BitVec.ofNat 8 u.val]
    | none =>
      match (List.finRange 8).find? fun g => decide (t.rotation[g].follow = some g) with
      | some g => some [4, BitVec.ofNat 8 g.val]
      | none =>
        match (List.finRange 16).find? fun b => decide (t.bands[b].high < t.bands[b].low) with
        | some b => some [5, BitVec.ofNat 8 b.val]
        | none => none

/-- R163 check 5: the unit may be marked not fitted. -/
def mayUnfit (r : UnitRec) : Bool :=
  r.isolated && allSlots.all fun i => !onInEither r i && decide (r.stages[i].state ≠ .trippedLatched)

/-- R59, R163 check 6: the slot may be unbound. -/
def mayUnbind (r : UnitRec) (i : Slot) : Bool :=
  !r.stages[i].state.isOn && decide (r.stages[i].state ≠ .trippedLatched) && !onInEither r i

/-- R163 checks 5 and 6: the first unit in use that the installation would unfit, or a slot of which it would
unbind. -/
def unitInUse (old new : Tables) (p : Plant) : Option UnitIx :=
  match allUnits.find? fun u =>
      old.units[u].fitted && !new.units[u].fitted && !mayUnfit (p.unit u) with
  | some u => some u
  | none =>
    allUnits.find? fun u =>
      old.units[u].fitted && new.units[u].fitted && allSlots.any fun i =>
        old.units[u].bind[i].isSome && new.units[u].bind[i].isNone && !mayUnbind (p.unit u) i

/-- R163: the tables that would be live after installation. -/
def candidateTables (live : Tables) (ses : Session) : Tables :=
  ses.selected.foldl (fun t id => copyTable id ses.shadows t) live

/-! ## Fitting, unfitting and binding (R42, R43, R60, R87) -/

/-- R43, R60: the unit's running half as after a reset, at the installation instant; the isolation flag keeps
its value. R62: a stage whose windows are then both elapsed passes on at once. It serves a unit that enters ABSENT
and one that becomes fitted. -/
def renewUnit (e : Env) (u : UnitIx) (p : Plant) : Plant :=
  ((((p.modUnit u fun r =>
    { (freshUnit e.tables u e.now).mapStages (fun _ st => passOn e.now st) with isolated := r.isolated }).dropEntry
    u .cool).dropEntry u .heat).dropInjection u)

/-- R43, R145: the change of a unit's fitted flag. A unit made fitted while the ROOF_SHUTDOWN input is
asserted has a SHUTDOWN cause entered. -/
def refitUnit (e : Env) (old : Tables) (shutdown : Bool) (r : Roof) (u : UnitIx) : Roof :=
  if old.units[u].fitted = (e.cfg u).fitted then r
  else if (e.cfg u).fitted ∧ shutdown then enterShutdown e u (r.onPlant (renewUnit e u))
  else r.onPlant (renewUnit e u)

/-- R60: a newly bound slot: the values of a reset at the installation instant, tripped when the unit's
causes cover it, and LOCAL in a LOCAL unit otherwise. R62: with both windows elapsed it passes on at once. -/
def bindStage (e : Env) (u : UnitIx) (r : UnitRec) (i : Slot) : Stage :=
  let st := passOn e.now (freshStage e.tables u i e.now)
  match trippedState r.causes i with
  | some ts => { st with state := ts }
  | none => if r.state = .inLocal then { st with state := .inLocal } else st

/-- R137: the causes left when the slots of `gone` are unbound. -/
def causesWithout (gone : Slot → Bool) (cs : List Cause) : List Cause :=
  cs.filter fun c => !(c.tripClass.isCircuit && allSlots.any fun i => gone i && decide (c.position = some i.val))

/-- R41, R42, R59, R60, R137: a unit record at an installation that changes its bindings. Several cooling slots
newly bound join the lead order in ascending slot order (DESIGN CHOICE: log entry 36). -/
def rebindRecord (e : Env) (old : UnitCfg) (u : UnitIx) (r : UnitRec) : UnitRec :=
  let gone (i : Slot) : Bool := old.bind[i].isSome && (e.cfg u).bind[i].isNone
  let come (i : Slot) : Bool := old.bind[i].isNone && (e.cfg u).bind[i].isSome
  let r1 := { r with causes := causesWithout gone r.causes }
  let r2 := r1.mapStages fun i st =>
    if gone i then blankStage else if come i then bindStage e u r1 i else st
  { r2 with
    lead := r.lead.filter (fun i => !gone i) ++ (slotsOf .cool).filter come
    runHours := tabulate fun j => if gone ⟨j.val, by omega⟩ then 0 else r.runHours[j]
    call := reclamp (e.cfg u) r.call }

/-- R42, R87: a unit that stays fitted: its bindings, its call and its entries' classes. The settlement reads the
cooling cap of the new tables and the gates as they were (DESIGN CHOICE: log entry 40). -/
def reconfigureUnit (e : Env) (old : Tables) (r : Roof) (u : UnitIx) : Roof :=
  if old.units[u].fitted && (e.cfg u).fitted then
    let r1 :=
      if old.units[u].priority = (e.cfg u).priority then r
      else r.onPlant (reclassEntries u (e.cfg u).priority.val)
    if old.units[u].bind = (e.cfg u).bind then r1
    else settle e u (moveUnit e u (fun p => p.modUnit u (rebindRecord e old.units[u] u)) r1)
  else r

/-! ## The owners take an installation (R164) -/

/-- R29, R43: the transaction in flight to a unit that has become ABSENT reports to no unit record. -/
def loseUnits (t : Tables) (l : Link) : Link :=
  let lose (x : Transaction) : Transaction :=
    match x.unit with
    | some u => { x with unreported := x.unreported || !t.units[u].fitted }
    | none => x
  { l with trunk := match l.trunk with
    | .free => .free
    | .ready x => .ready (lose x)
    | .sending x o => .sending (lose x) o
    | .awaiting x => .awaiting (lose x) }

/-- R2: the trunk port takes the installed rate; a frame in assembly is discarded where the rate changes. -/
def takeTrunkRate (r : RoofRec) (l : Link) : Link :=
  if l.trunkRate = r.trunkRate then l else { l with trunkRate := r.trunkRate, trunkRx := .hunt }

/-- R2: the controller port takes the installed rate; a frame in assembly is discarded where it changes. -/
def takeControllerRate (r : RoofRec) (l : Link) : Link :=
  if l.controllerRate = r.controllerRate then l
  else { l with controllerRate := r.controllerRate, controllerRx := .hunt }

/-- R2: the rates at an installation: the controller port's at once, the trunk port's when no transaction is
in flight. -/
def takeRates (r : RoofRec) (l : Link) : Link :=
  if l.trunk = .free then takeTrunkRate r (takeControllerRate r l) else takeControllerRate r l

/-- R164: fitted flags, then bindings and priority classes. -/
def installUnits (old : Tables) (s : State) : State :=
  let s1 := s.onRoof fun e r => allUnits.foldl (refitUnit e old s.lines.roofShutdown.debounced) r
  (s1.onRoof fun e r => allUnits.foldl (reconfigureUnit e old) r).onLink (loseUnits s.tables)

/-- R126, R129, R132, R133: the gating mask, the gates and the caps are derived again, and the units whose
gate or cap changed are settled, all in one ascending pass (DESIGN CHOICE: log entry 51). -/
def installCurtailment (old : Tables) (s : State) : State :=
  ({ s with rotation := regate s.rotation (maskAt s.tables s.shed.level) s.seconds } : State).onRoof fun e =>
    evaluateGates e fun u => (e.cfg u).fitted &&
      decide (capAt old s.shed.level old.units[u].priority ≠ coolingCap e u)

/-- R152: the pairs of the bands whose record changed are reset. -/
def installBands (old : Tables) (s : State) : State :=
  s.onRoof fun e r => (List.finRange 16).foldl (fun q b =>
    if old.bands[b] = e.tables.bands[b] then q
    else (fittedUnits e.tables).foldl (fun q u => resetPair e u b q) q) r

/-- R2, R120, R178: what an installation of the ROOF record brings. -/
def installRoof (s : State) : State :=
  let s1 := deriveCeiling (s.onLink (takeRates s.tables.roof))
  if s.tables.roof.syncMode = .freeRun then { s1 with lines := { s1.lines with syncMissing := false } } else s1

/-- R78: the lead/lag check at an installation of the UNIT or ROOF table, where the condition holds, in
ascending unit address (DESIGN CHOICE: log entry 46). -/
def installLead (s : State) : State :=
  allUnits.foldl (fun a u => if leadCondition a.env u a.plant then a.onRoof fun e r => leadCheck e u r else a) s

/-- R164: the session closes and the candidate tables become live, with APPLY_DONE of value 0; the owners
then take the installation. -/
def installTables (new : Tables) (selected : List TableId) (s : State) : State :=
  let old := s.tables
  let s0 : State := { s with
    tables := new
    jobs := { s.jobs with
      session := closedSession
      config := .modified
      store := s.jobs.store.map fun st => { st with installedSince := true } } }
  let s1 := s0.raise .applyDone 0 none (some 0)
  let s2 := installCurtailment old (installUnits old s1)
  let s3 := installBands old s2
  let s4 := if .roof ∈ selected then installRoof s3 else s3
  if .unit ∈ selected ∨ .roof ∈ selected then installLead s4 else s4

/-- R156: an entry appended to the error list; the oldest of 3 is removed first. -/
def logError (job error : Byte) (s : State) : State :=
  let l := s.jobs.errors
  let kept := if l.length < Config.errorPlaces then l else l.drop 1
  { s with jobs := { s.jobs with errors := kept ++ [⟨job, error, s.seconds⟩] } }

/-- R164: a repeated check failed: nothing is installed, and the session returns to OPEN. -/
def failInstallation (u : UnitIx) (s : State) : State :=
  let s1 := logError 0x36 eInUse { s with
    jobs := { s.jobs with
      session := { s.jobs.session with state := .opened, idleEnd := some (s.seconds + Config.sessionIdle) } } }
  s1.raise .applyDone 0 none (some (unitAddr u : Int))

/-- R98, R164: the pending apply, if any, at a demand sample. -/
def installPending (s : State) : State :=
  if s.jobs.session.state = .applying then
    let new := candidateTables s.tables s.jobs.session
    match unitInUse s.tables new s.plant with
    | some u => failInstallation u s
    | none => installTables new s.jobs.session.selected s
  else s

end Sys2Proof.Machine
end

