-- ==== Sys2Proof/Machine/Reset.lean ====
section
/-! DEFINITION. Power-up, the RESET line, the reset that ends RESTART, and the loss of power (R9, R88, R166,
R174 and the reset rule of every block). -/

namespace Sys2Proof.Machine

/-- R174, 11.7: the cause of a reset, in the order of the codes. -/
inductive ResetCause where
  | power
  | line
  | restart
  deriving DecidableEq, Repr

/-- 11.7: the reset cause codes. -/
def ResetCause.code : ResetCause → Nat
  | .power => 0 | .line => 1 | .restart => 2

/-- R165, R166: the stored image as a reset finds it; a reset during a store finds a bad CRC. -/
def imageAtReset (s : State) : Option Tables := if s.jobs.store.isSome then none else s.jobs.image

/-- R166: every block at its value after a reset, from the tables the load gives; no notice yet. The commands
that wait and the levels of the input lines are outside the reset. -/
def blankState (s : State) : State :=
  let image := imageAtReset s
  let t := image.getD factoryTables
  { pending := s.pending
    powered := true
    draws := s.draws
    seconds := 0
    tables := t
    meter := freshMeter
    shed := freshShed t s.lines.drContact.line
    rotation := freshRotation
    plant := freshPlant t
    notices := []
    captures := []
    link := freshLink t
    jobs := freshJobs image
    lines := ⟨freshInput s.lines.intervalSync.line, freshInput s.lines.drContact.line,
      freshInput s.lines.roofShutdown.line, false, tabulate fun _ => false⟩ }

/-- R174: the start-up notices in their order, the last with the SHUTDOWN trip of R145. -/
def startUp (cause : ResetCause) (s : State) : State :=
  let s1 := s.raise .powerUp 0 none (some (cause.code : Int))
  let s2 := if s.jobs.image.isNone then s1.raise .configDefaulted 0 none none else s1
  let s3 :=
    if s.lines.drContact.debounced then s2.raise .drBegin 0 (some 1) (some (s.tables.roof.drDefaultCeiling : Int))
    else s2
  if s.lines.roofShutdown.debounced then s3.onRoof shutdownAssert else s3

/-- R9, R166, R174, R178: a reset, with the outputs driven from the tables loaded. -/
def resetState (cause : ResetCause) (s : State) : State := driveOutputs (startUp cause (blankState s))

/-- R165, R178: the supply is lost: frames on the lines are cut off, a store leaves the image bad, and no
relay is energised (log entry 4). -/
def losePower (s : State) : State :=
  { s with
    powered := false
    link := { s.link with
      transmitting := none
      trunk := match s.link.trunk with
        | .sending _ _ => .free
        | t => t }
    jobs := { s.jobs with image := imageAtReset s, store := none }
    lines := { s.lines with outputs := tabulate fun _ => false } }

/-! ## The commands -/

/-- POWER_UP (R174). -/
def execPowerUp (s : State) : Result := .next (resetState .power s)

/-- RESET_LINE (R9). -/
def execResetLine (s : State) : Result := whilePowered s (resetState .line)

/-- POWER_LOSS (R9, R165). -/
def execPowerLoss (s : State) : Result := whilePowered s losePower

end Sys2Proof.Machine
end

