-- ==== Sys2Proof/Machine/ControllerPort.lean ====
section
/-! DEFINITION. The controller port: routing and taking frames in, and sending the reply queue (R10, R12,
R14, R15, R20, R21). -/

namespace Sys2Proof.Machine

/-! ## Routing (R12) -/

/-- R12: what becomes of a frame. -/
inductive Route where
  | relay
  | job
  | refused (code detail : Byte)
  | discarded
  deriving DecidableEq, Repr

/-- R12: an interpreted kind. -/
def isInterpretedKind (k : Byte) : Bool := k = kStageCall || k = kStatusRead || k = kSetpointWrite

/-- R15: the interpreted requests. -/
def isInterpreted (f : Frame) : Bool :=
  (1 ≤ f.addr.toNat && f.addr.toNat ≤ 32 && isInterpretedKind f.kind) ||
  (f.addr.toNat = 63 && f.kind = kSetpointWrite)

/-- R3, R12, R14: a good frame that a port discards for its header: the address 0 (or above 63), or a REPLY
indicator that disagrees with the reply bit. A payload longer than a frame holds cannot be received. -/
def headerDiscarded (f : Frame) : Bool :=
  f.addr.toNat = 0 || 63 < f.addr.toNat || flagReply f.flags != hasReplyBit f.kind || 48 < f.payload.length

/-- R12: the routing table, with the details of R16. -/
def routeOf (f : Frame) : Route :=
  let a := f.addr.toNat
  let k := f.kind
  if headerDiscarded f ∨ hasReplyBit k then .discarded
  else if a ≤ 32 then
    if isInterpretedKind k ∨ isPassthrough k then .relay else .refused eNoRoute k
  else if a ≤ 47 then .relay
  else if a = 48 then
    if k = kJob then .job else .refused eNoRoute k
  else if a ≤ 62 then .refused eNoRoute 0
  else if k = kStageCall ∨ k = kStageMap then .refused eBroadcastStage k
  else if k = kSetpointWrite ∨ isPassthrough k then .relay
  else .refused eNoRoute k

/-! ## Acceptance (R15, R21) -/

/-- R21: a frame offered to the relay queue. -/
def Link.offerRelay (l : Link) (f : Frame) : Link :=
  if l.relay.length < Config.relayPlaces then
    if l.roomForReply then { l with relay := l.relay ++ [f] } else l
  else l.refuse (errorReply f eBusy [1])

/-- R21: a frame offered to the job queue. -/
def Link.offerJob (l : Link) (f : Frame) : Link :=
  if l.jobs.length < Config.jobPlaces then
    if l.roomForReply then { l with jobs := l.jobs ++ [f] } else l
  else l.refuse (errorReply f eBusy [2])

/-- R15: the detail of the refusal of an interpreted request, none for every other frame. -/
def badPayload (f : Frame) : Option Byte := if isInterpreted f then requestFault f.kind f.payload else none

/-- R12, R15, R21: a good frame that completed on the controller port. -/
def Link.takeIn (l : Link) (f : Frame) : Link :=
  match routeOf f with
  | .discarded => l
  | .refused code detail => l.refuse (errorReply f code [detail])
  | .job => l.offerJob f
  | .relay =>
    match badPayload f with
    | some d => l.refuse (errorReply f eBadArgument [d])
    | none => l.offerRelay f

/-! ## Sending (R10, R20) -/

/-- R10, R14: a frame of the reply queue as it goes, with ATTENTION as the notice list gives it then. -/
def completed (attn : Bool) (f : Frame) : Frame := { f with flags := withAttention f.flags attn }

/-- R10: the transmitter, when idle, begins the front frame of the reply queue. -/
def beginReply (s : State) : State :=
  match s.link.transmitting, s.link.replies with
  | none, r :: _ =>
    s.onLink fun l => { l with
      transmitting := some ⟨wireOf (completed (attention s.tables s.notices) r.frame), l.controllerRate⟩ }
  | _, _ => s

/-- R20, R167: the frame in transmission ends and leaves the reply queue; after a RESTART reply the reset
takes place. -/
def endReply (s : State) : State :=
  match s.link.transmitting, s.link.replies with
  | some _, r :: rest =>
    let s1 := s.onLink fun l => { l with transmitting := none, replies := rest }
    if r.restart then resetState .restart s1 else s1
  | _, _ => s

/-! ## The commands -/

/-- CONTROLLER_FRAME_RECEIVED (R8, R12). -/
def execControllerFrameReceived (f : Frame) (s : State) : Result :=
  whilePowered s fun s => s.onLink fun l => ({ l with controllerRx := .hunt } : Link).takeIn f

/-- REPLY_TRANSMIT_START (R10). -/
def execReplyTransmitStart (s : State) : Result := whilePowered s beginReply

/-- REPLY_TRANSMIT_END (R20). -/
def execReplyTransmitEnd (s : State) : Result := whilePowered s endReply

end Sys2Proof.Machine
end

