-- ==== Sys2Proof/Machine/Replies.lean ====
section
/-! DEFINITION. The supervisor trailer and the replies that go up for relayed requests (R14, R16, R17, R25, R30,
R36 to R39). -/

namespace Sys2Proof.Machine

/-! ## Reasons and the trailer (R17, R37) -/

/-- R17: the number of slots of a kind that are on in a map. -/
def countOn (m : StageMap) (k : Kind) : Nat := ((slotsOf k).filter m.has).length

/-- The clamp flag of a kind. -/
def clampFlag (c : Call) : Kind → Bool
  | .cool => c.coolClamped
  | .heat => c.heatClamped

/-- R17 row 8: the reason a skip reason gives; none for NONE and MANUAL_ONLY. -/
def SkipReason.reason : SkipReason → Option Reason
  | .none | .manualOnly => Option.none
  | .lockout => some .lockout
  | .changeover => some .changeover
  | .shedCap => some .shedCap
  | .gated => some .gated
  | .stagger => some .stagger
  | .demand => some .demand

/-- R17: the reason reported for a kind of a unit: the first row of the table whose condition holds. -/
def reasonOf (p : Plant) (u : UnitIx) (k : Kind) : Reason :=
  let r := p.unit u
  let w := wanted r k
  let g := countOn r.target k
  let entry := p.queue.find? fun n => n.isOf u k
  if r.state = .offline then .offline
  else if r.state = .unadopted then .adopting
  else if r.state = .inLocal then .inLocal
  else if r.isolated ∧ g ≠ w then .isolated
  else if g < w ∧ (slotsOf k).any (fun i => r.stages[i].state.isTripped) then .tripped
  else if g ≠ w ∧ (slotsOf k).any (fun i => r.stages[i].force ≠ .none) then .manual
  else if w < g then .heldMinOn
  else if g < w then
    match entry with
    | some n => n.skip.reason.getD .queued
    | none => .lockout
  else if clampFlag r.call k then .clamped
  else .none

/-- R37, 11.4: the trailer of a unit as its record stands. -/
def trailerOf (s : State) (u : UnitIx) : List Byte :=
  let r := s.plant.unit u
  le8 (countOn r.target .cool) ++ le8 (countOn r.target .heat) ++ le8 (reasonOf s.plant u .cool).code
    ++ le8 (reasonOf s.plant u .heat).code ++ le8 r.state.code ++ le8 s.shed.level ++ le16 s.meter.forecast

/-- R37: the trailer of a reply to a read that adopted the unit, with the counts of the adopted map. -/
def adoptionTrailer (s : State) (adopted : StageMap) : List Byte :=
  le8 (countOn adopted .cool) ++ le8 (countOn adopted .heat) ++ le8 Reason.adopting.code
    ++ le8 Reason.adopting.code ++ le8 UnitState.unadopted.code ++ le8 s.shed.level ++ le16 s.meter.forecast

/-- R37: the trailer that fits the outcome: that of an adoption, or the ordinary one. -/
def trailerFor (s : State) (u : UnitIx) (adopted : Option StageMap) : List Byte :=
  match adopted with
  | some m => adoptionTrailer s m
  | none => trailerOf s u

/-! ## Answers (R14, R25, R30, R36, R38, R39) -/

/-- R14, R37: a reply to the head with a payload and, where it then fits in 48 bytes, a trailer. -/
def trailedReply (head : Frame) (error noReply : Bool) (payload trailer : List Byte) : Frame :=
  let fits : Bool := payload.length + trailer.length ≤ 48
  ⟨head.addr, head.tag, replyKind head.kind, flagsByte true error false fits noReply,
    if fits then payload ++ trailer else payload⟩

/-- R25: the acknowledgement of a broadcast. -/
def broadcastAck (head : Frame) : Frame :=
  ⟨head.addr, head.tag, replyKind head.kind, flagsByte true false false false false, []⟩

/-- R30: the NO_REPLY answer without a trailer. -/
def noReplyPlain (head : Frame) (attempts : Nat) : Frame :=
  ⟨head.addr, head.tag, replyKind head.kind, flagsByte true true false false true,
    [eNoReply, BitVec.ofNat 8 attempts]⟩

/-- R30: the NO_REPLY answer; a STAGE_CALL or STATUS_READ to a fitted unit carries the trailer. -/
def noReplyAnswer (s : State) (fitted : Option UnitIx) (attempts : Nat) (head : Frame) : Frame :=
  match fitted with
  | some u =>
    if head.kind = kStageCall ∨ head.kind = kStatusRead then
      trailedReply head true true [eNoReply, BitVec.ofNat 8 attempts] (trailerOf s u)
    else noReplyPlain head attempts
  | none => noReplyPlain head attempts

/-- R36: a passthrough, foreign or ABSENT-unit reply: as received, with the controller's TAG. -/
def rawAnswer (f head : Frame) : Frame :=
  ⟨head.addr, head.tag, replyKind head.kind, withoutAttention f.flags, f.payload⟩

/-- R36: a SETPOINT_WRITE reply: the payload as sent, REPLY and ERROR as the unit set them. -/
def setpointAnswer (f head : Frame) : Frame :=
  ⟨head.addr, head.tag, replyKind head.kind, flagsByte true (flagError f.flags) false false false, f.payload⟩

/-- R38, R39: a unit's error reply to a STAGE_CALL or STATUS_READ: its code and detail, and the trailer. -/
def unitErrorAnswer (s : State) (u : UnitIx) (f head : Frame) : Frame :=
  trailedReply head true false (f.payload.take 2) (trailerOf s u)

/-- R38: the answer to a STAGE_CALL. -/
def stageCallAnswer (s : State) (u : UnitIx) (adopted : Option StageMap) (m : StageMap) (head : Frame) :
    Frame :=
  trailedReply head false false [mapByte m] (trailerFor s u adopted)

/-- A folded temperature on the link: "no value" is −32768. -/
def linkTemperature (v : Option Int) : List Byte := leInt16 (v.getD (-32768))

/-- R39: a status reply's payload rewritten from the fold. -/
def rewrittenStatus (st : Status) (l : List Byte) : List Byte :=
  l.take 6 ++ linkTemperature st.supply ++ linkTemperature st.ret ++ linkTemperature st.space
    ++ linkTemperature st.outside ++ [byteAt l 14] ++ le16 st.power ++ l.drop 17

/-- R39: the answer to a STATUS_READ. -/
def statusReadAnswer (s : State) (u : UnitIx) (adopted : Option StageMap) (st : Status) (f head : Frame) :
    Frame :=
  trailedReply head false false (rewrittenStatus st f.payload) (trailerFor s u adopted)

end Sys2Proof.Machine
end

