-- ==== Sys2Proof/Machine/Trunk.lean ====
section
/-! DEFINITION. The trunk scheduler and the trunk transaction (R11, R22 to R36). -/

namespace Sys2Proof.Machine

/-! ## The attempt (R26) -/

/-- The address a request goes to. -/
def Request.addr : Request → Byte
  | .stageMap u => BitVec.ofNat 8 (unitAddr u)
  | .statusRead u => BitVec.ofNat 8 (unitAddr u)
  | .setpoint a _ _ => a
  | .raw a _ _ _ => a

/-- The kind a request goes with. -/
def Request.kind : Request → Byte
  | .stageMap _ => kStageMap
  | .statusRead _ => kStatusRead
  | .setpoint _ _ _ => kSetpointWrite
  | .raw _ k _ _ => k

/-- R23, R24, R26, R36: the frame of an attempt; a STAGE_MAP carries the target map as it stands. -/
def requestFrame (p : Plant) (tag : Byte) (q : Request) : Frame :=
  match q with
  | .stageMap u => ⟨q.addr, tag, q.kind, 0, [mapByte (p.unit u).target]⟩
  | .statusRead _ => ⟨q.addr, tag, q.kind, 0, []⟩
  | .setpoint _ cool heat => ⟨q.addr, tag, q.kind, 0, leInt16 cool ++ leInt16 heat⟩
  | .raw _ _ flags payload => ⟨q.addr, tag, q.kind, flags, payload⟩

/-- R23, R32: the unit whose pending injection an attempt removes: at each attempt of a relayed STAGE_MAP, and
at an injection's first attempt. -/
def injectionTaken (t : Transaction) : Option UnitIx :=
  match t.request, t.origin with
  | .stageMap u, .relay => some u
  | .stageMap u, .injection => if t.attempt = 1 then some u else none
  | _, _ => none

/-- The plant as an attempt's start leaves it. -/
def attemptPlant (t : Transaction) (p : Plant) : Plant :=
  match injectionTaken t with
  | some u => p.dropInjection u
  | none => p

/-- R26, R28: an attempt takes the trunk tag, reads the retry count and the timeout, and is transmitted; the
receiver is held in HUNT meanwhile (R8). -/
def beginAttempt (t : Transaction) (s : State) : State :=
  let t' : Transaction := { t with
    tag := s.link.tag
    retryCount := s.tables.roof.retryCount
    replyTimeout := s.tables.roof.replyTimeout }
  { s with
    plant := attemptPlant t s.plant
    link := { s.link with
      tag := s.link.tag + 1
      trunkRx := .hunt
      trunk := .sending t' ⟨wireOf (requestFrame s.plant s.link.tag t.request), s.link.trunkRate⟩ } }

/-- R26: READY: the attempt begins at once when the turnaround wait is satisfied. -/
def enterReady (t : Transaction) (s : State) : State :=
  if s.link.quiet then beginAttempt t s else s.onLink fun l => { l with trunk := .ready t }

/-- R2, R26: the trunk is FREE, and a changed trunk rate is taken. -/
def freeTrunk (s : State) : State :=
  s.onLink fun l => takeTrunkRate s.tables.roof { l with trunk := .free }

/-- R26, R28, R29: a transaction begins with attempt number 1. -/
def startTransaction (origin : Origin) (q : Request) (unit : Option UnitIx) (s : State) : State :=
  let st := unit.map fun u => (s.plant.unit u).state
  enterReady
    { origin := origin, request := q, unit := unit
      unreported := decide (st = some .absent), single := decide (st = some .offline), attempt := 1
      tag := s.link.tag, retryCount := s.tables.roof.retryCount, replyTimeout := s.tables.roof.replyTimeout } s

/-! ## Serving the relay head (R22 to R25, R36) -/

/-- R22: the first request check a STAGE_CALL fails. -/
def callRefusal (r : UnitRec) (payload : List Byte) : Option Byte :=
  if r.state = .absent then some eNotFitted
  else if r.isolated then some eIsolated
  else if u8At payload 0 ≠ 0 ∧ u8At payload 1 ≠ 0 then some eCallConflict
  else none

/-- R23: the trunk request that carries an accepted STAGE_CALL. -/
def callRequest (u : UnitIx) (st : UnitState) : Request :=
  match st with
  | .online => .stageMap u
  | .absent | .unadopted | .offline | .inLocal => .statusRead u

/-- R24: a SETPOINT_WRITE clamped into the roof's ranges. -/
def setpointRequest (r : RoofRec) (f : Frame) : Request :=
  .setpoint f.addr (clampInt r.coolLow r.coolHigh (s16At f.payload 0))
    (clampInt r.heatLow r.heatHigh (s16At f.payload 2))

/-- R24, R25, R36: the trunk request of a relayed frame other than a STAGE_CALL to a unit. -/
def relayRequest (r : RoofRec) (f : Frame) : Request :=
  match unitOfAddr f.addr.toNat with
  | some u =>
    if f.kind = kStatusRead then .statusRead u
    else if f.kind = kSetpointWrite then setpointRequest r f
    else .raw f.addr f.kind f.flags f.payload
  | none =>
    if f.addr.toNat = 63 ∧ f.kind = kSetpointWrite then setpointRequest r f
    else .raw f.addr f.kind f.flags f.payload

/-- R33: a relayed request is handed over, and the marker becomes RELAY. -/
def handRelay (q : Request) (unit : Option UnitIx) (s : State) : State :=
  startTransaction .relay q unit (s.onLink fun l => { l with marker := .relay })

/-- R22, R23: a STAGE_CALL at the head; none when a request check refuses it. -/
def takeHeadCall (u : UnitIx) (f : Frame) (s : State) : Except Byte State :=
  match callRefusal (s.plant.unit u) f.payload with
  | some code => .error code
  | none =>
    .ok (handRelay (callRequest u (s.plant.unit u).state) (some u) (s.onRoof fun e => takeCall e u f.payload))

/-! ## Arbitration (R32, R33, R35) -/

/-- R35: the unit is due for a poll. -/
def pollDue (s : State) (u : UnitIx) : Bool :=
  let r := s.plant.unit u
  match r.state with
  | .unadopted => true
  | .online | .inLocal =>
    match r.status with
    | some st => decide (s.tables.roof.refreshInterval ≤ st.age)
    | none => true
  | .offline => decide (s.tables.roof.offlinePollInterval ≤ s.seconds - s.link.lastPoll[u])
  | .absent => false

/-- R35: the units in address order from the poll cursor, wrapping from 32 to 1. -/
def pollOrder (cursor : UnitIx) : List UnitIx := allUnits.map fun k => cursor + k

/-- R33: what the scheduler chooses. -/
inductive Choice where
  | protection (u : UnitIx)
  | relay (head : Frame)
  | injection (u : UnitIx)
  | poll (u : UnitIx)
  | nothing
  deriving DecidableEq, Repr

/-- R32, R33: the eligible ordinary injection that was created first. -/
def ordinaryInjection (p : Plant) : Option UnitIx := p.injections.find? fun u => !(p.unit u).isolated

/-- R33: the choice among the four kinds of work. -/
def choose (s : State) : Choice :=
  match s.plant.protection with
  | u :: _ => .protection u
  | [] =>
    match s.link.relay, ordinaryInjection s.plant with
    | f :: _, some u => if s.link.marker = .relay then .injection u else .relay f
    | f :: _, none => .relay f
    | [], some u => .injection u
    | [], none =>
      match (pollOrder s.link.cursor).find? (pollDue s) with
      | some u => .poll u
      | none => .nothing

/-- R35: a poll is handed over: the cursor and the unit's last-poll time move. -/
def handPoll (u : UnitIx) (s : State) : State :=
  startTransaction .poll (.statusRead u) (some u)
    (s.onLink fun l => { l with cursor := u + 1, lastPoll := l.lastPoll.set u s.seconds })

/-- R22, R33: the scheduler's choice carried out. A refused STAGE_CALL is answered, and the choice is made
again; `n` bounds the choices by the length of the relay queue. -/
def arbitrate : Nat → State → State
  | 0, s => s
  | n + 1, s =>
    match choose s with
    | .nothing => s
    | .protection u => startTransaction .injection (.stageMap u) (some u) s
    | .injection u =>
      startTransaction .injection (.stageMap u) (some u) (s.onLink fun l => { l with marker := .injection })
    | .poll u => handPoll u s
    | .relay f =>
      match unitOfAddr f.addr.toNat with
      | some u =>
        if f.kind = kStageCall then
          match takeHeadCall u f s with
          | .ok s' => s'
          | .error code => arbitrate n (s.onLink fun l => l.answerHead fun head => errorReply head code [0])
        else handRelay (relayRequest s.tables.roof f) (some u) s
      | none => handRelay (relayRequest s.tables.roof f) none s

/-- R33: arbitration, with the trunk FREE and the turnaround wait satisfied. -/
def arbitrateTrunk (s : State) : State :=
  if s.link.trunk = .free ∧ s.link.quiet then arbitrate (s.link.relay.length + 1) s else s

/-! ## The end of a transaction (R28 to R30, R34, R36 to R39) -/

/-- R29: the fitted unit a transaction reports to. -/
def Transaction.reportsTo (t : Transaction) : Option UnitIx := if t.unreported then none else t.unit

/-- A relayed request's answer is placed (R18); an injection or a poll is answered to no one (R29). -/
def answerRelay (t : Transaction) (answer : State → Frame → Frame) (s : State) : State :=
  if t.origin = .relay then s.onLink fun l => l.answerHead (answer s) else s

/-- R34: the repetition rule after a STAGE_MAP transaction. -/
def repeatMap (t : Transaction) (s : State) : State :=
  match t.request, t.reportsTo with
  | .stageMap _, some u => s.onPlant fun _ p => repetition u p
  | _, _ => s

/-- R29: an unanswered transaction is reported to its unit record. -/
def reportFailure (t : Transaction) (s : State) : State :=
  match t.reportsTo with
  | some u => s.onRoof fun e r => reportUnanswered e u r
  | none => s

/-- R28 to R30, R34: a transaction ends unanswered. -/
def endUnanswered (t : Transaction) (s : State) : State :=
  freeTrunk (repeatMap t (answerRelay t (fun s => noReplyAnswer s t.reportsTo t.attempt) (reportFailure t s)))

/-- R29: an answered transaction that is no fold is reported to its unit record. -/
def reportReply (u : UnitIx) (s : State) : State := s.onPlant fun _ p => reportAnswered u p

/-- R29, R34, R38: a STAGE_MAP answered by a fitted unit. -/
def endStageMap (t : Transaction) (u : UnitIx) (f : Frame) (s : State) : State :=
  if flagError f.flags then
    repeatMap t (answerRelay t (fun s => unitErrorAnswer s u f) (reportReply u s))
  else
    let s1 := reportReply u (s.onPlant fun e p => acknowledge e u (byteAt f.payload 0) p)
    repeatMap t (answerRelay t (fun s => stageCallAnswer s u none (s.plant.unit u).ack) s1)

/-- R29, R38, R39: a folded reply's answer: to a STATUS_READ the rewritten status, to a STAGE_CALL the
acknowledged map after adoption or the reported run map. -/
def foldAnswer (u : UnitIx) (adopted : Option StageMap) (f : Frame) (s : State) (head : Frame) : Frame :=
  let st := statusOf s.tables.units[u] f.payload
  if head.kind = kStageCall then
    stageCallAnswer s u adopted (if adopted.isSome then (s.plant.unit u).ack else st.run) head
  else statusReadAnswer s u adopted st f head

/-- R29, R39: a STATUS_READ answered by a fitted unit. -/
def endStatusRead (t : Transaction) (u : UnitIx) (f : Frame) (s : State) : State :=
  if flagError f.flags then answerRelay t (fun s => unitErrorAnswer s u f) (reportReply u s)
  else
    answerRelay t (fun s' => foldAnswer u (adoptionMap s.env u f.payload s.roof) f s')
      (s.onRoof fun e r => fold e u f.payload r)

/-- R29: an answered transaction's reply passed on. -/
def endAnswered (t : Transaction) (f : Frame) (s : State) : State :=
  freeTrunk (match t.reportsTo with
    | none => answerRelay t (fun _ => rawAnswer f) s
    | some u =>
      match t.request with
      | .stageMap _ => endStageMap t u f s
      | .statusRead _ => endStatusRead t u f s
      | .setpoint _ _ _ => answerRelay t (fun _ => setpointAnswer f) (reportReply u s)
      | .raw _ _ _ _ => answerRelay t (fun _ => rawAnswer f) (reportReply u s))

/-! ## Matching (R27, R179) -/

/-- R27, R179: the length and the enumerated fields of a reply to an interpreted request; a passthrough or
foreign reply is exempt. -/
def replyFits (q : Request) (f : Frame) : Bool :=
  match q with
  | .raw _ _ _ _ => true
  | .stageMap _ | .statusRead _ | .setpoint _ _ _ =>
    if flagError f.flags then 2 ≤ f.payload.length && f.payload.length ≤ 48
    else
      match q with
      | .statusRead _ =>
        17 ≤ f.payload.length && f.payload.length ≤ 48 && u8At f.payload 0 ≤ 3 && u8At f.payload 1 ≤ 1
      | .setpoint _ _ _ => f.payload.length = 4
      | .stageMap _ | .raw _ _ _ _ => f.payload.length = 1

/-- R27: the frame is the attempt's matching reply. -/
def isMatch (t : Transaction) (f : Frame) : Bool :=
  !headerDiscarded f && decide (f.addr = t.request.addr) && decide (f.tag = t.tag) &&
  decide (f.kind = replyKind t.request.kind) && replyFits t.request f

/-- R8, R27: a good frame handed on by the trunk receiver. -/
def trunkFrame (f : Frame) (s : State) : State :=
  match s.link.trunk with
  | .awaiting t => if isMatch t f then endAnswered t f s else s
  | .free | .ready _ | .sending _ _ => s

/-! ## The receiver's events on either port (R5 to R8, R11) -/

/-- R8: the trunk port transmits. -/
def TrunkPort.isSending : TrunkPort → Bool
  | .sending _ _ => true
  | .free | .ready _ | .awaiting _ => false

/-- R5, R8: a character on the controller port. -/
def controllerChar (c : LinkChar) (l : Link) : Link :=
  let next : Link := { l with controllerRx := (l.controllerRx.char c).1 }
  match (l.controllerRx.char c).2 with
  | some f => next.takeIn f
  | none => next

/-- R5, R8, R11: a character on the trunk restarts the turnaround wait; none is taken while the trunk port
transmits. -/
def trunkChar (c : LinkChar) (s : State) : State :=
  if s.link.trunk.isSending then s
  else
    let next := s.onLink fun l => { l with trunkRx := (l.trunkRx.char c).1, quiet := false }
    match (s.link.trunkRx.char c).2 with
    | some f => trunkFrame f next
    | none => next

/-- The port's receiver returned to HUNT. -/
def dropAssembly (p : Port) (l : Link) : Link :=
  match p with
  | .controller => { l with controllerRx := .hunt }
  | .trunk => { l with trunkRx := .hunt }

/-- R26, R28: the reply timer's expiry. -/
def replyTimerEnds (s : State) : State :=
  match s.link.trunk with
  | .awaiting t =>
    if t.attempt < (if t.single then 1 else 1 + t.retryCount) then
      enterReady { t with attempt := t.attempt + 1 } s
    else endUnanswered t s
  | .free | .ready _ | .sending _ _ => s

/-- R25, R26: the last character of an attempt has been sent. -/
def attemptEnds (s : State) : State :=
  match s.link.trunk with
  | .sending t _ =>
    if t.request.addr = 63 then freeTrunk (s.onLink fun l => l.answerHead broadcastAck)
    else s.onLink fun l => { l with trunk := .awaiting t }
  | .free | .ready _ | .awaiting _ => s

/-- R11, R26: the turnaround wait is satisfied, and a held attempt begins. -/
def turnaroundEnds (s : State) : State :=
  let s1 := s.onLink fun l => { l with quiet := true }
  match s.link.trunk with
  | .ready t => beginAttempt t s1
  | .free | .sending _ _ | .awaiting _ => s1

/-! ## The commands -/

/-- GAP_TIMEOUT (R6). -/
def execGapTimeout (p : Port) (s : State) : Result := whilePowered s fun s => s.onLink (dropAssembly p)

/-- BREAK (R7). -/
def execLineBreak (p : Port) (s : State) : Result := whilePowered s fun s => s.onLink (dropAssembly p)

/-- CHARACTER_RECEIVED (R5, R7, R8, R11). -/
def execCharacterReceived (p : Port) (c : LinkChar) (s : State) : Result :=
  match p with
  | .controller => whilePowered s fun s => s.onLink (controllerChar c)
  | .trunk => roofCommand s (trunkChar c)

/-- TRUNK_ARBITRATION (R33). -/
def execTrunkArbitration (s : State) : Result := roofCommand s arbitrateTrunk

/-- TURNAROUND_END (R11, R26). -/
def execTurnaroundEnd (s : State) : Result := whilePowered s turnaroundEnds

/-- ATTEMPT_SENT (R25, R26). -/
def execAttemptSent (s : State) : Result := whilePowered s attemptEnds

/-- TRUNK_FRAME_RECEIVED (R8, R11, R27). -/
def execTrunkFrameReceived (f : Frame) (s : State) : Result :=
  roofCommand s fun s =>
    if s.link.trunk.isSending then s
    else trunkFrame f (s.onLink fun l => { l with trunkRx := .hunt, quiet := false })

/-- REPLY_TIMEOUT (R28). -/
def execReplyTimeout (s : State) : Result := roofCommand s replyTimerEnds

end Sys2Proof.Machine
end

