-- ==== Sys2Proof/Machine/Clock.lean ====
section
/-! DEFINITION. The events of the seconds counter, of the timers, of the discrete inputs and of the store
(R49, R62, R66, R67, R77, R86, R89, R92, R98, R118, R121 to R123, R132, R160, R165, R175, R176). -/

namespace Sys2Proof.Machine

/-! ## The tick (R42, R49, R77, R132) -/

/-- R49, R42: an age at a tick. -/
def tickAge (n : Nat) : Nat := satAdd 65535 n 1

/-- R42, R49, R77: a unit record at a tick. -/
def tickUnit (r : UnitRec) : UnitRec :=
  { r with
    status := r.status.map fun st => { st with age := tickAge st.age }
    call := { r.call with age := tickAge r.call.age }
    runHours := tabulate fun j =>
      if r.stages[j.val].state.isOn then satAdd 4294967295 r.runHours[j] 1 else r.runHours[j] }

/-- The seconds counter after a tick: a free value after 4294967295 (log entry 1). -/
def nextSecond (seconds draws : Nat) : Nat :=
  if seconds < Config.secondsMax then seconds + 1 else (Config.secondsAfterMax draws).toNat

/-- The draws after a tick. -/
def nextDraws (seconds draws : Nat) : Nat := if seconds < Config.secondsMax then draws else draws + 1

/-- R49: the counter and what rises with it. -/
def advanceSecond (s : State) : State :=
  { s with
    seconds := nextSecond s.seconds s.draws
    draws := nextDraws s.seconds s.draws
    plant := { s.plant with units := tabulate fun u => tickUnit s.plant.units[u] } }

/-- R49, R132: a tick: the counter, the ages and the run hours advance, then the gates are evaluated (DESIGN CHOICE:
log entry 49). -/
def tick (s : State) : State := (advanceSecond s).onRoof fun e => evaluateGates e fun _ => false

/-! ## Timer ends -/

/-- A running end time is set idle once it is reached. -/
def clearReached (now : Nat) (t : Option Nat) : Option Nat := t.filter fun e => decide (now < e)

/-- R123: the hold timer at its end, to be acted on at the next reaction. -/
def holdReached (now : Nat) (h : HoldTimer) : HoldTimer :=
  match h with
  | .running e => if e ≤ now then .reached e else .running e
  | .idle | .reached _ => h

/-- R118: the job event's expiry. -/
def expireJobEvent (s : State) : State :=
  match s.shed.jobEvent with
  | some j => if j.endTime ≤ s.seconds then endJobEvent s else s
  | none => s

/-- R160: the idle timer's expiry closes an OPEN session. -/
def expireSession (s : State) : State :=
  if s.jobs.session.state = .opened ∧ (s.jobs.session.idleEnd.any fun e => decide (e ≤ s.seconds)) then
    { s with jobs := { s.jobs with session := closedSession } }
  else s

/-! ## The discrete inputs (R175, R176) -/

/-- R175: an input whose line takes a level: the debounce timer runs while the level differs from the
debounced one. -/
def inputChange (closed : Bool) (i : Input) : Input := ⟨closed, i.debounced, closed != i.debounced⟩

/-- R175: an input whose debounce timer expires. -/
def inputExpiry (i : Input) : Input := ⟨i.line, i.line, false⟩

/-- One of the three inputs. -/
def Lines.input (l : Lines) : InputLine → Input
  | .intervalSync => l.intervalSync
  | .drContact => l.drContact
  | .roofShutdown => l.roofShutdown

/-- One of the three inputs replaced. -/
def Lines.setInput (l : Lines) (w : InputLine) (i : Input) : Lines :=
  match w with
  | .intervalSync => { l with intervalSync := i }
  | .drContact => { l with drContact := i }
  | .roofShutdown => { l with roofShutdown := i }

/-- R175: a line changes. While no supply is applied only the line's own level moves. -/
def changeLine (w : InputLine) (closed : Bool) (s : State) : State :=
  let old := s.lines.input w
  let new : Input := if s.powered then inputChange closed old else { old with line := closed }
  { s with lines := s.lines.setInput w new }

/-- R176: a debounced change delivered to its owner. -/
def deliver (w : InputLine) (closed : Bool) (s : State) : State :=
  match w, closed with
  | .intervalSync, true => syncEdge s
  | .intervalSync, false => s
  | .drContact, true => closeContact s
  | .drContact, false => openContact s
  | .roofShutdown, true => s.onRoof shutdownAssert
  | .roofShutdown, false => s.onRoof shutdownRelease

/-- R175, R176: a running debounce timer expires. -/
def debounceEnds (w : InputLine) (s : State) : State :=
  if (s.lines.input w).timing then
    deliver w (s.lines.input w).line { s with lines := s.lines.setInput w (inputExpiry (s.lines.input w)) }
  else s

/-! ## The store (R165, R166) -/

/-- R165: a store ends with the image read back equal to the snapshot, or with a bad CRC. While none is in
progress its end changes nothing (DEDUCED: log entry 8). -/
def storeEnds (equal : Bool) (s : State) : State :=
  match s.jobs.store with
  | none => s
  | some st =>
    if equal then
      ({ s with jobs := { s.jobs with
          store := none
          image := some st.snapshot
          config := if st.installedSince then s.jobs.config else .stored } } : State).raise .storeDone 0 none none
    else
      ({ s with jobs := { s.jobs with store := none, image := none } } : State).raise .storeFailed 0 none none

/-! ## The commands -/

/-- SECONDS_TICK (R49). -/
def execSecondsTick (s : State) : Result := roofCommand s tick

/-- OFF_WINDOWS_ELAPSED (R62). -/
def execOffWindowsElapsed (u : UnitIx) (i : Slot) (s : State) : Result :=
  roofCommand s fun s => s.onPlant fun e p => offWindowsEnd e u i p

/-- MINIMUM_ON_END (R67). -/
def execMinimumOnEnd (u : UnitIx) (i : Slot) (s : State) : Result :=
  roofCommand s fun s => s.onRoof fun e => minimumOnEnds e u i

/-- BLANKING_WINDOW_END (R66). -/
def execBlankingWindowEnd (u : UnitIx) (s : State) : Result :=
  roofCommand s fun s => s.onRoof fun e => blankingEnds e u

/-- ENTRY_AGING (R86). -/
def execEntryAging (s : State) : Result := whilePowered s fun s => s.onPlant ageQueue

/-- ADMISSION_PASS (R89). -/
def execAdmissionPass (s : State) : Result := roofCommand s fun s => s.onRoof admissionPass

/-- STAGGER_TIMER_END (R92). -/
def execStaggerTimerEnd (s : State) : Result :=
  whilePowered s fun s => { s with plant := { s.plant with staggerEnd := clearReached s.seconds s.plant.staggerEnd } }

/-- DEMAND_SAMPLE (R98, R164). -/
def execDemandSample (s : State) : Result := roofCommand s fun s => takeSample (installPending s)

/-- SHED_REACTION (R122 to R124). -/
def execShedReaction (s : State) : Result := roofCommand s react

/-- STEP_TIMER_END (R121, R122). -/
def execStepTimerEnd (s : State) : Result :=
  whilePowered s fun s => { s with shed := { s.shed with stepEnd := clearReached s.seconds s.shed.stepEnd } }

/-- RESTORE_HOLD_END (R123). -/
def execRestoreHoldEnd (s : State) : Result :=
  whilePowered s fun s => { s with shed := { s.shed with hold := holdReached s.seconds s.shed.hold } }

/-- DR_EVENT_EXPIRY (R118). -/
def execDrEventExpiry (s : State) : Result := roofCommand s expireJobEvent

/-- INPUT_LINE_CHANGE (R175). -/
def execInputLineChange (w : InputLine) (closed : Bool) (s : State) : Result := .next (changeLine w closed s)

/-- DEBOUNCE_EXPIRY (R175, R176). -/
def execDebounceExpiry (w : InputLine) (s : State) : Result := roofCommand s (debounceEnds w)

/-- SESSION_IDLE_EXPIRY (R160). -/
def execSessionIdleExpiry (s : State) : Result := whilePowered s expireSession

/-- STORE_END (R165). -/
def execStoreEnd (equal : Bool) (s : State) : Result := roofCommand s (storeEnds equal)

end Sys2Proof.Machine
end

