-- ==== Sys2Proof/Machine/JobProcessor.lean ====
section
/-! DEFINITION. Serving a job: the head of the job queue, its verdict, its reply and the error list
(R19, R155, R156, R160). -/

namespace Sys2Proof.Machine

/-- R155: what a job's checks and its owner give: the results with the state it leaves, or a refusal. -/
inductive Verdict where
  | accepted (results : List Byte) (s : State)
  | refused (error : Byte) (details : List Byte)

/-- R155: an accepted job's reply. -/
def jobReply (req : Frame) (payload : List Byte) : Frame :=
  ⟨req.addr, req.tag, replyKind req.kind, flagsByte true false false false false, payload⟩

/-- R155, R156: a job is answered and leaves the job queue; a refusal is appended to the error list. -/
def finishJob (restart : Bool) (req : Frame) (code : Byte) (s : State) (v : Verdict) : State :=
  match v with
  | .accepted results s' => s'.onLink fun l => l.answerJob (jobReply req (code :: results)) restart
  | .refused e details => (logError code e s).onLink fun l => l.answerJob (errorReply req e details) false

/-- R155, R167: the head of the job queue is served when it bears the job name code, unless a RESTART has been
accepted; `before` is what serving the job does whatever its verdict. -/
def serveWith (before : State → State) (restart : Bool) (code : Byte) (body : List Byte → State → Verdict)
    (s : State) : State :=
  match s.link.jobs with
  | [] => s
  | req :: _ =>
    if s.jobs.restarting ∨ req.payload.head? ≠ some code then s
    else finishJob restart req code (before s) (body req.payload (before s))

/-- R155: a job that is no edit job and no RESTART. -/
def serveJob (code : Byte) (body : List Byte → State → Verdict) (s : State) : State :=
  serveWith id false code body s

/-- R160: an edit job served in OPEN restarts the idle timer. -/
def restartIdle (s : State) : State :=
  if s.jobs.session.state = .opened then
    { s with jobs := { s.jobs with
        session := { s.jobs.session with idleEnd := some (s.seconds + Config.sessionIdle) } } }
  else s

/-- R155, R160: an edit job. -/
def serveEdit (code : Byte) (body : List Byte → State → Verdict) (s : State) : State :=
  serveWith restartIdle false code body s

/-- R155 step 3: the payload's length. -/
def sized (n : Nat) (p : List Byte) (v : Verdict) : Verdict :=
  if p.length = n then v else .refused eBadArgument [0xFF]

/-- R155 step 4: the field at a payload index is out of range. -/
def badArgument (index : Nat) : Verdict := .refused eBadArgument [BitVec.ofNat 8 index]

/-- R157, R158: the unit argument at payload index 1, 1..32. -/
def onUnit (p : List Byte) (v : UnitIx → Verdict) : Verdict :=
  match unitOfAddr (u8At p 1) with
  | some u => v u
  | none => badArgument 1

/-! ## Jobs without a name (R155 step 1) -/

/-- 11.6: the job name codes. -/
def jobCodes : List Byte :=
  [0x01, 0x02, 0x03, 0x04, 0x05, 0x06, 0x07, 0x10, 0x11, 0x12, 0x13, 0x14, 0x20, 0x21, 0x22, 0x23, 0x24, 0x25,
   0x30, 0x31, 0x32, 0x33, 0x34, 0x35, 0x36, 0x37, 0x40, 0x41]

/-- R155 step 1, R156: a job whose payload is empty or whose code names no job is served and refused. -/
def serveUnnamed (s : State) : State :=
  match s.link.jobs with
  | [] => s
  | req :: _ =>
    if s.jobs.restarting then s
    else
      match req.payload.head? with
      | none => finishJob false req 0 s (.refused eBadArgument [0xFF])
      | some c => if c ∈ jobCodes then s else finishJob false req c s (.refused eBadJob [c])

/-- BAD_JOB_CODE (R155). -/
def execBadJobCode (s : State) : Result := whilePowered s serveUnnamed

end Sys2Proof.Machine
end

