-- ==== Sys2Proof/Machine/EditJobs.lean ====
section
/-! DEFINITION. The edit session, the store and the restart (R160 to R163, R165, R167). -/

namespace Sys2Proof.Machine

/-! ## The session's conditions (R160, R161) -/

/-- The state with the edit session replaced. -/
def State.withSession (s : State) (x : Session) : State := { s with jobs := { s.jobs with session := x } }

/-- R160: an edit job other than OPEN_EDIT needs an open session. -/
def inSession (code : Byte) (s : State) (v : Verdict) : Verdict :=
  match s.jobs.session.state with
  | .closed => .refused eNoSession [code]
  | .applying => .refused eApplyPending [code]
  | .opened => v

/-- R161: SEEK, WRITE, EXCHANGE and READ_AT need a current table. -/
def onTable (code : Byte) (s : State) (v : TableId → Verdict) : Verdict :=
  inSession code s (match s.jobs.session.current with
    | some t => v t
    | none => .refused eBadArgument [0])

/-! ## The bodies -/

/-- R160: the body of OPEN_EDIT. -/
def openEditJob (p : List Byte) (s : State) : Verdict :=
  match s.jobs.session.state with
  | .opened => .refused eSessionOpen [0]
  | .applying => .refused eApplyPending [0x30]
  | .closed =>
    sized 1 p (.accepted [] (s.withSession
      { closedSession with state := .opened, idleEnd := some (s.seconds + Config.sessionIdle) }))

/-- R161: a table becomes current; its shadow is made when it is not yet selected. -/
def selectIn (live : Tables) (t : TableId) (x : Session) : Session :=
  { x with
    selected := if t ∈ x.selected then x.selected else x.selected ++ [t]
    shadows := if t ∈ x.selected then x.shadows else copyTable t live x.shadows
    current := some t
    cursor := 0 }

/-- R161: the body of SELECT. -/
def selectJob (p : List Byte) (s : State) : Verdict :=
  inSession 0x31 s (sized 2 p (match TableId.ofCode (u8At p 1) with
    | some t => .accepted [] (s.withSession (selectIn s.tables t s.jobs.session))
    | none => badArgument 1))

/-- R161: the body of SEEK. -/
def seekJob (p : List Byte) (s : State) : Verdict :=
  onTable 0x32 s fun t => sized 2 p (
    if u8At p 1 < recordCount t then .accepted [] (s.withSession { s.jobs.session with cursor := u8At p 1 })
    else badArgument 1)

/-- R162: the session with the record at the cursor replaced, and the cursor moved on. -/
def writeAt (t : TableId) (l : List Byte) (x : Session) : Session :=
  { x with shadows := putRecord x.shadows t x.cursor l, cursor := x.cursor + 1 }

/-- R155, R162: the checks of WRITE and EXCHANGE, which differ in their results. -/
def writing (code : Byte) (results : TableId → Session → List Byte) (p : List Byte) (s : State) : Verdict :=
  onTable code s fun t => sized (1 + recordSize t) p (
    if recordCount t ≤ s.jobs.session.cursor then .refused eBadArgument [0xFF]
    else
      match firstBad (fieldsOf t (p.drop 1)) (p.drop 1) with
      | some o => badArgument (1 + o)
      | none =>
        .accepted (results t s.jobs.session) (s.withSession (writeAt t (p.drop 1) s.jobs.session)))

/-- R162: the body of WRITE. -/
def writeJob (p : List Byte) (s : State) : Verdict := writing 0x33 (fun _ _ => []) p s

/-- R162: the body of EXCHANGE: the reply carries the record replaced. -/
def exchangeJob (p : List Byte) (s : State) : Verdict :=
  writing 0x34 (fun t x => recordBytes x.shadows t x.cursor) p s

/-- R162: the body of READ_AT. -/
def readAtJob (p : List Byte) (s : State) : Verdict :=
  onTable 0x35 s fun t => sized 1 p (
    if recordCount t ≤ s.jobs.session.cursor then .refused eBadArgument [0xFF]
    else .accepted (recordBytes s.jobs.session.shadows t s.jobs.session.cursor)
      (s.withSession { s.jobs.session with cursor := s.jobs.session.cursor + 1 }))

/-- R163: the checks of APPLY on the tables that would be live. -/
def applyRefusal (s : State) : Option (Byte × List Byte) :=
  let new := candidateTables s.tables s.jobs.session
  match invalidTable new with
  | some details => some (eInvalidTable, details)
  | none => (unitInUse s.tables new s.plant).map fun u => (eInUse, [BitVec.ofNat 8 (unitAddr u)])

/-- R163: the body of APPLY: the session enters APPLYING, where no idle timer runs. -/
def applyJob (p : List Byte) (s : State) : Verdict :=
  inSession 0x36 s (sized 1 p (match applyRefusal s with
    | some (code, details) => .refused code details
    | none => .accepted [] (s.withSession { s.jobs.session with state := .applying, idleEnd := none })))

/-- R160: the body of ABANDON. -/
def abandonJob (p : List Byte) (s : State) : Verdict :=
  inSession 0x37 s (sized 1 p (.accepted [] (s.withSession closedSession)))

/-- R165: the body of STORE_CONFIG: the snapshot is taken. -/
def storeConfigJob (p : List Byte) (s : State) : Verdict :=
  if s.jobs.store.isSome then .refused eStoreBusy [0x40]
  else sized 1 p (.accepted [] { s with jobs := { s.jobs with store := some ⟨s.tables, false⟩ } })

/-- R167: the body of RESTART: no further job is served. -/
def restartJob (p : List Byte) (s : State) : Verdict :=
  if s.jobs.store.isSome then .refused eStoreBusy [0x41]
  else sized 1 p (.accepted [] { s with jobs := { s.jobs with restarting := true } })

/-! ## The commands -/

/-- OPEN_EDIT (R160). -/
def execOpenEdit (s : State) : Result := whilePowered s (serveJob 0x30 openEditJob)
/-- SELECT (R161). -/
def execSelectTable (s : State) : Result := whilePowered s (serveEdit 0x31 selectJob)
/-- SEEK (R161). -/
def execSeek (s : State) : Result := whilePowered s (serveEdit 0x32 seekJob)
/-- WRITE (R162). -/
def execWriteRecord (s : State) : Result := whilePowered s (serveEdit 0x33 writeJob)
/-- EXCHANGE (R162). -/
def execExchange (s : State) : Result := whilePowered s (serveEdit 0x34 exchangeJob)
/-- READ_AT (R162). -/
def execReadAt (s : State) : Result := whilePowered s (serveEdit 0x35 readAtJob)
/-- APPLY (R163). -/
def execApplyTables (s : State) : Result := whilePowered s (serveEdit 0x36 applyJob)
/-- ABANDON (R160). -/
def execAbandon (s : State) : Result := whilePowered s (serveEdit 0x37 abandonJob)
/-- STORE_CONFIG (R165). -/
def execStoreConfig (s : State) : Result := whilePowered s (serveJob 0x40 storeConfigJob)
/-- RESTART (R167). -/
def execRestart (s : State) : Result := whilePowered s (serveWith id true 0x41 restartJob)

end Sys2Proof.Machine
end

