-- ==== Sys2Proof/Machine/OperationJobs.lean ====
section
/-! DEFINITION. The list and operation jobs (R158 with R47, R109, R117, R118, R144, R147, R153, R154, R172). -/

namespace Sys2Proof.Machine

/-! ## Lists -/

/-- R109: the peak-interval record is emptied. -/
def clearPeakJob (p : List Byte) (s : State) : Verdict :=
  sized 1 p (.accepted [] { s with meter := { s.meter with peakRecord := none } })

/-- R172: the oldest n notices are removed. -/
def ackNoticesJob (p : List Byte) (s : State) : Verdict :=
  sized 2 p (.accepted [] { s with notices := s.notices.drop (u8At p 1) })

/-- R147: the oldest n captures are removed. -/
def discardCapturesJob (p : List Byte) (s : State) : Verdict :=
  sized 2 p (.accepted [] { s with captures := s.captures.drop (u8At p 1) })

/-! ## CLEAR_TRIP (R144) -/

/-- R144: CLEAR_TRIP for a fitted unit and a bound slot, or ALL. -/
def clearTripOn (u : UnitIx) (slot : Option Slot) (s : State) : Verdict :=
  let sel := selectedCauses (s.plant.unit u) slot
  match presentDetail sel with
  | some d => .refused eConditionPresent [BitVec.ofNat 8 d]
  | none => .accepted [] (s.onRoof fun e r => clearCauses e u sel r)

/-- R158: the arguments of CLEAR_TRIP. -/
def clearTripJob (p : List Byte) (s : State) : Verdict :=
  sized 3 p (onUnit p fun u =>
    if !s.tables.units[u].fitted then badArgument 1
    else if u8At p 2 = 255 then clearTripOn u none s
    else
      match slotOfIndex (u8At p 2) with
      | some i => if s.tables.units[u].bound i then clearTripOn u (some i) s else badArgument 2
      | none => badArgument 2)

/-! ## FORCE_STAGE (R153, R154) -/

/-- R153: a slot of the other kind is on in either map, or holds FORCE_ON. -/
def forceConflict (r : UnitRec) (i : Slot) : Bool :=
  (slotsOf (otherKind (slotKind i))).any fun j => onInEither r j || decide (r.stages[j].force = .forceOn)

/-- R153: a slot's force is set, and the unit is settled. -/
def setForce (e : Env) (u : UnitIx) (i : Slot) (f : Force) (r : Roof) : Roof :=
  settle e u (r.onPlant fun p => p.modUnit u fun x => x.modStage i fun st => { st with force := f })

/-- R154: the fan force is set, and the fan command is evaluated again. -/
def setFanForce (u : UnitIx) (on : Bool) (p : Plant) : Plant :=
  refreshTarget false u (p.modUnit u fun r => { r with fanForce := on })

/-- R89, R153: an admission pass is due at once. -/
def callForPass (p : Plant) : Plant := { p with passDue := true }

/-- R153: an action on a slot; 0 FORCE_OFF, 1 FORCE_ON, 2 RELEASE. -/
def forceSlot (u : UnitIx) (i : Slot) (action : Nat) (s : State) : Verdict :=
  match action with
  | 0 => .accepted [] (s.onRoof fun e => setForce e u i .forceOff)
  | 1 =>
    if forceConflict (s.plant.unit u) i then .refused eCallConflict [BitVec.ofNat 8 i.val]
    else .accepted [] (s.onRoof fun e r => (setForce e u i .forceOn r).onPlant callForPass)
  | 2 => .accepted [] (s.onRoof fun e => setForce e u i .none)
  | _ => badArgument 3

/-- R154, R158: an action on the fan; FORCE_OFF naming the fan is refused. -/
def forceFan (u : UnitIx) (action : Nat) (s : State) : Verdict :=
  match action with
  | 1 => .accepted [] (s.onPlant fun _ p => setFanForce u true p)
  | 2 => .accepted [] (s.onPlant fun _ p => setFanForce u false p)
  | _ => badArgument 3

/-- R158: the arguments of FORCE_STAGE. -/
def forceStageJob (p : List Byte) (s : State) : Verdict :=
  sized 4 p (onUnit p fun u =>
    if !s.tables.units[u].fitted then badArgument 1
    else if u8At p 2 = 7 then forceFan u (u8At p 3) s
    else
      match slotOfIndex (u8At p 2) with
      | some i => if s.tables.units[u].bound i then forceSlot u i (u8At p 3) s else badArgument 2
      | none => badArgument 2)

/-! ## Isolation and demand response -/

/-- R47: the body of ISOLATE. -/
def isolateJob (p : List Byte) (s : State) : Verdict :=
  sized 2 p (onUnit p fun u => .accepted [] (s.onRoof fun e => isolateUnit e u))

/-- R47: the body of RESTORE. -/
def restoreJob (p : List Byte) (s : State) : Verdict :=
  sized 2 p (onUnit p fun u => .accepted [] (s.onRoof fun e => restoreUnit e u))

/-- R117: the body of DR_BEGIN: a ceiling and a duration of 1..480 minutes. -/
def drBeginJob (p : List Byte) (s : State) : Verdict :=
  sized 5 p (if 1 ≤ u16At p 3 ∧ u16At p 3 ≤ 480 then .accepted [] (beginJobEvent (u16At p 1) (u16At p 3) s)
    else badArgument 3)

/-- R118: the body of DR_END. -/
def drEndJob (p : List Byte) (s : State) : Verdict := sized 1 p (.accepted [] (endJobEvent s))

/-! ## The commands -/

/-- CLEAR_PEAK (R109). -/
def execClearPeak (s : State) : Result := whilePowered s (serveJob 0x10 clearPeakJob)
/-- ACK_NOTICES (R172). -/
def execAckNotices (s : State) : Result := roofCommand s (serveJob 0x12 ackNoticesJob)
/-- DISCARD_CAPTURES (R147). -/
def execDiscardCaptures (s : State) : Result := whilePowered s (serveJob 0x14 discardCapturesJob)
/-- CLEAR_TRIP (R144). -/
def execClearTrip (s : State) : Result := roofCommand s (serveJob 0x20 clearTripJob)
/-- FORCE_STAGE (R153). -/
def execForceStage (s : State) : Result := roofCommand s (serveJob 0x21 forceStageJob)
/-- ISOLATE (R47). -/
def execIsolate (s : State) : Result := roofCommand s (serveJob 0x22 isolateJob)
/-- RESTORE (R47). -/
def execRestore (s : State) : Result := roofCommand s (serveJob 0x23 restoreJob)
/-- DR_BEGIN (R117). -/
def execDrBegin (s : State) : Result := roofCommand s (serveJob 0x24 drBeginJob)
/-- DR_END (R118). -/
def execDrEnd (s : State) : Result := roofCommand s (serveJob 0x25 drEndJob)

end Sys2Proof.Machine
end

