-- ==== Sys2Proof/Machine/ReadingJobs.lean ====
section
/-! DEFINITION. The reading jobs: what each reports, byte by byte (R114, R134, R147, R156, R157, R172, R180,
11.7, 11.9). -/

namespace Sys2Proof.Machine

/-! ## IDENTIFY and READ_ROOF -/

/-- 11.9: the results of IDENTIFY. -/
def identifyBytes (s : State) : List Byte :=
  le16 Config.familyCode ++ le8 Config.revision ++ le8 (fittedUnits s.tables).length ++ le8 s.jobs.config.code
    ++ le8 s.jobs.session.state.code ++ [packBits [decide (s.jobs.session.state = .applying), s.jobs.store.isSome]]

/-- 11.9: Cj and the seconds to the job event's end. -/
def jobEventBytes (now : Nat) (j : Option JobEvent) : List Byte :=
  match j with
  | some j => le16 j.ceiling ++ le16 (j.endTime - now)
  | none => le16 0 ++ le16 0

/-- 11.9: the peak-interval average, or 0. -/
def peakAverage (p : Option PeakRec) : Nat :=
  match p with
  | some p => p.average
  | none => 0

/-- 11.9: the results of READ_ROOF. -/
def readRoofBytes (s : State) : List Byte :=
  le16 s.meter.clock ++ le32 s.meter.energy ++ le16 s.meter.power ++ le16 s.meter.forecast
    ++ le16 (peakAverage s.meter.peakRecord) ++ le16 s.shed.ceiling ++ le8 s.shed.level
    ++ jobEventBytes s.seconds s.shed.jobEvent
    ++ [packBits [s.meter.peakRecord.isSome, s.shed.jobEvent.isSome, s.shed.contact.isSome,
          s.lines.intervalSync.debounced, s.lines.drContact.debounced, s.lines.roofShutdown.debounced]]
    ++ [packBits [s.lines.outputs[0], s.lines.outputs[1], s.lines.outputs[2], s.lines.outputs[3]]]

/-! ## READ_UNIT and READ_STAGE -/

/-- R134, 11.9: the rotation gate: 0 open, 1 closed, 2 none. -/
def gateCode (c : UnitCfg) (r : UnitRec) : Nat :=
  if c.fitted ∧ c.group.isSome then (if r.gateClosed then 1 else 0) else 2

/-- 11.9: the run map and the status age, 0 when the status record is absent. -/
def runBytes (st : Option Status) : List Byte :=
  match st with
  | some st => [mapByte st.run] ++ le16 st.age
  | none => [0] ++ le16 0

/-- 11.9: the lead order, 0xFF in unused places. -/
def leadBytes (lead : List Slot) : List Byte :=
  ((lead.map fun (i : Slot) => BitVec.ofNat 8 i.val) ++ [0xFF, 0xFF, 0xFF, 0xFF]).take 4

/-- 11.9: the results of READ_UNIT. -/
def readUnitBytes (s : State) (u : UnitIx) : List Byte :=
  let r := s.plant.unit u
  le8 r.state.code ++ leBool r.isolated ++ le8 r.failures ++ le8 r.call.cool ++ le8 r.call.heat
    ++ [packBits [r.call.fanOn, r.call.economizer, r.call.occupied, r.call.coolClamped, r.call.heatClamped]]
    ++ le16 r.call.age ++ [mapByte r.target, mapByte r.ack] ++ runBytes r.status
    ++ le8 ((if r.status.isSome then 1 else 0) + 2 * gateCode s.tables.units[u] r)
    ++ le8 (coolingCap s.env u) ++ leadBytes r.lead

/-- R137: the slot's active trip set as bits, class code c at bit c. -/
def tripSetBits (c : UnitCfg) (r : UnitRec) (i : Slot) : Nat :=
  ([TripClass.hp, .lp, .ovc, .frz, .flm, .fpf, .smk, .band, .shutdown].map fun cls =>
    if c.bound i && r.causes.any (fun x => decide (x.tripClass = cls) && x.covers i) then 2 ^ cls.code else 0).sum

/-- 11.9: the seconds to an end, saturating; 0 when elapsed or absent. -/
def secondsLeft (now : Nat) (t : Option Nat) : Nat :=
  match t with
  | some t => min 65535 (t - now)
  | none => 0

/-- 11.9: the blanking window's seconds to its end; 0 when idle. -/
def windowLeft (now : Nat) (w : Option Window) : Nat :=
  match w with
  | some w => w.anchor + w.length - now
  | none => 0

/-- 11.9: the results of READ_STAGE. -/
def readStageBytes (s : State) (u : UnitIx) (i : Slot) : List Byte :=
  let r := s.plant.unit u
  let st := r.stages[i]
  le8 st.state.code ++ leBool st.stopPending ++ le8 st.force.code ++ le16 (tripSetBits s.tables.units[u] r i)
    ++ le16 (secondsLeft s.seconds st.minOnEnd) ++ le16 (secondsLeft s.seconds st.minOffEnd)
    ++ le16 (secondsLeft s.seconds st.startToStartEnd) ++ le32 (runHoursOf r i)
    ++ le8 (windowLeft s.seconds r.window) ++ leBool r.fanForce

/-! ## READ_QUEUE, READ_HISTORY and READ_ERRORS -/

/-- 11.9: one start-queue entry. -/
def entryBytes (n : Entry) : List Byte :=
  le8 (unitAddr n.unit) ++ le8 n.kind.code ++ le8 n.baseClass ++ le8 n.currentClass ++ le8 n.skip.code

/-- 11.9: the results of READ_QUEUE. -/
def readQueueBytes (s : State) : List Byte :=
  le8 s.plant.queue.length ++ (s.plant.queue.take 8).flatMap entryBytes

/-- 11.9: one history record. -/
def historyBytes (h : HistoryRec) : List Byte :=
  le16 h.average ++ le16 h.length ++ le16 h.peak ++ le8 h.shedPeak ++ le8 h.cause.code

/-- 11.9: the peak-interval record with its flags. -/
def peakBytes (p : Option PeakRec) : List Byte :=
  match p with
  | some p => [1] ++ le16 p.average ++ le32 p.closeTime
  | none => [0] ++ le16 0 ++ le32 0

/-- 11.9: the results of READ_HISTORY from an index toward the oldest. -/
def readHistoryBytes (s : State) (first : Nat) : List Byte :=
  let found := (s.meter.history.drop first).take 4
  le8 s.meter.history.length ++ le8 found.length ++ peakBytes s.meter.peakRecord ++ found.flatMap historyBytes

/-- 11.9: one error list entry. -/
def errorBytes (x : ErrorEntry) : List Byte := [x.job, x.error] ++ le32 x.time

/-- 11.9: the results of READ_ERRORS. -/
def readErrorsBytes (s : State) : List Byte :=
  le8 s.jobs.errors.length ++ s.jobs.errors.flatMap errorBytes

/-! ## READ_NOTICES and READ_CAPTURES (11.7, R180) -/

/-- R180: an age, saturating at 65535; 0 for a held time above the counter (DESIGN CHOICE: log entry 43). -/
def ageOf (now held : Nat) : Nat := min 65535 (now - held)

/-- 11.7: a notice record. -/
def noticeBytes (now : Nat) (n : Notice) : List Byte :=
  le16 (n.kind.code.val + 32 * n.unit + 2048 * n.index.getD 31) ++ le8 n.count ++ le16 (ageOf now n.firstTime)
    ++ le16 (ageOf now n.lastTime) ++ leInt32 (n.value.getD (-2147483648))

/-- 11.7: the results of READ_NOTICES. -/
def readNoticesBytes (s : State) : List Byte :=
  le8 s.notices.length ++ (s.notices.take 4).flatMap (noticeBytes s.seconds)

/-- 11.7, R180: a capture record; an absent field is sent as 0 with its presence bit clear. -/
def captureBytes (c : Capture) : List Byte :=
  le32 c.time ++ le8 c.unit ++ le8 c.tripClass.code ++ le32 (c.sinceStart.getD 0) ++ le16 (c.power.getD 0)
    ++ le16 c.forecast
    ++ le8 (c.level + 8 * c.slot.getD 0 + (if c.slot.isSome then 32 else 0)
        + (if c.sinceStart.isSome then 64 else 0) + (if c.power.isSome then 128 else 0))

/-- 11.7: the results of READ_CAPTURES. -/
def readCapturesBytes (s : State) : List Byte :=
  le8 s.captures.length ++ (s.captures.take 3).flatMap captureBytes

/-! ## The commands -/

/-- A reading job without an argument. -/
def reading (report : State → List Byte) (p : List Byte) (s : State) : Verdict :=
  sized 1 p (.accepted (report s) s)

/-- R157: the body of READ_UNIT. -/
def readUnitJob (p : List Byte) (s : State) : Verdict :=
  sized 2 p (onUnit p fun u => .accepted (readUnitBytes s u) s)

/-- R157: the body of READ_STAGE. -/
def readStageJob (p : List Byte) (s : State) : Verdict :=
  sized 3 p (onUnit p fun u =>
    match slotOfIndex (u8At p 2) with
    | some i => .accepted (readStageBytes s u i) s
    | none => badArgument 2)

/-- R157: the body of READ_HISTORY. -/
def readHistoryJob (p : List Byte) (s : State) : Verdict :=
  sized 2 p (if u8At p 1 ≤ 7 then .accepted (readHistoryBytes s (u8At p 1)) s else badArgument 1)

/-- R156: the body of READ_ERRORS: the entries held, then the list is emptied. -/
def readErrorsJob (p : List Byte) (s : State) : Verdict :=
  sized 1 p (.accepted (readErrorsBytes s) { s with jobs := { s.jobs with errors := [] } })

/-- IDENTIFY (R157). -/
def execIdentify (s : State) : Result := whilePowered s (serveJob 0x01 (reading identifyBytes))
/-- READ_ROOF (R157). -/
def execReadRoof (s : State) : Result := whilePowered s (serveJob 0x02 (reading readRoofBytes))
/-- READ_UNIT (R157). -/
def execReadUnit (s : State) : Result := whilePowered s (serveJob 0x03 readUnitJob)
/-- READ_STAGE (R157). -/
def execReadStage (s : State) : Result := whilePowered s (serveJob 0x04 readStageJob)
/-- READ_QUEUE (R157). -/
def execReadQueue (s : State) : Result := whilePowered s (serveJob 0x05 (reading readQueueBytes))
/-- READ_HISTORY (R157). -/
def execReadHistory (s : State) : Result := whilePowered s (serveJob 0x06 readHistoryJob)
/-- READ_ERRORS (R156). -/
def execReadErrors (s : State) : Result := whilePowered s (serveJob 0x07 readErrorsJob)
/-- READ_NOTICES (R172). -/
def execReadNotices (s : State) : Result := whilePowered s (serveJob 0x11 (reading readNoticesBytes))
/-- READ_CAPTURES (R147). -/
def execReadCaptures (s : State) : Result := whilePowered s (serveJob 0x13 (reading readCapturesBytes))

end Sys2Proof.Machine
end

