-- ==== Sys2Proof/Machine/Dispatch.lean ====
section
/-! DEFINITION. One arm for each command, each one call of its meaning. -/

namespace Sys2Proof.Machine

/-- The command's effect on everything but the queue of waiting commands. -/
def exec (i : Instr) (s : State) : Host.Outcome State Fault Refusal :=
  match i with
  | .powerUp => Sys2Proof.Machine.execPowerUp s
  | .resetLine => Sys2Proof.Machine.execResetLine s
  | .controllerFrameReceived frame => Sys2Proof.Machine.execControllerFrameReceived frame s
  | .gapTimeout port => Sys2Proof.Machine.execGapTimeout port s
  | .lineBreak port => Sys2Proof.Machine.execLineBreak port s
  | .replyTransmitStart => Sys2Proof.Machine.execReplyTransmitStart s
  | .replyTransmitEnd => Sys2Proof.Machine.execReplyTransmitEnd s
  | .trunkArbitration => Sys2Proof.Machine.execTrunkArbitration s
  | .turnaroundEnd => Sys2Proof.Machine.execTurnaroundEnd s
  | .attemptSent => Sys2Proof.Machine.execAttemptSent s
  | .trunkFrameReceived frame => Sys2Proof.Machine.execTrunkFrameReceived frame s
  | .replyTimeout => Sys2Proof.Machine.execReplyTimeout s
  | .secondsTick => Sys2Proof.Machine.execSecondsTick s
  | .offWindowsElapsed unit slot => Sys2Proof.Machine.execOffWindowsElapsed unit slot s
  | .minimumOnEnd unit slot => Sys2Proof.Machine.execMinimumOnEnd unit slot s
  | .blankingWindowEnd unit => Sys2Proof.Machine.execBlankingWindowEnd unit s
  | .entryAging => Sys2Proof.Machine.execEntryAging s
  | .admissionPass => Sys2Proof.Machine.execAdmissionPass s
  | .staggerTimerEnd => Sys2Proof.Machine.execStaggerTimerEnd s
  | .demandSample => Sys2Proof.Machine.execDemandSample s
  | .shedReaction => Sys2Proof.Machine.execShedReaction s
  | .stepTimerEnd => Sys2Proof.Machine.execStepTimerEnd s
  | .restoreHoldEnd => Sys2Proof.Machine.execRestoreHoldEnd s
  | .drEventExpiry => Sys2Proof.Machine.execDrEventExpiry s
  | .inputLineChange line closed => Sys2Proof.Machine.execInputLineChange line closed s
  | .debounceExpiry line => Sys2Proof.Machine.execDebounceExpiry line s
  | .identify => Sys2Proof.Machine.execIdentify s
  | .readRoof => Sys2Proof.Machine.execReadRoof s
  | .readUnit => Sys2Proof.Machine.execReadUnit s
  | .readStage => Sys2Proof.Machine.execReadStage s
  | .readQueue => Sys2Proof.Machine.execReadQueue s
  | .readHistory => Sys2Proof.Machine.execReadHistory s
  | .readErrors => Sys2Proof.Machine.execReadErrors s
  | .clearPeak => Sys2Proof.Machine.execClearPeak s
  | .readNotices => Sys2Proof.Machine.execReadNotices s
  | .ackNotices => Sys2Proof.Machine.execAckNotices s
  | .readCaptures => Sys2Proof.Machine.execReadCaptures s
  | .discardCaptures => Sys2Proof.Machine.execDiscardCaptures s
  | .clearTrip => Sys2Proof.Machine.execClearTrip s
  | .forceStage => Sys2Proof.Machine.execForceStage s
  | .isolate => Sys2Proof.Machine.execIsolate s
  | .restore => Sys2Proof.Machine.execRestore s
  | .drBegin => Sys2Proof.Machine.execDrBegin s
  | .drEnd => Sys2Proof.Machine.execDrEnd s
  | .openEdit => Sys2Proof.Machine.execOpenEdit s
  | .selectTable => Sys2Proof.Machine.execSelectTable s
  | .seek => Sys2Proof.Machine.execSeek s
  | .writeRecord => Sys2Proof.Machine.execWriteRecord s
  | .exchange => Sys2Proof.Machine.execExchange s
  | .readAt => Sys2Proof.Machine.execReadAt s
  | .applyTables => Sys2Proof.Machine.execApplyTables s
  | .abandon => Sys2Proof.Machine.execAbandon s
  | .storeConfig => Sys2Proof.Machine.execStoreConfig s
  | .restart => Sys2Proof.Machine.execRestart s
  | .sessionIdleExpiry => Sys2Proof.Machine.execSessionIdleExpiry s
  | .storeEnd readBackEqual => Sys2Proof.Machine.execStoreEnd readBackEqual s
  | .characterReceived port ch => Sys2Proof.Machine.execCharacterReceived port ch s
  | .powerLoss => Sys2Proof.Machine.execPowerLoss s
  | .badJobCode => Sys2Proof.Machine.execBadJobCode s

end Sys2Proof.Machine
end

