-- ==== Sys2Proof/Safety.lean ====
section
/-! DEFINITION. What every state of a run satisfies, in the manual's terms, and the few shapes the statements
share: the link after a job is answered, the frame of a command that acts on one block. -/

namespace Sys2Proof.Machine

/-! ## Invariants -/

/-- R18 to R21: the places of the relay, job and reply queues. -/
def QueuesBounded (l : Link) : Prop :=
  l.relay.length ≤ 4 ∧ l.jobs.length ≤ 2 ∧ l.replies.length + (l.relay.length + l.jobs.length) ≤ 8

/-- R159, R163: the bounds of the interval fields in a ROOF record. -/
def IntervalFieldsBounded (r : RoofRec) : Prop := r.intervalLength ≤ 3600 ∧ r.syncGrace ≤ 300

/-- The interval fields of every ROOF record the supervisor holds: live, in a shadow, in the image, in a
snapshot. -/
def IntervalsBounded (s : State) : Prop :=
  IntervalFieldsBounded s.tables.roof ∧ IntervalFieldsBounded s.jobs.session.shadows.roof ∧
  (∀ t, s.jobs.image = some t → IntervalFieldsBounded t.roof) ∧
  (∀ st, s.jobs.store = some st → IntervalFieldsBounded st.snapshot.roof)

/-- R100, R102: the demand meter between two commands, for an interval of length `T`. -/
def MeterSound (T : Nat) (m : Meter) : Prop :=
  m.clock ≤ 3900 ∧ m.energy ≤ m.peak * m.clock ∧ m.power ≤ m.peak ∧ m.peak ≤ 65535 ∧ m.forecast ≤ m.peak ∧
  (m.clock ≤ T → m.energy / T ≤ m.forecast) ∧ (m.clock = 0 → m.forecast = m.power ∧ m.peak = m.power)

/-- R171: the notice list: at most 32 records, LIST_OVERFLOW only in the last position and at most 31 others,
no key twice, every repeat count 1..255. -/
def NoticesSound (ns : List Notice) : Prop :=
  (ns.filter (·.kind ≠ .listOverflow)).length ≤ 31 ∧
  (∀ n ∈ ns.dropLast, n.kind ≠ .listOverflow) ∧
  ns.Pairwise (fun a b => ¬(a.kind = b.kind ∧ a.unit = b.unit ∧ a.index = b.index)) ∧
  (∀ n ∈ ns, 1 ≤ n.count ∧ n.count ≤ 255)

/-- R81, R82: the start queue in its order, with at most one entry of a unit and kind. -/
def StartQueueOrdered (q : List Entry) : Prop :=
  q.Pairwise (fun a b => a.ahead b = true) ∧
  q.Pairwise (fun a b => ¬(a.unit = b.unit ∧ a.kind = b.kind))

/-- R137, R142: a unit's cause list holds no class and position twice, and its strike lists at most 7 times. -/
def CausesSound (r : UnitRec) : Prop :=
  r.causes.Pairwise (fun a b => ¬(a.tripClass = b.tripClass ∧ a.position = b.position)) ∧
  (∀ l ∈ r.strikes, l.times.length ≤ 7)

/-- R31: a unit stands at most once in each order of the injection set, and a protection mark stands only on a
pending injection. -/
def InjectionsSound (p : Plant) : Prop :=
  p.injections.Nodup ∧ p.protection.Nodup ∧ ∀ u ∈ p.protection, u ∈ p.injections

/-- R108, R121, R147, R156: the lists and the level within their bounds. -/
def ListsBounded (s : State) : Prop :=
  s.captures.length ≤ 16 ∧ s.meter.history.length ≤ 8 ∧ s.jobs.errors.length ≤ 3 ∧ s.shed.level ≤ 7

/-- R177, R178: while the supply is applied, the relays are as the OUTPUT records and the conditions drive
them; while it is not, none is energised (log entry 4). -/
def OutputsTrue (s : State) : Prop :=
  s.lines.outputs =
    if s.powered then drivenOutputs s.tables s.shed s.plant s.notices s.lines.syncMissing
    else tabulate fun _ => false

/-- R83, R89: no admission pass is left due between two commands. -/
def NoPassDue (s : State) : Prop := s.plant.passDue = false

/-! ## Shapes of the statements -/

/-- R19, R155: the ports and queues after the head job was answered with a payload, under FLAGS `flags`. -/
def jobAnswered (l : Link) (req : Frame) (rest : List Frame) (flags : Byte) (payload : List Byte) : Link :=
  { l with
    jobs := rest
    replies := l.replies ++ [⟨⟨req.addr, req.tag, req.kind ||| 0x80, flags, payload⟩, false⟩] }

/-- The job at the head of the job queue is to be served: the supply is applied, no RESTART was accepted. -/
def JobWaits (s : State) (req : Frame) (rest : List Frame) (payload : List Byte) : Prop :=
  s.powered = true ∧ s.jobs.restarting = false ∧ s.link.jobs = req :: rest ∧ req.payload = payload

/-- The state with the error list as a refusal leaves it (R156). -/
def errorsAfter (s : State) (job error : Byte) : List ErrorEntry :=
  (if s.jobs.errors.length < 3 then s.jobs.errors else s.jobs.errors.drop 1) ++ [⟨job, error, s.seconds⟩]

/-- What a command that serves a job on the plant leaves as it was: tables, meter, shed controller, rotation,
seconds, the job processor and the ports but for the answered job. -/
def OnlyPlantChanged (s t : State) (l : Link) : Prop :=
  t.pending = s.pending ∧ t.powered = s.powered ∧ t.draws = s.draws ∧ t.seconds = s.seconds ∧
  t.tables = s.tables ∧ t.meter = s.meter ∧ t.shed = s.shed ∧ t.rotation = s.rotation ∧ t.jobs = s.jobs ∧
  t.link = l ∧ t.captures = s.captures ∧ t.lines.intervalSync = s.lines.intervalSync ∧
  t.lines.drContact = s.lines.drContact ∧ t.lines.roofShutdown = s.lines.roofShutdown ∧
  t.lines.syncMissing = s.lines.syncMissing

/-- Supplied, with no admission pass due: every state between two commands of a supplied run is so. -/
def Ready (s : State) : Prop := s.powered = true ∧ NoPassDue s

/-- Supplied, with no admission pass due and the relays as they should be. -/
def Calm (s : State) : Prop := s.powered = true ∧ NoPassDue s ∧ OutputsTrue s

/-- R33: the trunk is FREE and the turnaround wait satisfied. -/
def TrunkIdle (s : State) : Prop := s.link.trunk = .free ∧ s.link.quiet = true

/-- R26: the trunk carries an attempt of transaction `x`: the frame's characters, at the port's rate, under
the tag the counter showed before, which has moved on by 1. -/
def AttemptSending (s t : State) (x : Transaction) (f : Frame) : Prop :=
  t.link.trunk = .sending x ⟨wireOf f, s.link.trunkRate⟩ ∧ x.tag = s.link.tag ∧ f.tag = s.link.tag ∧
  t.link.tag = s.link.tag + 1 ∧ x.retryCount = s.tables.roof.retryCount ∧
  x.replyTimeout = s.tables.roof.replyTimeout

/-- R3, R12, R14: the header a request from the controller must have to be routed. -/
def RequestHeader (f : Frame) : Prop :=
  1 ≤ f.addr.toNat ∧ f.addr.toNat ≤ 63 ∧ f.kind.toNat < 128 ∧ f.flags.getLsbD 0 = false ∧
  f.payload.length ≤ 48

/-- R29, R43: the transaction in flight reports to no unit record that is not fitted. -/
def ReportsToFitted (s : State) : Prop :=
  ∀ (x : Transaction) (u : UnitIx),
    (s.link.trunk = .ready x ∨ (∃ o, s.link.trunk = .sending x o) ∨ s.link.trunk = .awaiting x) →
    x.unit = some u → x.unreported = false → s.tables.units[u].fitted = true

/-- R43: the units that are not fitted are ABSENT, and the fitted ones are not. -/
def FittedNotAbsent (s : State) : Prop :=
  ∀ u : UnitIx, (s.plant.unit u).state = .absent ↔ s.tables.units[u].fitted = false

/-- R155, R156: the command refuses the head job with an error and its details, appends the refusal to the error
list, leaves the job processor otherwise as `jobs`, and changes nothing else. -/
def RefusesJob (c : Instr) (s : State) (req : Frame) (rest : List Frame) (job error : Byte) (details : List Byte)
    (jobs : Jobs) : Prop :=
  exec c s = .next { s with
    link := jobAnswered s.link req rest 0x03 (error :: details)
    jobs := { jobs with errors := errorsAfter s job error } }

/-- R160: the edit session is OPEN, and an edit job that waits is served in it. -/
def InOpenSession (s : State) : Prop := s.jobs.session.state = .opened

/-- R160: the job processor with the session `x` and its idle timer started anew. -/
def withIdle (s : State) (x : Session) : Jobs :=
  { s.jobs with session := { x with idleEnd := some (s.seconds + 120) } }

/-! ## Replies and starts -/

/-- R37, 11.4: the eight bytes of the trailer of a unit as it stands. -/
def TrailerBytes (s : State) (u : UnitIx) : List Byte :=
  let r := s.plant.unit u
  let granted (heat : Bool) : Byte :=
    BitVec.ofNat 8 (allSlots.filter fun i => decide (4 ≤ i.val) == heat && r.target.has i).length
  let state : Byte := match r.state with
    | .absent => 0 | .unadopted => 1 | .online => 2 | .offline => 3 | .inLocal => 4
  [granted false, granted true, BitVec.ofNat 8 (reasonOf s.plant u .cool).code,
    BitVec.ofNat 8 (reasonOf s.plant u .heat).code, state, BitVec.ofNat 8 s.shed.level,
    BitVec.ofNat 8 s.meter.forecast, BitVec.ofNat 8 (s.meter.forecast / 256)]

/-- R28: the transaction has made every attempt it may make. -/
def Exhausted (x : Transaction) : Prop := if x.single then 1 ≤ x.attempt else 1 + x.retryCount ≤ x.attempt

/-- R27, R179: a reply with FLAGS `flags` and payload `p` passes the checks for its request; those to a passthrough
or foreign request are not checked. -/
def ReplyFits (q : Request) (flags : Byte) (p : List Byte) : Prop :=
  p.length ≤ 48 ∧
  match q with
  | .raw _ _ _ _ => True
  | .stageMap _ => if flags.getLsbD 1 then 2 ≤ p.length else p.length = 1
  | .setpoint _ _ _ => if flags.getLsbD 1 then 2 ≤ p.length else p.length = 4
  | .statusRead _ => if flags.getLsbD 1 then 2 ≤ p.length else 17 ≤ p.length ∧ u8At p 0 ≤ 3 ∧ u8At p 1 ≤ 1

/-- R96: a manual start waits for the slot and meets the four conditions. -/
def ManualReady (e : Env) (p : Plant) (u : UnitIx) (i : Slot) : Prop :=
  let r := p.unit u
  r.stages[i].force = .forceOn ∧ (r.stages[i].state = .offReady ∨ r.stages[i].state = .queued) ∧
  r.state = .online ∧ r.isolated = false ∧
  (∀ j : Slot, slotKind j ≠ slotKind i → r.target.has j = false ∧ r.ack.has j = false) ∧
  ∃ pr ∈ e.profile u i, ¬(pr.inrush = true ∧ ∃ x ∈ p.staggerEnd, e.now < x)

/-- R64, R92: the slot has been started with the profile in the command from `s` to `t`. -/
def StartedNow (s t : State) (u : UnitIx) (i : Slot) (pr : Profile) : Prop :=
  let st := (t.plant.unit u).stages[i]
  (st.state = .starting ∨ st.state = .runMin) ∧ st.startTime = some s.seconds ∧
  st.minOnEnd = some (s.seconds + pr.minOn) ∧ st.startToStartEnd = some (s.seconds + pr.startToStart) ∧
  (pr.inrush = true → t.plant.staggerEnd = some (s.seconds + s.tables.roof.staggerTime))

/-- R93: the uncounted grant sum after a grant to the unit of a slot with the profile: the candidate rating takes in
the unit's base rating where the estimate does not. -/
def GrantedSum (s : State) (u : UnitIx) (pr : Profile) : Nat :=
  let r := s.plant.unit u
  let base := allSlots.any (fun i => r.target.has i || r.ack.has i) || r.status.any (·.run.fan)
  min 65535 (s.plant.grantSum + (pr.rating + if base then 0 else s.tables.units[u].baseRating))

/-! ## Folds -/

/-- R78: the notices as an operation on a unit leaves them, where the lead/lag check may have been made in it. -/
def SwapMayFollow (e : Env) (u : UnitIx) (before after : List Notice) : Prop :=
  after = before ∨ ((e.cfg u).leadLag = true ∧ ∃ i : Slot,
    after = raiseNotice e.tables e.now .leadSwapped (u.val + 1) none (some (i.val : Int)) before)

/-- R135, R151: the classes and positions whose conditions a fold evaluates. -/
def FoldedPosition (cls : TripClass) (pos : Option Nat) : Prop :=
  match cls with
  | .hp | .lp | .ovc => ∃ i : Fin 4, pos = some i.val
  | .frz | .flm | .fpf | .smk => pos = none
  | .band => ∃ b : Fin 16, pos = some b.val
  | .shutdown => False

/-- R135, 11.3, R151: a folded status payload `p` of a unit with the UNIT record `c` shows the condition; a band's is
read from the unit's pairs as the fold leaves them. -/
def FoldShows (t : Tables) (c : UnitCfg) (p : List Byte) (pairs : Vector BandPair 16) (cls : TripClass)
    (pos : Option Nat) : Prop :=
  match cls with
  | .hp => ∃ i : Slot, pos = some i.val ∧ c.bound i = true ∧ (u16At p 3).testBit (3 * i.val) = true
  | .lp => ∃ i : Slot, pos = some i.val ∧ c.bound i = true ∧ (u16At p 3).testBit (3 * i.val + 1) = true
  | .ovc => ∃ i : Slot, pos = some i.val ∧ c.bound i = true ∧ (u16At p 3).testBit (3 * i.val + 2) = true
  | .frz => (byteAt p 5).getLsbD 0 = true
  | .flm => (byteAt p 5).getLsbD 1 = true
  | .fpf => (byteAt p 5).getLsbD 2 = true
  | .smk => (byteAt p 5).getLsbD 3 = true
  | .band => ∃ b : Fin 16, pos = some b.val ∧ t.bands[b].action = .trip ∧ pairs[b].state = .outside
  | .shutdown => False

/-- R139: a condition of the class is set aside while the unit's blanking window runs. -/
def SetAside (t : Tables) (r : UnitRec) (cls : TripClass) : Prop :=
  r.window.isSome = true ∧ ∃ pol, policyOf t cls = some pol ∧ pol.blankable = true

/-- A fold of an ONLINE unit in which nothing trips and nothing is released: the hand flag clear, no fault bit, no
cause held, no band with the TRIP action. -/
def QuietFold (s : State) (u : UnitIx) (p : List Byte) : Prop :=
  (s.plant.unit u).state = .online ∧ u8At p 1 = 0 ∧ u16At p 3 = 0 ∧ u8At p 5 = 0 ∧ (s.plant.unit u).causes = [] ∧
  ∀ b : Fin 16, s.tables.bands[b].action ≠ .trip

/-- R29, R48: the transaction that awaits its reply is a STATUS_READ of a fitted unit, and `p` is a status payload
it may be answered with. -/
def FoldAwaits (s : State) (x : Transaction) (u : UnitIx) (p : List Byte) : Prop :=
  s.link.trunk = .awaiting x ∧ x.request = .statusRead u ∧ x.unit = some u ∧ x.unreported = false ∧
  17 ≤ p.length ∧ p.length ≤ 48 ∧ u8At p 0 ≤ 3 ∧ u8At p 1 ≤ 1

/-- R27: the reply to the STATUS_READ that `x` awaits, with the status payload `p`. -/
def statusReply (x : Transaction) (p : List Byte) : Frame := ⟨x.request.addr, x.tag, 0x82, 0x01, p⟩

end Sys2Proof.Machine
end

