-- ==== Sys2Proof/Certificates/Slice0/Obligations.lean ====
section
/-! DEFINITION. The statements for the provers. Each docstring names the rules a statement rests on. -/

open Sys2Proof Sys2Proof.Machine

/-! ## The step -/

/-- A step carries out the command at the front of the queue on the state with the rest; on an empty queue the
supervisor idles (the model's choice, log entry 5). -/
def Obligations.StepTakesFrontCommand : Prop :=
  (∀ (c : Instr) (rest : List Instr) (s : State), s.pending = c :: rest →
    step s = exec c { s with pending := rest }) ∧
  (∀ s : State, s.pending = [] → step s = .next s)

/-- The manual gives every command an effect in every state: each answers a next state, leaves the waiting
commands, and only POWER_UP and POWER_LOSS touch the supply. The model's choice (log entry 4): while no supply is
applied only POWER_UP acts, and an input line's own level moves. -/
def Obligations.EveryCommandAnswersNext : Prop :=
  ∀ (c : Instr) (s : State), ∃ t, exec c s = .next t ∧ t.pending = s.pending ∧
    (c ≠ .powerUp → c ≠ .powerLoss → t.powered = s.powered) ∧
    (s.powered = false → c ≠ .powerUp → (∀ w b, c ≠ .inputLineChange w b) → t = s)

/-! ## Frames and the receivers (R3 to R8, R11) -/

/-- R3 to R5: a run of well-formed frames behind any noise without the SYNC byte is received whole, in order,
and leaves the receiver in HUNT; a frame whose two check bytes differ from the check in either byte is handed on
by no receiver. -/
def Obligations.ReceiverDecodesWireOfFrames : Prop :=
  (∀ (noise : List Byte) (fs : List Frame), (∀ b ∈ noise, b ≠ 0xA5) → (∀ f ∈ fs, f.wellFormed = true) →
    Receiver.run .hunt (noise ++ fs.flatMap wireOf) = (.hunt, fs)) ∧
  (∀ (f : Frame) (lo hi : Byte), f.wellFormed = true →
    (lo ≠ crcLow (crcOf (frameLen f :: frameBody f)) ∨ hi ≠ crcHigh (crcOf (frameLen f :: frameBody f))) →
    Receiver.run .hunt (0xA5 :: frameLen f :: (frameBody f ++ [lo, hi])) = (.hunt, []))

/-- R5, R7, R8: a character on the controller port moves its receiver as the four states' table gives and changes
nothing else; the character that completes a good frame does what that frame's row does (log entry 12). R6, R7: a gap
past 2 tc and a break each return the port's receiver to HUNT and change nothing else. R8, R11: a character on the
trunk that completes no good frame moves the trunk receiver and restarts the turnaround wait, and nothing else; while
the trunk port transmits, none is taken. R14, R27: a good frame of another address, tag or kind, or without the REPLY
indicator, leaves the transaction waiting. -/
def Obligations.CharactersMoveTheReceivers : Prop :=
  (∀ (s : State) (b : Byte), s.powered = true →
    let after (r : Receiver) : Result := .next { s with link := { s.link with controllerRx := r } }
    let got := exec (.characterReceived .controller (.good b)) s
    (s.link.controllerRx = .hunt → got = after (if b = 0xA5 then .length else .hunt)) ∧
    (s.link.controllerRx = .length → 4 ≤ b.toNat → b.toNat ≤ 52 →
      got = after (.body b.toNat [] (crcByte 0xFFFF b))) ∧
    (s.link.controllerRx = .length → (b.toNat < 4 ∨ 52 < b.toNat) → got = after .hunt) ∧
    (∀ n l c, s.link.controllerRx = .body n l c → l.length + 1 < n →
      got = after (.body n (l ++ [b]) (crcByte c b))) ∧
    (∀ n l c, s.link.controllerRx = .body n l c → l.length + 1 = n →
      got = after (.check (l ++ [b]) (crcByte c b) none)) ∧
    (∀ l c, s.link.controllerRx = .check l c none → got = after (.check l c (some b))) ∧
    (∀ l c low, s.link.controllerRx = .check l c (some low) → low = crcLow c → b = crcHigh c →
      got = exec (.controllerFrameReceived (frameOfBody l)) s) ∧
    (∀ l c low, s.link.controllerRx = .check l c (some low) → (low ≠ crcLow c ∨ b ≠ crcHigh c) →
      got = after .hunt) ∧
    exec (.characterReceived .controller .badlyFramed) s = after .hunt) ∧
  (∀ s : State, s.powered = true →
    exec (.gapTimeout .controller) s = .next { s with link := { s.link with controllerRx := .hunt } } ∧
    exec (.gapTimeout .trunk) s = .next { s with link := { s.link with trunkRx := .hunt } } ∧
    exec (.lineBreak .controller) s = .next { s with link := { s.link with controllerRx := .hunt } } ∧
    exec (.lineBreak .trunk) s = .next { s with link := { s.link with trunkRx := .hunt } }) ∧
  (∀ (s : State) (c : LinkChar), Calm s →
    (s.link.trunk.isSending = false → (s.link.trunkRx.char c).2 = none →
      exec (.characterReceived .trunk c) s =
        .next { s with link := { s.link with trunkRx := (s.link.trunkRx.char c).1, quiet := false } }) ∧
    (s.link.trunk.isSending = true → exec (.characterReceived .trunk c) s = .next s)) ∧
  (∀ (s : State) (x : Transaction) (f : Frame), Calm s → s.link.trunk = .awaiting x →
    (f.addr ≠ x.request.addr ∨ f.tag ≠ x.tag ∨ f.kind ≠ x.request.kind ||| 0x80 ∨ f.flags.getLsbD 0 = false) →
    exec (.trunkFrameReceived f) s = .next { s with link := { s.link with trunkRx := .hunt, quiet := false } })

/-! ## Taking requests in and sending replies (R10, R12, R15, R20, R21) -/

/-- R12, R16: where a frame from the controller goes, by its address and kind. R3, R12, R14: a frame whose ADDR is 0
or above 63, whose reply bit is set, or whose REPLY indicator disagrees with the reply bit, is discarded. -/
def Obligations.RoutingFollowsAddressAndKind : Prop :=
  (∀ f : Frame, RequestHeader f →
    let a := f.addr.toNat
    let k := f.kind.toNat
    let through := 0x20 ≤ k ∧ k ≤ 0x3F
    (a ≤ 32 → (k = 1 ∨ k = 2 ∨ k = 3 ∨ through) → routeOf f = .relay) ∧
    (a ≤ 32 → ¬(k = 1 ∨ k = 2 ∨ k = 3 ∨ through) → routeOf f = .refused 0x02 f.kind) ∧
    (33 ≤ a → a ≤ 47 → routeOf f = .relay) ∧
    (a = 48 → k = 0x10 → routeOf f = .job) ∧
    (a = 48 → k ≠ 0x10 → routeOf f = .refused 0x02 f.kind) ∧
    (49 ≤ a → a ≤ 62 → routeOf f = .refused 0x02 0) ∧
    (a = 63 → (k = 1 ∨ k = 4) → routeOf f = .refused 0x06 f.kind) ∧
    (a = 63 → (k = 3 ∨ through) → routeOf f = .relay) ∧
    (a = 63 → ¬(k = 1 ∨ k = 4 ∨ k = 3 ∨ through) → routeOf f = .refused 0x02 f.kind)) ∧
  (∀ f : Frame, (f.addr = 0 ∨ 63 < f.addr.toNat ∨ f.kind.getLsbD 7 = true ∨
      f.flags.getLsbD 0 ≠ f.kind.getLsbD 7) → routeOf f = .discarded)

/-- R21: a routed, well-formed frame joins the back of its queue when the queue has room and H + U < 8, and is
discarded when the queue has room but H + U has no place left. R12, R15, R16, R21: refusals at arrival take a reply
place when H + U < 8 and are discarded otherwise; a full queue refuses with BUSY. Nothing else changes. R15: which
payloads of interpreted requests are refused, with which detail; no other request is checked. -/
def Obligations.ArrivalIsQueuedAnsweredOrDiscarded : Prop :=
  (∀ (s : State) (f : Frame), s.powered = true →
    let room := s.link.replies.length + (s.link.relay.length + s.link.jobs.length) < 8
    let answered (e d : Byte) : Result := .next { s with link := { s.link with
      controllerRx := .hunt
      replies := s.link.replies ++ [⟨⟨f.addr, f.tag, f.kind ||| 0x80, 0x03, [e, d]⟩, false⟩] } }
    let discarded : Result := .next { s with link := { s.link with controllerRx := .hunt } }
    let refused (e d : Byte) : Prop :=
      (room → exec (.controllerFrameReceived f) s = answered e d) ∧
      (¬room → exec (.controllerFrameReceived f) s = discarded)
    (routeOf f = .relay → badPayload f = none → s.link.relay.length < 4 →
      (room → exec (.controllerFrameReceived f) s =
        .next { s with link := { s.link with controllerRx := .hunt, relay := s.link.relay ++ [f] } }) ∧
      (¬room → exec (.controllerFrameReceived f) s = discarded)) ∧
    (routeOf f = .job → s.link.jobs.length < 2 →
      (room → exec (.controllerFrameReceived f) s =
        .next { s with link := { s.link with controllerRx := .hunt, jobs := s.link.jobs ++ [f] } }) ∧
      (¬room → exec (.controllerFrameReceived f) s = discarded)) ∧
    (∀ e d, routeOf f = .refused e d → refused e d) ∧
    (∀ d, routeOf f = .relay → badPayload f = some d → refused 0x11 d) ∧
    (routeOf f = .relay → badPayload f = none → s.link.relay.length = 4 → refused 0x01 1) ∧
    (routeOf f = .job → s.link.jobs.length = 2 → refused 0x01 2) ∧
    (routeOf f = .discarded → exec (.controllerFrameReceived f) s = discarded)) ∧
  (∀ f : Frame,
    let p := f.payload
    let toUnit := 1 ≤ f.addr.toNat ∧ f.addr.toNat ≤ 32
    let call := toUnit ∧ f.kind = 0x01
    let read := toUnit ∧ f.kind = 0x02
    let setpoint := (toUnit ∨ f.addr.toNat = 63) ∧ f.kind = 0x03
    (¬call → ¬read → ¬setpoint → badPayload f = none) ∧
    (call → p.length ≠ 5 → badPayload f = some 0xFF) ∧
    (call → p.length = 5 →
      (1 < u8At p 2 → badPayload f = some 2) ∧
      (u8At p 2 ≤ 1 → 1 < u8At p 3 → badPayload f = some 3) ∧
      (u8At p 2 ≤ 1 → u8At p 3 ≤ 1 → 1 < u8At p 4 → badPayload f = some 4) ∧
      (u8At p 2 ≤ 1 → u8At p 3 ≤ 1 → u8At p 4 ≤ 1 → badPayload f = none)) ∧
    (read → badPayload f = if p.length = 0 then none else some 0xFF) ∧
    (setpoint → p.length ≠ 4 → badPayload f = some 0xFF) ∧
    (setpoint → p.length = 4 →
      (u16At p 0 = 0x8000 → badPayload f = some 0) ∧
      (u16At p 0 ≠ 0x8000 → u16At p 2 = 0x8000 → badPayload f = some 2) ∧
      (u16At p 0 ≠ 0x8000 → u16At p 2 ≠ 0x8000 → badPayload f = none)))

/-- R10, R14, R173: the idle transmitter begins the front frame of the reply queue with ATTENTION as the notice
list gives it then; the frame stays in the queue until its transmission ends, and then leaves it. -/
def Obligations.ReplyIsSentWithAttentionAndLeaves : Prop :=
  ∀ (s : State) (r : Reply) (rest : List Reply), s.powered = true → s.link.replies = r :: rest →
    (s.link.transmitting = none →
      exec .replyTransmitStart s = .next { s with link := { s.link with
        transmitting := some ⟨wireOf { r.frame with
          flags := if ∃ n ∈ s.notices, classOf s.tables n.kind = .report then r.frame.flags ||| 0x04
            else r.frame.flags &&& 0xFB }, s.link.controllerRate⟩ } }) ∧
    (s.link.transmitting.isSome → r.restart = false →
      exec .replyTransmitEnd s = .next { s with link := { s.link with transmitting := none, replies := rest } })

/-! ## Resets and the supply (R2, R9, R18 to R20, R41, R60, R88, R97, R121, R160, R166, R167, R174) -/

/-- Power-up, the RESET line and the end of a RESTART reply each leave every block at its value after a reset, with
the stored image loaded when its CRC is good and no store was in progress. R145, R174: the start-up notices in
their order; with the ROOF_SHUTDOWN line closed every fitted unit holds the SHUTDOWN cause and its slots are tripped,
with one capture. That POWER_UP resets also while the supply is applied, and that the image of a store in progress
is bad, rest on log entries 4 and 29 (the model's choices); so do, on log entries 19 and 50, that a stage whose minimum
off time is 0 is OFF_LOCKED too and that the times of a slot not fitted are absent. -/
def Obligations.ResetLoadsImageAndClearsEveryBlock : Prop :=
  ∀ (s : State) (c : Instr) (cause : Int),
    ((c = .powerUp ∧ cause = 0) ∨ (c = .resetLine ∧ s.powered = true ∧ cause = 1) ∨
      (c = .replyTransmitEnd ∧ s.powered = true ∧ s.link.transmitting.isSome ∧ cause = 2 ∧
        ∃ f rest, s.link.replies = ⟨f, true⟩ :: rest)) →
    let image := if s.jobs.store.isSome then none else s.jobs.image
    let tabs := image.getD factoryTables
    let shut := s.lines.roofShutdown.line
    let closed := s.lines.drContact.line
    ∃ t, exec c s = .next t ∧
      t.powered = true ∧ t.pending = s.pending ∧ t.draws = s.draws ∧ t.seconds = 0 ∧ t.tables = tabs ∧
      t.meter = ⟨0, 0, 0, 0, 0, 0, [], none, 0⟩ ∧
      t.shed = ⟨0, none, .idle, none, if closed then some 0 else none,
        if closed then min tabs.roof.ceiling tabs.roof.drDefaultCeiling else tabs.roof.ceiling⟩ ∧
      (∀ g : Fin 8, t.rotation[g] = none) ∧
      t.plant.queue = [] ∧ t.plant.sequence = 0 ∧ t.plant.passDue = false ∧ t.plant.staggerEnd = none ∧
      t.plant.grantSum = 0 ∧ t.plant.injections = [] ∧ t.plant.protection = [] ∧
      (∀ u : UnitIx,
        let r := t.plant.unit u
        let cfg := tabs.units[u]
        r.state = (if cfg.fitted then .unadopted else .absent) ∧ r.isolated = false ∧ r.failures = 0 ∧
        r.call = emptyCall ∧ r.target = emptyMap ∧ r.ack = emptyMap ∧ r.status = none ∧ r.fresh = false ∧
        (∀ i : Slot, r.notProven[i] = 0) ∧ r.lead = ([0, 1, 2, 3] : List Slot).filter cfg.bound ∧
        (∀ j : Fin 4, r.runHours[j] = 0) ∧ r.window = none ∧ r.fanForce = false ∧ r.strikes = [] ∧
        r.causes = (if cfg.fitted ∧ shut = true then [⟨.shutdown, none, .any, false, true, 0⟩] else []) ∧
        (∀ b : Fin 16, r.pairs[b] = ⟨.notApplicable, none⟩) ∧ r.gateClosed = false ∧
        ∀ i : Slot, r.stages[i] =
          if cfg.bound i then
            ⟨if shut then .trippedAuto else .offLocked, false, none, some 0, none, some (minOffOf tabs u i), none, .none⟩
          else ⟨.notFitted, false, none, none, none, none, none, .none⟩) ∧
      (let n1 := raiseNotice tabs 0 .powerUp 0 none (some cause) []
       let n2 := if image = none then raiseNotice tabs 0 .configDefaulted 0 none none n1 else n1
       let n3 := if closed then raiseNotice tabs 0 .drBegin 0 (some 1) (some (tabs.roof.drDefaultCeiling : Int)) n2
         else n2
       t.notices = if shut then raiseNotice tabs 0 .trip 0 none (some 8) n3 else n3) ∧
      t.captures = (if shut then [⟨0, 0, .shutdown, none, none, none, 0, 0⟩] else []) ∧
      t.link = ⟨tabs.roof.controllerRate, tabs.roof.trunkRate, .hunt, .hunt, none, [], [], [], true, .free, 0,
        .injection, 0, tabulate fun _ => 0⟩ ∧
      t.jobs = ⟨closedSession, [], none, image, if image = none then .defaulted else .stored, false⟩ ∧
      t.lines.syncMissing = false ∧
      t.lines.intervalSync = ⟨s.lines.intervalSync.line, s.lines.intervalSync.line, false⟩ ∧
      t.lines.drContact = ⟨closed, closed, false⟩ ∧ t.lines.roofShutdown = ⟨shut, shut, false⟩ ∧ OutputsTrue t

/-- R174: the start-up notices of a power-up that finds a bad image, in their order and at the time 0. R9, R165
with log entry 4: the loss of the supply cuts off what is sent and leaves a store's image bad. -/
def Obligations.SupplyComesAndGoes : Prop :=
  (∀ s : State, s.jobs.image = none →
    ∃ t, exec .powerUp s = .next t ∧
      t.notices = [⟨.powerUp, 0, none, 0, 0, 1, some 0⟩, ⟨.configDefaulted, 0, none, 0, 0, 1, none⟩]
        ++ (if s.lines.drContact.line then [⟨.drBegin, 0, some 1, 0, 0, 1, some 65535⟩] else [])
        ++ (if s.lines.roofShutdown.line then [⟨.trip, 0, none, 0, 0, 1, some 8⟩] else [])) ∧
  (∀ s : State, s.powered = true →
    ∃ t, exec .powerLoss s = .next t ∧ t.powered = false ∧ t.link.transmitting = none ∧
      t.link.trunk.isSending = false ∧ t.jobs.store = none ∧
      t.jobs.image = (if s.jobs.store.isSome then none else s.jobs.image) ∧
      (∀ i : Fin 4, t.lines.outputs[i] = false) ∧ t.tables = s.tables ∧ t.plant = s.plant ∧
      t.seconds = s.seconds ∧ t.pending = s.pending)

/-! ## The trunk (R22 to R39) -/

/-- R26, R32, R33: the protection injection marked first goes before all other work and leaves the marker. R33:
relayed requests and ordinary injections alternate by the last-served marker: with both waiting, the kind not served
last is chosen. The relayed request shown is one that goes down as received (R36). -/
def Obligations.SchedulerServesByPriority : Prop :=
  (∀ (s : State) (u : UnitIx) (us : List UnitIx), Ready s → TrunkIdle s → s.plant.protection = u :: us →
    ∃ t x, exec .trunkArbitration s = .next t ∧ x.origin = .injection ∧ x.request = .stageMap u ∧
      x.attempt = 1 ∧
      AttemptSending s t x ⟨BitVec.ofNat 8 (u.val + 1), s.link.tag, 0x04, 0, [mapByte (s.plant.unit u).target]⟩ ∧
      u ∉ t.plant.injections ∧ u ∉ t.plant.protection ∧ t.link.marker = s.link.marker ∧
      t.link.relay = s.link.relay ∧ t.link.replies = s.link.replies) ∧
  (∀ (s : State) (f : Frame) (rest : List Frame) (u : UnitIx), Ready s → TrunkIdle s →
    s.plant.protection = [] → s.link.relay = f :: rest → 33 ≤ f.addr.toNat → f.addr.toNat ≤ 47 →
    ordinaryInjection s.plant = some u →
    ∃ t x, exec .trunkArbitration s = .next t ∧ t.link.relay = s.link.relay ∧ t.link.replies = s.link.replies ∧
      x.attempt = 1 ∧
      (s.link.marker = .injection → x.origin = .relay ∧ t.link.marker = .relay ∧
        AttemptSending s t x ⟨f.addr, s.link.tag, f.kind, f.flags, f.payload⟩) ∧
      (s.link.marker = .relay → x.origin = .injection ∧ t.link.marker = .injection ∧
        AttemptSending s t x
          ⟨BitVec.ofNat 8 (u.val + 1), s.link.tag, 0x04, 0, [mapByte (s.plant.unit u).target]⟩))

/-- R35: with no other work the first due unit from the poll cursor is polled; the cursor moves behind it and its
last-poll time is taken. With no unit due nothing happens. Which units are due is R35's table. -/
def Obligations.FirstDueUnitIsPolled : Prop :=
  (∀ s : State, Calm s → TrunkIdle s → s.plant.protection = [] → s.plant.injections = [] → s.link.relay = [] →
    (∀ k : UnitIx, pollDue s (s.link.cursor + k) = true →
      (∀ j : UnitIx, j < k → pollDue s (s.link.cursor + j) = false) →
      ∃ t x, exec .trunkArbitration s = .next t ∧ x.origin = .poll ∧ x.attempt = 1 ∧
        AttemptSending s t x
          ⟨BitVec.ofNat 8 ((s.link.cursor + k).val + 1), s.link.tag, 0x02, 0, []⟩ ∧
        t.link.cursor = s.link.cursor + k + 1 ∧ t.link.lastPoll[s.link.cursor + k] = s.seconds ∧
        t.link.marker = s.link.marker ∧ t.plant = s.plant) ∧
    ((∀ u : UnitIx, pollDue s u = false) → exec .trunkArbitration s = .next s)) ∧
  (∀ (s : State) (u : UnitIx),
    let r := s.plant.unit u
    pollDue s u = true ↔
      (r.state = .unadopted ∨
       ((r.state = .online ∨ r.state = .inLocal) ∧ ∀ st, r.status = some st → s.tables.roof.refreshInterval ≤ st.age) ∨
       (r.state = .offline ∧ s.tables.roof.offlinePollInterval ≤ s.seconds - s.link.lastPoll[u])))

/-- R23: a STAGE_CALL that passes the request checks is clamped into the call record and the marker becomes RELAY; it
stays in the relay queue. To an ONLINE unit it goes down as a STAGE_MAP with the map that the sequencer's taking of
the call leaves, which adds no slot (R75: its fan; that the attempt is built before the pass which a join to an empty
queue calls for is the model's choice, log entry 16), and to an UNADOPTED, OFFLINE or LOCAL unit as a STATUS_READ, with
a single attempt when OFFLINE. R22: the first request check a STAGE_CALL fails answers it without a trunk
transaction: its place in the relay queue is free, its error reply is placed, and neither the unit's call nor the
marker changes. -/
def Obligations.StageCallIsTakenOrRefused : Prop :=
  ∀ (s : State) (f : Frame) (rest : List Frame) (u : UnitIx) (cool heat fan eco occ : Byte), Ready s →
    TrunkIdle s → s.plant.protection = [] → s.plant.injections = [] → s.link.relay = f :: rest →
    f.addr.toNat = u.val + 1 → f.kind = 0x01 → f.payload = [cool, heat, fan, eco, occ] →
    let r := s.plant.unit u
    (r.state ≠ .absent → r.isolated = false → (cool = 0 ∨ heat = 0) →
      ∃ t x, exec .trunkArbitration s = .next t ∧ x.origin = .relay ∧ x.unit = some u ∧ x.attempt = 1 ∧
        x.unreported = false ∧ (x.single = true ↔ r.state = .offline) ∧
        t.link.marker = .relay ∧ t.link.relay = s.link.relay ∧ t.link.replies = s.link.replies ∧
        (r.state ≠ .online → x.request = .statusRead u ∧ AttemptSending s t x ⟨f.addr, s.link.tag, 0x02, 0, []⟩) ∧
        (r.state = .online → x.request = .stageMap u ∧ ∃ m : StageMap,
          AttemptSending s t x ⟨f.addr, s.link.tag, 0x04, 0, [mapByte m]⟩ ∧
          m = ((takeCall s.env u f.payload s.roof).plant.unit u).target ∧
          (∀ i : Slot, m.has i = true → r.stages[i].state.isOn = true) ∧
          (m.fan = true ↔ fanForcedOff r = false ∧ (fan ≠ 0 ∨ r.fanForce = true ∨ ∃ i : Slot, m.has i = true))) ∧
        (t.plant.unit u).call =
          ⟨min cool.toNat (boundCount s.tables.units[u] .cool), min heat.toNat (boundCount s.tables.units[u] .heat),
            decide (boundCount s.tables.units[u] .cool < cool.toNat),
            decide (boundCount s.tables.units[u] .heat < heat.toNat),
            decide (fan ≠ 0), decide (eco ≠ 0), decide (occ ≠ 0), 0⟩) ∧
    ((r.state = .absent ∨ r.isolated = true ∨ (cool ≠ 0 ∧ heat ≠ 0)) → rest = [] →
      ∃ t, exec .trunkArbitration s = .next t ∧ t.link.relay = [] ∧ t.link.marker = s.link.marker ∧
        t.plant = s.plant ∧ ((∀ v, pollDue s v = false) → t.link.trunk = .free) ∧
        t.link.replies = s.link.replies ++ [⟨⟨f.addr, f.tag, 0x81, 0x03,
          [if r.state = .absent then 0x03 else if r.isolated then 0x05 else 0x04, 0]⟩, false⟩])

/-- R24, R25, R36: the relayed requests other than a STAGE_CALL to a unit. A STATUS_READ to a unit goes down in every
unit state; a SETPOINT_WRITE to a unit or to broadcast goes down with each setpoint clamped into the ROOF record's
range; a passthrough request and every request to a foreign device go down as received. Each is handed over with the
marker RELAY, reports to no unit record when its unit is ABSENT, and has a single attempt when its unit is
OFFLINE. -/
def Obligations.RelayedRequestsGoDownAsTheirRulesGive : Prop :=
  ∀ (s : State) (f : Frame) (rest : List Frame), Ready s → TrunkIdle s → s.plant.protection = [] →
    s.plant.injections = [] → s.link.relay = f :: rest →
    let a := f.addr.toNat
    let clamped (low high v : Int) : List Byte := leInt16 (if v < low then low else if high < v then high else v)
    let handed (kind flags : Byte) (payload : List Byte) : Prop :=
      ∃ t x, exec .trunkArbitration s = .next t ∧ x.origin = .relay ∧ x.attempt = 1 ∧
        AttemptSending s t x ⟨f.addr, s.link.tag, kind, flags, payload⟩ ∧ t.link.marker = .relay ∧
        t.link.relay = s.link.relay ∧ t.link.replies = s.link.replies ∧ t.plant = s.plant ∧
        (∀ u : UnitIx, a = u.val + 1 → x.unit = some u ∧
          (x.unreported = true ↔ (s.plant.unit u).state = .absent) ∧
          (x.single = true ↔ (s.plant.unit u).state = .offline)) ∧
        (33 ≤ a → x.unit = none ∧ x.single = false)
    (1 ≤ a → a ≤ 32 → f.kind = 0x02 → handed 0x02 0 []) ∧
    (((1 ≤ a ∧ a ≤ 32) ∨ a = 63) → f.kind = 0x03 →
      handed 0x03 0 (clamped s.tables.roof.coolLow s.tables.roof.coolHigh (s16At f.payload 0) ++
        clamped s.tables.roof.heatLow s.tables.roof.heatHigh (s16At f.payload 2))) ∧
    (((33 ≤ a ∧ a ≤ 47) ∨ (((1 ≤ a ∧ a ≤ 32) ∨ a = 63) ∧ 0x20 ≤ f.kind.toNat ∧ f.kind.toNat ≤ 0x3F)) →
      handed f.kind f.flags f.payload)

/-- R11, R25, R26: the end of the turnaround wait starts a held attempt under the next tag; the end of its
transmission starts the wait for the reply, or ends a broadcast with its acknowledgement. R26, R28: a reply timeout
below the attempt budget starts the next attempt under a new tag. R29, R44, R56, R57: an exhausted transaction adds a
failure to its fitted unit; at the threshold the unit goes OFFLINE from UNADOPTED, ONLINE or LOCAL, loses its entries
and its injection, and its LOCAL stages stop. R34: below it, an exhausted STAGE_MAP to an ONLINE unit is followed by
an injection exactly where the maps differ. R18, R30, R37: an exhausted relayed request is answered with NO_REPLY and
the attempts made, and with the trailer where it is a STAGE_CALL or STATUS_READ to a fitted unit. R2: the trunk port
then takes the ROOF record's trunk rate. That UNIT_OFFLINE stands behind a LEAD_SWAPPED of the same command is the
model's choice (log entry 45). -/
def Obligations.AttemptsStartRetryAndEnd : Prop :=
  (∀ (s : State) (x : Transaction), s.powered = true → s.link.trunk = .ready x →
    ∃ t y, exec .turnaroundEnd s = .next t ∧ t.link.quiet = true ∧ y.request = x.request ∧
      y.attempt = x.attempt ∧ y.origin = x.origin ∧ y.unit = x.unit ∧
      AttemptSending s t y (requestFrame s.plant s.link.tag x.request) ∧
      t.plant = (match injectionTaken x with | some u => s.plant.dropInjection u | none => s.plant) ∧
      t.link.replies = s.link.replies ∧ t.link.relay = s.link.relay) ∧
  (∀ (s : State) (x : Transaction) (o : Sending), s.powered = true → s.link.trunk = .sending x o →
    x.request.addr ≠ 63 → exec .attemptSent s = .next { s with link := { s.link with trunk := .awaiting x } }) ∧
  (∀ (s : State) (x : Transaction) (o : Sending) (f : Frame) (rest : List Frame), s.powered = true →
    s.link.trunk = .sending x o → x.request.addr = 63 → s.link.relay = f :: rest →
    ∃ t, exec .attemptSent s = .next t ∧ t.link.trunk = .free ∧ t.link.relay = rest ∧
      t.link.replies = s.link.replies ++ [⟨⟨f.addr, f.tag, f.kind ||| 0x80, 0x01, []⟩, false⟩] ∧
      t.plant = s.plant ∧ t.link.trunkRate = s.tables.roof.trunkRate ∧
      t.link.trunkRx = if s.link.trunkRate = s.tables.roof.trunkRate then s.link.trunkRx else .hunt) ∧
  (∀ (s : State) (x : Transaction), Ready s → s.link.trunk = .awaiting x → x.single = false →
    x.attempt < 1 + x.retryCount → s.link.quiet = true →
    ∃ t y, exec .replyTimeout s = .next t ∧ y.attempt = x.attempt + 1 ∧ y.request = x.request ∧
      y.origin = x.origin ∧ AttemptSending s t y (requestFrame s.plant s.link.tag x.request) ∧
      t.link.replies = s.link.replies ∧ t.link.relay = s.link.relay) ∧
  (∀ (s : State) (x : Transaction) (u : UnitIx), Ready s → s.link.trunk = .awaiting x → x.unit = some u →
    x.unreported = false → Exhausted x → (s.plant.unit u).state ≠ .absent →
    let r := s.plant.unit u
    let n := min 255 (r.failures + 1)
    let goes := r.state ≠ .offline ∧ s.tables.roof.offlineThreshold ≤ n
    ∃ t, exec .replyTimeout s = .next t ∧ t.link.trunk = .free ∧
      let y := t.plant.unit u
      y.failures = n ∧ y.ack = r.ack ∧ y.status = r.status ∧
      (¬goes → y.state = r.state ∧ y.target = r.target ∧ y.stages = r.stages ∧ t.plant.queue = s.plant.queue ∧
        t.notices = s.notices ∧
        (x.request = .stageMap u → r.state = .online → u ∉ s.plant.injections →
          (u ∈ t.plant.injections ↔ r.ack ≠ r.target))) ∧
      (goes → y.state = .offline ∧ (∀ m ∈ t.plant.queue, m.unit ≠ u) ∧ u ∉ t.plant.injections ∧
        (∃ ns, SwapMayFollow s.env u s.notices ns ∧
          t.notices = raiseNotice s.tables s.seconds .unitOffline (u.val + 1) none (some (n : Int)) ns) ∧
        (r.state ≠ .inLocal → y.target = r.target) ∧
        (r.state = .inLocal → ∀ i : Slot, r.stages[i].state = .inLocal →
          y.stages[i].state.isOn = false ∧ y.stages[i].state ≠ .inLocal ∧ y.target.has i = false ∧
          y.stages[i].stopTime = some s.seconds ∧ y.stages[i].startTime = r.stages[i].startTime ∧
          y.stages[i].minOffEnd = some (s.seconds + minOffOf s.tables u i))) ∧
      (x.origin ≠ .relay → t.link.replies = s.link.replies ∧ t.link.relay = s.link.relay) ∧
      (∀ head rest, x.origin = .relay → s.link.relay = head :: rest → t.link.relay = rest ∧
        ((head.kind = 0x01 ∨ head.kind = 0x02) → t.link.replies = s.link.replies ++
          [⟨⟨head.addr, head.tag, head.kind ||| 0x80, 0x1B,
            [0x07, BitVec.ofNat 8 x.attempt] ++ TrailerBytes t u⟩, false⟩]) ∧
        (head.kind ≠ 0x01 → head.kind ≠ 0x02 → t.link.replies = s.link.replies ++
          [⟨⟨head.addr, head.tag, head.kind ||| 0x80, 0x13, [0x07, BitVec.ofNat 8 x.attempt]⟩, false⟩]))) ∧
  (∀ (s : State) (x : Transaction) (f : Frame) (rest : List Frame), Ready s → s.link.trunk = .awaiting x →
    x.origin = .relay → (x.unit = none ∨ x.unreported = true) → Exhausted x → s.link.relay = f :: rest →
    ∃ t, exec .replyTimeout s = .next t ∧ t.link.trunk = .free ∧ t.link.relay = rest ∧
      t.link.replies = s.link.replies ++
        [⟨⟨f.addr, f.tag, f.kind ||| 0x80, 0x13, [0x07, BitVec.ofNat 8 x.attempt]⟩, false⟩] ∧
      t.plant = s.plant ∧ t.link.trunkRate = s.tables.roof.trunkRate ∧
      t.link.trunkRx = if s.link.trunkRate = s.tables.roof.trunkRate then s.link.trunkRx else .hunt)

/-- R29, R34, R44: the echo of a STAGE_MAP becomes the acknowledged map and the failure count is 0. R38: a relayed
STAGE_CALL is answered with the acknowledged map and the trailer; an injection is answered to no one. R34: a new
injection stands exactly when the maps still differ, marked protection when a tripped slot is on in the acknowledged
map or its fan is ON while a cause forces it off. -/
def Obligations.EchoedMapBecomesAcknowledged : Prop :=
  ∀ (s : State) (x : Transaction) (u : UnitIx) (b : Byte), Ready s → s.link.trunk = .awaiting x →
    x.request = .stageMap u → x.unit = some u → x.unreported = false → (s.plant.unit u).state = .online →
    ∃ t, exec (.trunkFrameReceived ⟨x.request.addr, x.tag, 0x84, 0x01, [b]⟩) s = .next t ∧
      let y := t.plant.unit u
      y.ack = mapOfByte s.tables.units[u] b ∧ y.failures = 0 ∧ y.state = .online ∧
      y.target = (s.plant.unit u).target ∧ y.stages = (s.plant.unit u).stages ∧ t.plant.queue = s.plant.queue ∧
      t.link.trunk = .free ∧
      (x.origin ≠ .relay → t.link.replies = s.link.replies ∧ t.link.relay = s.link.relay) ∧
      (∀ head rest, x.origin = .relay → s.link.relay = head :: rest → t.link.relay = rest ∧
        t.link.replies = s.link.replies ++ [⟨⟨head.addr, head.tag, head.kind ||| 0x80, 0x09,
          mapByte y.ack :: TrailerBytes t u⟩, false⟩]) ∧
      (u ∉ s.plant.injections → (u ∈ t.plant.injections ↔ y.ack ≠ y.target) ∧
        (u ∉ s.plant.protection → (u ∈ t.plant.protection ↔ y.ack ≠ y.target ∧
          ((∃ i : Slot, y.ack.has i = true ∧ y.stages[i].state.isTripped = true) ∨
            (y.ack.fan = true ∧ ∃ c ∈ y.causes, c.tripClass = .smk ∨ c.tripClass = .shutdown)))))

/-- R36, R38, R39: what goes up for a relayed request that was answered, with the controller's TAG, its KIND plus the
reply bit; the head leaves the relay queue and the trunk is free. A passthrough or foreign reply, and every reply of
an ABSENT unit, goes up as received; a SETPOINT_WRITE reply with its FLAGS rebuilt; a unit's error reply with code,
detail and the trailer, its maps and its status left. A folded STATUS_READ goes up with the folded values in the
unit's bytes, and a STAGE_CALL that it carried with the acknowledged map of the adoption or the reported run map;
each with the trailer where that fits: the trailer of an adoption, and that of the unit as it stands where the fold
moved nothing or left the unit LOCAL. R44, R45: the unit's failure count is 0, and an OFFLINE unit answered without a
fold is UNADOPTED. That an ABSENT unit's reply must fit too is the model's choice (log entry 20). -/
def Obligations.RelayedRepliesGoUp : Prop :=
  ∀ (s : State) (x : Transaction) (head : Frame) (rest : List Frame), Ready s → s.link.trunk = .awaiting x →
    x.origin = .relay → s.link.relay = head :: rest →
    1 ≤ x.request.addr.toNat → x.request.addr.toNat ≤ 47 →
    let reply (flags : Byte) (p : List Byte) : Frame := ⟨x.request.addr, x.tag, x.request.kind ||| 0x80, flags, p⟩
    let up (t : State) (f : Frame) (flags : Byte) (payload : List Byte) : Prop :=
      exec (.trunkFrameReceived f) s = .next t ∧ t.link.trunk = .free ∧ t.link.relay = rest ∧
      t.link.replies = s.link.replies ++ [⟨⟨head.addr, head.tag, head.kind ||| 0x80, flags, payload⟩, false⟩]
    let reported (t : State) (u : UnitIx) : Prop :=
      let r := s.plant.unit u
      let y := t.plant.unit u
      y.failures = 0 ∧ y.state = (if r.state = .offline then .unadopted else r.state) ∧ y.status = r.status ∧
      y.target = r.target ∧ y.ack = r.ack ∧ y.stages = r.stages ∧ t.plant.queue = s.plant.queue
    (∀ (flags : Byte) (p : List Byte), flags.getLsbD 0 = true → ReplyFits x.request flags p →
      let err := flags.getLsbD 1
      (((∃ a k fl q, x.request = .raw a k fl q) ∨ x.unit = none ∨ x.unreported = true) →
        ∃ t, up t (reply flags p) (flags &&& 0xFB) p ∧
          ((x.unit = none ∨ x.unreported = true) → t.plant = s.plant) ∧
          (∀ u, x.unit = some u → x.unreported = false → reported t u)) ∧
      (∀ u a c h, x.unit = some u → x.unreported = false → x.request = .setpoint a c h →
        ∃ t, up t (reply flags p) (if err then 0x03 else 0x01) p ∧ reported t u) ∧
      (∀ u, x.unit = some u → x.unreported = false → (x.request = .stageMap u ∨ x.request = .statusRead u) →
        err = true →
        ∃ t, up t (reply flags p) 0x0B (p.take 2 ++ TrailerBytes t u) ∧ reported t u ∧
          (x.request = .stageMap u → (s.plant.unit u).state = .online → u ∉ s.plant.injections →
            (u ∈ t.plant.injections ↔ (s.plant.unit u).ack ≠ (s.plant.unit u).target)))) ∧
    (∀ (u : UnitIx) (p : List Byte), FoldAwaits s x u p →
      let c := s.tables.units[u]
      let r := s.plant.unit u
      let value (v : Option Int) : List Byte := leInt16 (v.getD (-32768))
      let adopted := r.state = .unadopted ∨ r.state = .offline
      let runs (i : Slot) : Bool := c.bound i && (byteAt p 2).getLsbD i.val
      let kept (i : Slot) : Bool :=
        if u8At p 1 = 1 then runs i
        else if c.bound i && !r.stages[i].state.isTripped then runs i else r.stages[i].state.isOn
      let count (heat : Bool) : Byte :=
        BitVec.ofNat 8 (allSlots.filter fun i => decide (4 ≤ i.val) == heat && kept i).length
      ∃ t st flags payload body trailer, up t (statusReply x p) flags payload ∧ (t.plant.unit u).status = some st ∧
        (t.plant.unit u).failures = 0 ∧
        (head.kind ≠ 0x01 → body = p.take 6 ++ value st.supply ++ value st.ret ++ value st.space ++ value st.outside
          ++ [byteAt p 14] ++ [BitVec.ofNat 8 st.power, BitVec.ofNat 8 (st.power / 256)] ++ p.drop 17) ∧
        (head.kind = 0x01 → adopted → body = [mapByte (t.plant.unit u).ack]) ∧
        (head.kind = 0x01 → ¬adopted → body = [mapByte st.run]) ∧
        (40 < body.length → flags = 0x01 ∧ payload = body) ∧
        (body.length ≤ 40 → flags = 0x09 ∧ payload = body ++ trailer ∧ trailer.length = 8 ∧
          (adopted → trailer = [count false, count true, 14, 14, 1, BitVec.ofNat 8 s.shed.level,
            BitVec.ofNat 8 s.meter.forecast, BitVec.ofNat 8 (s.meter.forecast / 256)]) ∧
          ((QuietFold s u p ∨ (r.state = .inLocal ∧ u8At p 1 = 1)) → trailer = TrailerBytes t u)))

/-- R29, R48: a good status reply to a poll is folded: each field as the rule stores it, the age 0. The
fresh-since-change flag is clear when the fold changed the target map, and set after a fold in which nothing trips
and nothing is released, which moves no stage. -/
def Obligations.StatusReplyIsFolded : Prop :=
  ∀ (s : State) (x : Transaction) (u : UnitIx) (p : List Byte), Ready s → FoldAwaits s x u p → x.origin = .poll →
    let c := s.tables.units[u]
    let r := s.plant.unit u
    let temperature (o : Nat) (off : Int) : Option Int :=
      if u16At p o = 0x8000 then none else some (max (-400) (min 1200 (s16At p o + off)))
    ∃ t st, exec (.trunkFrameReceived (statusReply x p)) s = .next t ∧
      (t.plant.unit u).status = some st ∧ st.age = 0 ∧ (t.plant.unit u).failures = 0 ∧
      st.mode = byteAt p 0 ∧ (st.hand = true ↔ u8At p 1 = 1) ∧
      (∀ i : Slot, st.run.has i = (c.bound i && (byteAt p 2).getLsbD i.val)) ∧
      st.run.fan = (byteAt p 2).getLsbD 7 ∧ st.circuitFaults.toNat = u16At p 3 ∧ st.unitFaults = byteAt p 5 ∧
      st.supply = temperature 6 c.offSupply ∧ st.ret = temperature 8 c.offReturn ∧
      st.space = temperature 10 c.offSpace ∧ st.outside = temperature 12 c.offOutside ∧
      st.damper = min 100 (u8At p 14) ∧ st.power = min c.powerLimit (u16At p 15) ∧
      ((t.plant.unit u).target ≠ r.target → (t.plant.unit u).fresh = false) ∧
      (QuietFold s u p → (t.plant.unit u).fresh = true ∧ (t.plant.unit u).stages = r.stages ∧
        (t.plant.unit u).target = r.target ∧ (t.plant.unit u).ack = r.ack ∧ t.plant.queue = s.plant.queue ∧
        t.plant.injections = s.plant.injections) ∧
      t.link.trunk = .free ∧ t.link.replies = s.link.replies

/-- R46, R50, R52, R55: the unit state a fold leaves, and what entering LOCAL takes. R50, R51: adoption into ONLINE:
the slot comparison, the adopted map and the acknowledged map, and the injection where the maps then differ. R56:
leaving LOCAL stops its stages, keeps the acknowledged map and asks for an injection. A slot found running or
stopped may be stopped or started again by what follows in the same fold. That a run found stopped keeps its minimum-on
end is the model's choice (log entry 38). -/
def Obligations.FoldSettlesTheUnitState : Prop :=
  (∀ (s : State) (x : Transaction) (u : UnitIx) (p : List Byte), Ready s → FoldAwaits s x u p →
    (s.plant.unit u).state ≠ .absent →
    let c := s.tables.units[u]
    let r := s.plant.unit u
    ∃ t, exec (.trunkFrameReceived (statusReply x p)) s = .next t ∧
      let y := t.plant.unit u
      y.state = (if u8At p 1 = 1 then .inLocal else .online) ∧
      (u8At p 1 = 1 → y.target = mapOfByte c (byteAt p 2) ∧ y.ack = mapOfByte c (byteAt p 2)) ∧
      (u8At p 1 = 1 → r.state ≠ .inLocal →
        (∀ n ∈ t.plant.queue, n.unit ≠ u) ∧ u ∉ t.plant.injections ∧
        ∀ i : Slot, c.bound i = true → y.stages[i].state = .inLocal ∨ y.stages[i].state.isTripped = true) ∧
      (u8At p 1 = 0 → (r.state = .unadopted ∨ r.state = .offline) →
        y.ack.fan = (byteAt p 2).getLsbD 7 ∧ (y.ack ≠ y.target → u ∈ t.plant.injections) ∧
        ∀ i : Slot, c.bound i = true → y.ack.has i = (byteAt p 2).getLsbD i.val ∧
          (r.stages[i].state.isTripped = false →
            (r.stages[i].state.isOn = false → (byteAt p 2).getLsbD i.val = true →
              (y.stages[i].state.isOn = true ∧ y.stages[i].startTime = some s.seconds) ∨
              y.stages[i].stopTime = some s.seconds) ∧
            (r.stages[i].state.isOn = true → (byteAt p 2).getLsbD i.val = false →
              y.stages[i].stopTime = some s.seconds))) ∧
      (u8At p 1 = 0 → r.state = .inLocal →
        y.ack = r.ack ∧ (r.ack = r.target → y.ack ≠ y.target → u ∈ t.plant.injections) ∧
        ∀ i : Slot, r.stages[i].state = .inLocal → y.stages[i].stopTime = some s.seconds ∧
          y.stages[i].minOffEnd = some (s.seconds + minOffOf s.tables u i))) ∧
  (∀ (e : Env) (u : UnitIx) (run : StageMap) (r : UnitRec) (i : Slot),
    let x := adoptStages e u run r
    let old := r.stages[i]
    let new := x.stages[i]
    x.notProven[i] = 0 ∧
    (((e.cfg u).bound i = false ∨ old.state.isTripped = true) → new = old) ∧
    ((e.cfg u).bound i = true → old.state.isTripped = false →
      (old.state.isOn = run.has i → new = old) ∧
      (∀ pr, old.state.isOn = false → run.has i = true → e.profile u i = some pr →
        new = { old with
          state := .running
          stopPending := false
          startTime := some e.now
          minOnEnd := none
          startToStartEnd := some (e.now + pr.startToStart) }) ∧
      (old.state.isOn = true → run.has i = false → new.state.isOn = false ∧ new.state.isTripped = false ∧
        new = { old with
          state := new.state
          stopPending := false
          stopTime := some e.now
          minOffEnd := some (e.now + minOffOf e.tables u i) })) ∧
    (adoptedMap run x).has i = new.state.isOn ∧ (adoptedMap run x).fan = run.fan)

/-- R79: proving at a fold of an ONLINE unit: the NOT_PROVEN count of each slot rises at an unproven fold and is 0
otherwise, a count that reaches 2 raises NOT_PROVEN, and nothing else changes; a unit that is not ONLINE is not
examined. A fold in which nothing trips leaves the counts so. That several NOT_PROVEN stand in slot order is the
model's choice (log entry 47). -/
def Obligations.UnprovenFoldsAreCounted : Prop :=
  (∀ (e : Env) (u : UnitIx) (st : Status) (r : Roof),
    let x := r.plant.unit u
    let t := foldProving e u st r
    let noFault (i : Slot) : Bool := st.unitFaults.extractLsb' 0 4 == 0 &&
      (decide (4 ≤ i.val) || st.circuitFaults.extractLsb' (3 * i.val) 3 == 0)
    let unproved (i : Slot) : Bool := (e.cfg u).bound i &&
      (decide (x.stages[i].state = .runMin) || decide (x.stages[i].state = .running)) &&
      x.ack.has i && !st.run.has i && noFault i
    (x.state ≠ .online → t = r) ∧
    (x.state = .online →
      (∀ i : Slot, (t.plant.unit u).notProven[i] = if unproved i then min 255 (x.notProven[i] + 1) else 0) ∧
      t.plant = r.plant.modUnit u (fun y => { y with notProven := (t.plant.unit u).notProven }) ∧
      t.captures = r.captures ∧
      t.notices = (allSlots.filter fun i => unproved i && decide (x.notProven[i] = 1)).foldl
        (fun ns i => raiseNotice e.tables e.now .notProven (u.val + 1) (some i.val) (some 2) ns) r.notices)) ∧
  (∀ (s : State) (x : Transaction) (u : UnitIx) (p : List Byte), Ready s → FoldAwaits s x u p → QuietFold s u p →
    let r := s.plant.unit u
    ∃ t, exec (.trunkFrameReceived (statusReply x p)) s = .next t ∧
      ∀ i : Slot, (t.plant.unit u).notProven[i] =
        if s.tables.units[u].bound i = true ∧ (r.stages[i].state = .runMin ∨ r.stages[i].state = .running) ∧
            r.ack.has i = true ∧ (byteAt p 2).getLsbD i.val = false
          then min 255 (r.notProven[i] + 1) else 0)

/-- R37, R39: a rewritten status reply carries the folded temperatures and power, keeps the unit's other bytes and
their number, and carries the trailer exactly when the payload is at most 40 bytes long. The trailer's eight bytes
are those of 11.4, for a unit as its record stands and for a read that adopted it. -/
def Obligations.RewrittenStatusCarriesTrailerWhenItFits : Prop :=
  (∀ (s : State) (u : UnitIx) (a : Option StageMap) (st : Status) (f head : Frame), 17 ≤ f.payload.length →
    f.payload.length ≤ 48 →
    let g := statusReadAnswer s u a st f head
    let value (v : Option Int) : List Byte := leInt16 (v.getD (-32768))
    let count (m : StageMap) (heat : Bool) : Byte :=
      BitVec.ofNat 8 (allSlots.filter fun i => decide (4 ≤ i.val) == heat && m.has i).length
    let r := s.plant.unit u
    let state : Byte := match r.state with
      | .absent => 0 | .unadopted => 1 | .online => 2 | .offline => 3 | .inLocal => 4
    let tail : List Byte := [BitVec.ofNat 8 s.shed.level, BitVec.ofNat 8 s.meter.forecast,
      BitVec.ofNat 8 (s.meter.forecast / 256)]
    g.addr = head.addr ∧ g.tag = head.tag ∧ g.kind = head.kind ||| 0x80 ∧
    g.payload.take 6 = f.payload.take 6 ∧
    (g.payload.drop 6).take 8 = value st.supply ++ value st.ret ++ value st.space ++ value st.outside ∧
    byteAt g.payload 14 = byteAt f.payload 14 ∧
    (g.payload.drop 15).take 2 = [BitVec.ofNat 8 st.power, BitVec.ofNat 8 (st.power / 256)] ∧
    (g.payload.drop 17).take (f.payload.length - 17) = f.payload.drop 17 ∧
    (f.payload.length ≤ 40 → g.flags = 0x09 ∧
      (a = none → g.payload.drop f.payload.length =
        [count r.target false, count r.target true, BitVec.ofNat 8 (reasonOf s.plant u .cool).code,
          BitVec.ofNat 8 (reasonOf s.plant u .heat).code, state] ++ tail) ∧
      (∀ m, a = some m → g.payload.drop f.payload.length = [count m false, count m true, 14, 14, 1] ++ tail)) ∧
    (40 < f.payload.length → g.flags = 0x01 ∧ g.payload.length = f.payload.length)) ∧
  ([.none, .clamped, .queued, .lockout, .stagger, .demand, .shedCap, .gated, .changeover, .tripped, .manual, .inLocal,
    .isolated, .offline, .adopting, .heldMinOn] : List Reason).map Reason.code = List.range 16

/-- R17: which reasons an ONLINE unit that is not isolated reports for how its granted count stands to the
wanted one, and what the other unit states report. -/
def Obligations.ReasonFollowsGrantedAndWanted : Prop :=
  ∀ (p : Plant) (u : UnitIx) (k : Kind),
    let r := p.unit u
    let g := countOn r.target k
    let w := wanted r k
    (r.state = .offline → reasonOf p u k = .offline) ∧
    (r.state = .unadopted → reasonOf p u k = .adopting) ∧
    (r.state = .inLocal → reasonOf p u k = .inLocal) ∧
    (r.state = .online → r.isolated = false →
      (g = w → reasonOf p u k = if clampFlag r.call k then .clamped else .none) ∧
      (g < w → reasonOf p u k ≠ .none ∧ reasonOf p u k ≠ .clamped ∧ reasonOf p u k ≠ .heldMinOn) ∧
      (w < g → reasonOf p u k = .manual ∨ reasonOf p u k = .heldMinOn) ∧
      (reasonOf p u k = .tripped ↔ g < w ∧ ∃ i ∈ slotsOf k, r.stages[i].state.isTripped = true))

/-! ## The tick and the stages (R42, R49, R62, R66 to R68, R77) -/

/-- R42, R49, R77: a tick: the counter, the ages and the run hours of the cooling slots that are on. After
4294967295 the counter takes a free value (log entry 1). That the run hours rise before the gates are evaluated is the
model's choice (log entry 49). R86: at its aging the queue holds the same entries, each whose class is above 0 and
whose wait has reached the aging time risen one class with its join time renewed; nothing else changes. -/
def Obligations.TickAdvancesCountersAndEntriesAge : Prop :=
  (∀ s : State, Ready s → ∃ t, exec .secondsTick s = .next t ∧
      t.seconds = (if s.seconds < 4294967295 then s.seconds + 1 else (Config.secondsAfterMax s.draws).toNat) ∧
      (∀ u : UnitIx, (t.plant.unit u).call.age = min 65535 ((s.plant.unit u).call.age + 1) ∧
        (t.plant.unit u).status.map (·.age) = (s.plant.unit u).status.map (fun x => min 65535 (x.age + 1)) ∧
        (t.plant.unit u).state = (s.plant.unit u).state ∧ (t.plant.unit u).failures = (s.plant.unit u).failures ∧
        ∀ j : Fin 4, (t.plant.unit u).runHours[j] =
          if (s.plant.unit u).stages[j.val].state.isOn then min 4294967295 ((s.plant.unit u).runHours[j] + 1)
          else (s.plant.unit u).runHours[j]) ∧
      t.meter = s.meter ∧ t.shed = s.shed ∧ t.tables = s.tables ∧ t.link = s.link ∧ t.jobs = s.jobs ∧
      t.captures = s.captures) ∧
  (∀ s : State, s.powered = true →
      ∃ q : List Entry, exec .entryAging s = .next { s with plant := { s.plant with queue := q } } ∧
        q.Perm (s.plant.queue.map fun n =>
          if 0 < n.currentClass ∧ s.tables.roof.agingTime ≤ s.seconds - n.joinTime then
            { n with currentClass := n.currentClass - 1, joinTime := s.seconds } else n))

/-- R62, R63: an OFF_LOCKED stage leaves it exactly when both its windows have elapsed, to QUEUED only where
the unit has an entry of its kind; every other field of the record, both maps and the queue stay. R67, R68: at its
minimum-on end a RUN_MIN stage enters RUNNING, or stops when it is marked: it leaves the target map, its NOT_PROVEN
count is 0 (R79), and the ONLINE unit has a pending injection where the slot was on in the map. R66: at the end of a
unit's blanking window the window is idle, and its STARTING stages leave by their minimum-on ends. That an
OFF_WINDOWS_ELAPSED or BLANKING_WINDOW_END whose end is not reached changes nothing is the model's choice (log entry
8, DEDUCED). -/
def Obligations.WindowEndsMoveTheStages : Prop :=
  (∀ (s : State) (u : UnitIx) (i : Slot), Ready s → (s.plant.unit u).stages[i].state = .offLocked →
    let old := (s.plant.unit u).stages[i]
    ∃ t st, exec (.offWindowsElapsed u i) s = .next t ∧ (t.plant.unit u).stages[i] = { old with state := st } ∧
      (elapsed s.seconds old.minOffEnd = true → elapsed s.seconds old.startToStartEnd = true →
        (st = .offReady ∨ (st = .queued ∧ s.plant.hasEntry u (slotKind i) = true)) ∧
        (s.plant.hasEntry u (slotKind i) = false → st = .offReady)) ∧
      ((elapsed s.seconds old.minOffEnd = false ∨ elapsed s.seconds old.startToStartEnd = false) →
        st = .offLocked) ∧
      (t.plant.unit u).target = (s.plant.unit u).target ∧ (t.plant.unit u).ack = (s.plant.unit u).ack ∧
      t.plant.queue = s.plant.queue ∧ OnlyPlantChanged s t s.link) ∧
  (∀ (s : State) (u : UnitIx) (i : Slot), Ready s → (s.plant.unit u).stages[i].state = .runMin →
    elapsed s.seconds (s.plant.unit u).stages[i].minOnEnd = true → (s.plant.unit u).state = .online →
    ∃ t, exec (.minimumOnEnd u i) s = .next t ∧ t.plant.queue = s.plant.queue ∧ OnlyPlantChanged s t s.link ∧
      ((s.plant.unit u).stages[i].stopPending = false → (t.plant.unit u).stages[i].state = .running ∧
        (t.plant.unit u).stages[i].startTime = (s.plant.unit u).stages[i].startTime) ∧
      ((s.plant.unit u).stages[i].stopPending = true →
        (t.plant.unit u).stages[i].state.isOn = false ∧ (t.plant.unit u).stages[i].stopPending = false ∧
        (t.plant.unit u).stages[i].stopTime = some s.seconds ∧
        (t.plant.unit u).stages[i].minOffEnd = some (s.seconds + minOffOf s.tables u i) ∧
        (t.plant.unit u).stages[i].startToStartEnd = (s.plant.unit u).stages[i].startToStartEnd ∧
        (t.plant.unit u).notProven[i] = 0 ∧ (t.plant.unit u).target.has i = false ∧
        ((s.plant.unit u).target.has i = true → u ∈ t.plant.injections))) ∧
  (∀ (s : State) (u : UnitIx) (w : Window), Ready s → (s.plant.unit u).window = some w →
    ∃ t, exec (.blankingWindowEnd u) s = .next t ∧ OnlyPlantChanged s t s.link ∧
      (s.seconds < w.anchor + w.length → (t.plant.unit u).window = some w ∧
        (t.plant.unit u).stages = (s.plant.unit u).stages) ∧
      (w.anchor + w.length ≤ s.seconds → (t.plant.unit u).window = none ∧
        ∀ i : Slot, (s.plant.unit u).stages[i].state = .starting →
          (elapsed s.seconds (s.plant.unit u).stages[i].minOnEnd = false →
            (t.plant.unit u).stages[i].state = .runMin) ∧
          (elapsed s.seconds (s.plant.unit u).stages[i].minOnEnd = true →
            (s.plant.unit u).stages[i].stopPending = false → (t.plant.unit u).stages[i].state = .running) ∧
          (elapsed s.seconds (s.plant.unit u).stages[i].minOnEnd = true →
            (s.plant.unit u).stages[i].stopPending = true → (t.plant.unit u).stages[i].state.isOn = false)))

/-! ## The start queue and admission (R81 to R96) -/

/-- R89 to R94: a pass in which no manual start is ready and no entry passes changes nothing but the entries' last
skip reasons, each the first test the entry fails. R64, R85, R92, R93, R95: a pass grants the first entry from the
head that passes every test: its queued slot starts with its windows' ends from its profile, an inrush start runs the
stagger timer, the candidate rating joins G, and the entry leaves or is re-queued with a new sequence number as the
joining count stands to the wanted one; the entries in front have their reasons and those behind are not tested. R96:
the first ready manual start, by unit address and slot, is granted in place of the walk. The clauses on G and on the
queue leave out a second pass within the same command: for a queued grant, the unit is settled (R69) and wants none of
the other kind; for a manual start, an entry of another unit waits or the unit wants none of either kind. -/
def Obligations.AdmissionPassRecordsOrGrants : Prop :=
  (∀ s : State, Calm s → (∀ u i, ¬ManualReady s.env s.plant u i) →
    (∀ n ∈ s.plant.queue, testEntry s.env s.plant n ≠ .none) →
    exec .admissionPass s = .next { s with plant := { s.plant with
      queue := s.plant.queue.map fun n => { n with skip := testEntry s.env s.plant n } } }) ∧
  (∀ (s : State) (front : List Entry) (n : Entry) (rest : List Entry) (i : Slot) (pr : Profile), Ready s →
    (∀ u i, ¬ManualReady s.env s.plant u i) → s.plant.queue = front ++ n :: rest →
    (∀ m ∈ front, testEntry s.env s.plant m ≠ .none) → testEntry s.env s.plant n = .none →
    queuedSlot (s.plant.unit n.unit) n.kind = some i → s.env.profile n.unit i = some pr →
    let r := s.plant.unit n.unit
    ∃ t, exec .admissionPass s = .next t ∧ OnlyPlantChanged s t s.link ∧ StartedNow s t n.unit i pr ∧
      (r.state.isSettled = true → (if n.kind = .cool then r.call.heat else r.call.cool) = 0 →
        (∀ m ∈ front, ¬(m.unit = n.unit ∧ m.kind = n.kind)) →
        let y := t.plant.unit n.unit
        let wanted := if n.kind = .cool then r.call.cool else r.call.heat
        let joining := (allSlots.filter fun j => decide (slotKind j = n.kind) && y.stages[j].state.isOn &&
          !y.stages[j].stopPending && decide (y.stages[j].force ≠ .forceOn)).length
        t.plant.grantSum = GrantedSum s n.unit pr ∧
        (wanted ≤ joining → ∀ m ∈ t.plant.queue, ¬(m.unit = n.unit ∧ m.kind = n.kind)) ∧
        (joining < wanted →
          { n with sequence := s.plant.sequence, joinTime := s.seconds, skip := .none } ∈ t.plant.queue ∧
          t.plant.sequence = min 4294967295 (s.plant.sequence + 1)) ∧
        (∀ m, m.unit ≠ n.unit → (m ∈ t.plant.queue ↔
          m ∈ rest ∨ ∃ k ∈ front, m = { k with skip := testEntry s.env s.plant k })))) ∧
  (∀ (s : State) (u : UnitIx) (i : Slot) (pr : Profile), Ready s → ManualReady s.env s.plant u i →
    s.env.profile u i = some pr →
    (∀ (v : UnitIx) (j : Slot), (v < u ∨ (v = u ∧ j < i)) → ¬ManualReady s.env s.plant v j) →
    ∃ t, exec .admissionPass s = .next t ∧ OnlyPlantChanged s t s.link ∧ StartedNow s t u i pr ∧
      (((∃ m ∈ s.plant.queue, m.unit ≠ u) ∨ ((s.plant.unit u).call.cool = 0 ∧ (s.plant.unit u).call.heat = 0)) →
        t.plant.grantSum = GrantedSum s u pr ∧
        ∀ m, m.unit ≠ u → (m ∈ t.plant.queue ↔ m ∈ s.plant.queue)))

/-- R89 to R94: the six tests of an entry, in their order, each with its skip reason: no QUEUED slot (LOCKOUT) or one
under FORCE_ON (MANUAL_ONLY); a slot of the other kind on in either map (CHANGEOVER); for COOL, the cap reached
(SHED_CAP); for COOL the gate closed, and for either kind an INHIBIT band of the kind OUTSIDE (GATED); for an inrush
slot the stagger timer running (STAGGER); the candidate forecast above the admission limit, unless the effective
ceiling is 65535 (DEMAND). An entry that fails none passes. That a forecast over an
interval length of 0, which no run reaches, is 0 is the model's choice (log entry 34). -/
def Obligations.EntryIsTestedInOrder : Prop :=
  ∀ (e : Env) (p : Plant) (n : Entry),
    let r := p.unit n.unit
    ((∀ i : Slot, slotKind i = n.kind → r.stages[i].state ≠ .queued) → testEntry e p n = .lockout) ∧
    (∀ (i : Slot) (pr : Profile), slotKind i = n.kind → r.stages[i].state = .queued →
      (∀ j : Slot, slotKind j = n.kind → r.stages[j].state = .queued → j = i) → e.profile n.unit i = some pr →
      let onSomewhere (j : Slot) : Prop := r.target.has j = true ∨ r.ack.has j = true
      let manual := r.stages[i].force = .forceOn
      let change := ∃ j : Slot, slotKind j ≠ n.kind ∧ onSomewhere j
      let scheduled := (allSlots.filter fun j => decide (j.val < 4) && r.stages[j].state.isOn &&
        !r.stages[j].stopPending && decide (r.stages[j].force ≠ .forceOn)).length
      let capped := n.kind = .cool ∧ coolingCap e n.unit ≤ scheduled
      let gated := (n.kind = .cool ∧ r.gateClosed = true) ∨ ∃ b : Fin 16, e.tables.bands[b].action = .inhibit ∧
        r.pairs[b].state = .outside ∧ (n.kind = .heat ↔ e.tables.bands[b].applies = .heatingOn)
      let staggered := pr.inrush = true ∧ ∃ x, p.staggerEnd = some x ∧ e.now < x
      let base := (∃ j : Slot, onSomewhere j) ∨ ∃ st, r.status = some st ∧ st.run.fan = true
      let T := e.tables.roof.intervalLength
      let tooMuch (rating : Nat) : Prop :=
        let P := min 65535 (e.meter.power + p.grantSum + rating)
        let F := if e.meter.clock ≤ T then (e.meter.energy + P * (T - e.meter.clock)) / T
          else e.meter.energy / e.meter.clock
        e.shed.ceiling ≠ 65535 ∧ e.shed.ceiling - e.tables.roof.admissionReserve < F
      let demand := (base → tooMuch pr.rating) ∧ (¬base → tooMuch (pr.rating + (e.cfg n.unit).baseRating))
      (manual → testEntry e p n = .manualOnly) ∧
      (¬manual → change → testEntry e p n = .changeover) ∧
      (¬manual → ¬change → capped → testEntry e p n = .shedCap) ∧
      (¬manual → ¬change → ¬capped → gated → testEntry e p n = .gated) ∧
      (¬manual → ¬change → ¬capped → ¬gated → staggered → testEntry e p n = .stagger) ∧
      (¬manual → ¬change → ¬capped → ¬gated → ¬staggered → demand → testEntry e p n = .demand) ∧
      (¬manual → ¬change → ¬capped → ¬gated → ¬staggered → ¬demand → testEntry e p n = .none))

/-! ## The demand meter (R97 to R110) -/

/-- R98 to R101: a sample that closes no interval, in FREE_RUN with no apply pending: P is the sum of the unit
powers, and E, t, Pk, F and G follow; F is also what the shed controller's reaction reads (R122). R53, R54: a unit's
estimate, and which power is taken in which state. -/
def Obligations.DemandSampleUpdatesTheMeter : Prop :=
  (∀ s : State, Ready s → s.jobs.session.state ≠ .applying → s.tables.roof.syncMode = .freeRun →
    s.meter.clock + 1 < s.tables.roof.intervalLength → s.tables.roof.intervalLength ≤ 3600 →
    let P := min 65535 (allUnits.map fun u => unitPower s.env u (s.plant.unit u)).sum
    let F := (s.meter.energy + P + P * (s.tables.roof.intervalLength - (s.meter.clock + 1))) /
      s.tables.roof.intervalLength
    ∃ t, exec .demandSample s = .next t ∧ t.plant.grantSum = 0 ∧
      t.meter = { s.meter with
        power := P
        energy := s.meter.energy + P
        clock := s.meter.clock + 1
        peak := max s.meter.peak P
        forecast := F
        sampleForecast := F } ∧
      t.shed = s.shed ∧ t.link = s.link ∧ t.tables = s.tables ∧ t.jobs = s.jobs ∧ t.notices = s.notices ∧
      t.plant.queue = s.plant.queue ∧ t.plant.units = s.plant.units) ∧
  (∀ (e : Env) (u : UnitIx) (r : UnitRec),
    let on (i : Slot) : Bool := r.target.has i || r.ack.has i
    let rating (i : Slot) : Nat := match e.profile u i with | some pr => pr.rating | none => 0
    let base := if allSlots.any on = true ∨ r.status.any (·.run.fan) = true then (e.cfg u).baseRating else 0
    let estimated := min 65535 ((allSlots.map fun i => if on i then rating i else 0).sum + base)
    let stale := e.tables.roof.staleLimit
    (r.state = .absent → unitPower e u r = 0) ∧
    (r.state = .offline → unitPower e u r = estimated) ∧
    ((r.state = .unadopted ∨ r.state = .online ∨ r.state = .inLocal) →
      (r.status = none → unitPower e u r = estimated) ∧
      ∀ st, r.status = some st →
        (stale < st.age → unitPower e u r = estimated) ∧
        (st.age ≤ stale → (r.state = .inLocal ∨ (r.fresh = true ∧ r.window = none)) → unitPower e u r = st.power) ∧
        (r.state ≠ .inLocal → (r.fresh = false ∨ r.window.isSome = true) → unitPower e u r = estimated)))

/-- R104, R107 to R109: the sample that brings t to T in FREE_RUN closes the interval: the history record, the
peak-interval record, and the next interval opened with P, which is also the F that the reaction reads (R122). R106,
R178: a METER_SYNC interval that reaches T plus the grace closes with cause SYNC_MISSING and sets the sync-missing
flag. -/
def Obligations.SampleAtIntervalEndCloses : Prop :=
  (∀ s : State, Ready s → s.jobs.session.state ≠ .applying → s.tables.roof.syncMode = .freeRun →
    s.meter.clock + 1 = s.tables.roof.intervalLength → s.tables.roof.intervalLength ≤ 3600 →
    let P := min 65535 (allUnits.map fun u => unitPower s.env u (s.plant.unit u)).sum
    let A := (s.meter.energy + P) / s.tables.roof.intervalLength
    ∃ t, exec .demandSample s = .next t ∧
      t.meter.power = P ∧ t.meter.energy = 0 ∧ t.meter.clock = 0 ∧ t.meter.peak = P ∧ t.meter.forecast = P ∧
      t.meter.sampleForecast = P ∧ t.meter.shedPeak = s.shed.level ∧
      t.meter.history = (⟨A, s.tables.roof.intervalLength, max s.meter.peak P, s.meter.shedPeak, .freeRun⟩
        :: s.meter.history).take 8 ∧
      (s.meter.peakRecord = none → t.meter.peakRecord = some ⟨A, s.seconds⟩) ∧
      (∀ q, s.meter.peakRecord = some q →
        t.meter.peakRecord = some (if q.average < A then ⟨A, s.seconds⟩ else q)) ∧
      t.shed = s.shed ∧ t.tables = s.tables ∧ t.lines.syncMissing = s.lines.syncMissing) ∧
  (∀ s : State, Ready s → s.jobs.session.state ≠ .applying → s.tables.roof.syncMode = .meterSync →
    s.meter.clock + 1 = s.tables.roof.intervalLength + s.tables.roof.syncGrace →
    s.tables.roof.intervalLength ≤ 3600 → s.tables.roof.syncGrace ≤ 300 →
    ∃ t h, exec .demandSample s = .next t ∧ t.lines.syncMissing = true ∧ t.meter.clock = 0 ∧
      t.meter.energy = 0 ∧ t.meter.history.head? = some h ∧ h.cause = .syncMissing ∧
      h.length = s.meter.clock + 1)

/-- R102 with R100: the forecast never exceeds the interval's peak, and until T it is at least the energy drawn
spread over the interval. Kept by every command, together with the bounds it needs. -/
def Obligations.ForecastNeverExceedsIntervalPeak : Prop :=
  ∀ (s t : State) (c : Instr), IntervalsBounded s → MeterSound s.tables.roof.intervalLength s.meter →
    exec c s = .next t → IntervalsBounded t ∧ MeterSound t.tables.roof.intervalLength t.meter

/-! ## Shedding, demand response and rotation (R117 to R132) -/

/-- R122 to R124: the reaction to a sample, with the forecast that the sample left: a rise at an excess with the step
timer idle; below the threshold a fall with the hold's end reached, the hold started when idle, running on before
its end, and idle at level 0; the hold discarded otherwise; and no level change otherwise. R124, R127: a change of
level settles each fitted unit whose cap it changes: of its cooling stages on under no force, the earliest started up
to the held count run on, the others in RUNNING stop and the others in STARTING or RUN_MIN are marked, and the target
map follows with its injection. -/
def Obligations.ShedReactionMovesTheLevelByOne : Prop :=
  ∀ s : State, Ready s →
    let r := s.tables.roof
    let F := s.meter.sampleForecast
    let below := r.restoreHysteresis ≤ s.shed.ceiling ∧ F < s.shed.ceiling - r.restoreHysteresis
    let ended := (∃ e, s.shed.hold = .reached e) ∨ ∃ e, s.shed.hold = .running e ∧ e ≤ s.seconds
    ∃ t, exec .shedReaction s = .next t ∧ t.link = s.link ∧ t.tables = s.tables ∧ t.jobs = s.jobs ∧
      t.seconds = s.seconds ∧
      (s.shed.ceiling < F → s.shed.level < 7 → (∀ e, s.shed.stepEnd = some e → e ≤ s.seconds) →
        t.shed = { s.shed with level := s.shed.level + 1, stepEnd := some (s.seconds + r.stepTime), hold := .idle } ∧
        t.meter = { s.meter with shedPeak := max s.meter.shedPeak (s.shed.level + 1) } ∧
        (∀ g : Fin 8, (t.rotation[g]).isSome = (maskAt s.tables (s.shed.level + 1)).getLsbD g.val)) ∧
      (s.shed.ceiling < F → (s.shed.level = 7 ∨ ∃ e, s.shed.stepEnd = some e ∧ s.seconds < e) →
        t.shed = { s.shed with hold := .idle } ∧ t.meter = s.meter ∧ t.rotation = s.rotation) ∧
      (below → 1 ≤ s.shed.level → ended →
        t.shed = { s.shed with
          level := s.shed.level - 1
          hold := if s.shed.level = 1 then .idle else .running (s.seconds + r.restoreHold) } ∧
        t.meter = { s.meter with shedPeak := max s.meter.shedPeak (s.shed.level - 1) } ∧
        (∀ g : Fin 8, (t.rotation[g]).isSome = (maskAt s.tables (s.shed.level - 1)).getLsbD g.val)) ∧
      (below → 1 ≤ s.shed.level → s.shed.hold = .idle →
        t.shed = { s.shed with hold := .running (s.seconds + r.restoreHold) } ∧ t.meter = s.meter) ∧
      (below → 1 ≤ s.shed.level → (∃ e, s.shed.hold = .running e ∧ s.seconds < e) →
        t.shed = s.shed ∧ t.meter = s.meter) ∧
      (below → s.shed.level = 0 → t.shed = { s.shed with hold := .idle } ∧ t.meter = s.meter) ∧
      (¬below → F ≤ s.shed.ceiling → t.shed = { s.shed with hold := .idle } ∧ t.meter = s.meter) ∧
      ∀ u : UnitIx,
        let r0 := s.plant.unit u
        let y := t.plant.unit u
        let cls := s.tables.units[u].priority
        let held := if y.gateClosed then 0 else min r0.call.cool (capAt s.tables t.shed.level cls)
        s.tables.units[u].fitted = true → r0.state.isSettled = true →
        capAt s.tables t.shed.level cls ≠ capAt s.tables s.shed.level cls →
        (∀ i : Slot, y.target.has i = y.stages[i].state.isOn) ∧
        (r0.state = .online → y.target ≠ r0.target → u ∈ t.plant.injections) ∧
        ∀ i : Slot, i.val < 4 → r0.stages[i].force = .none → r0.stages[i].state.isOn = true →
          let began (j : Slot) : Nat := r0.stages[j].startTime.getD 0
          let earlier := (allSlots.filter fun j => decide (j.val < 4) && r0.stages[j].state.isOn &&
            decide (r0.stages[j].force = .none) && decide (began j < began i ∨
              (began j = began i ∧ r0.lead.idxOf j < r0.lead.idxOf i))).length
          (earlier < held → y.stages[i].state = r0.stages[i].state ∧ y.stages[i].stopPending = false) ∧
          (held ≤ earlier →
            (r0.stages[i].state = .running →
              y.stages[i].state.isOn = false ∧ y.stages[i].stopTime = some s.seconds) ∧
            (r0.stages[i].state ≠ .running →
              y.stages[i].state = r0.stages[i].state ∧ y.stages[i].stopPending = true))

/-- R126: at level k from 1 to 7 a class's cooling cap is the least of its caps in the SHED records of levels 1 to k,
and a mask bit is set exactly when one of those records has it; at level 0 every cap is 4 and the mask is empty. So a
higher level never raises a cap and never empties a mask bit. A unit's cap is its class's. -/
def Obligations.CapsFallAndMaskGrowsWithLevel : Prop :=
  (∀ (t : Tables) (c : Fin 4) (g : Fin 8),
    capAt t 0 c = 4 ∧ maskAt t 0 = 0 ∧
    ∀ k : Nat, 1 ≤ k → k ≤ 7 →
      ((∀ j : Fin 7, t.shed[j].caps[c] ≤ 4) →
        (∀ j : Fin 7, j.val < k → capAt t k c ≤ t.shed[j].caps[c]) ∧
        ∃ j : Fin 7, j.val < k ∧ capAt t k c = t.shed[j].caps[c]) ∧
      ((maskAt t k).getLsbD g.val = true ↔ ∃ j : Fin 7, j.val < k ∧ (t.shed[j].mask).getLsbD g.val = true)) ∧
  (∀ (t : Tables) (a b : Nat) (c : Fin 4) (g : Fin 8), a ≤ b →
    capAt t b c ≤ capAt t a c ∧ ((maskAt t a).getLsbD g.val = true → (maskAt t b).getLsbD g.val = true)) ∧
  (∀ (e : Env) (u : UnitIx), coolingCap e u = capAt e.tables e.shed.level e.tables.units[u].priority)

/-- R130: the carrier of a gated group. Member 0 closes at the epoch; each member is closed for o seconds out of
every p; while o × n is at most p no two members are closed together, and when it exceeds p two are, for part of
each period. The gate of a member of a gated group with source OWN is closed by the same arithmetic. The gate of a
member of a group that is not gated is open. -/
def Obligations.CarrierClosesEachMemberInTurn : Prop :=
  (∀ (r : RotationRec) (epoch now n k : Nat), 1 ≤ r.onTime → 1 ≤ r.offTime → epoch ≤ now → k < n →
    let p := (r.onTime + r.offTime) * 60
    let o := r.offTime * 60
    (carrierClosed r epoch now n k = true ↔
      (((now : Int) - epoch) - ((k * p / n : Nat) : Int)) % (p : Int) < (o : Int)) ∧
    carrierClosed r epoch epoch n 0 = true ∧
    ((List.range p).filter fun d => carrierClosed r epoch (now + d) n k).length = o ∧
    (o * n ≤ p → ∀ j < n, carrierClosed r epoch now n k = true → carrierClosed r epoch now n j = true → j = k) ∧
    (p < o * n → ∃ d < p, ∃ i < n, ∃ j < n, i ≠ j ∧ carrierClosed r epoch (now + d) n i = true ∧
      carrierClosed r epoch (now + d) n j = true)) ∧
  (∀ (t : Tables) (rot : Rotation) (epoch now : Nat) (u : UnitIx) (g : Fin 8),
    let r := t.rotation[g]
    let p := (r.onTime + r.offTime) * 60
    let o := r.offTime * 60
    let n := (members t g).length
    let k := (members t g).idxOf u
    t.units[u].fitted = true → t.units[u].group = some g → rot[g] = some epoch → r.follow = none →
    1 ≤ r.onTime → 1 ≤ r.offTime → epoch ≤ now →
    (gateEval t rot now u = true ↔
      (((now : Int) - epoch) - ((k * p / n : Nat) : Int)) % (p : Int) < (o : Int))) ∧
  (∀ (t : Tables) (rot : Rotation) (now : Nat) (u : UnitIx) (g : Fin 8), t.units[u].fitted = true →
    t.units[u].group = some g → rot[g] = none → gateEval t rot now u = false)

/-- R128, R131, R132: the gate of a member of a gated group is its own carrier's with source OWN, and the opposite of
its partner's carrier with source FOLLOW; it is open where either group is not gated or the followed one has no
member. A tick evaluates every gate and holds what it finds; a gate that closes marks or stops the settled unit's
cooling stages that are on under no force. -/
def Obligations.GatesFollowTheCarriers : Prop :=
  (∀ (t : Tables) (rot : Rotation) (now : Nat) (u : UnitIx) (g : Fin 8),
    (∀ v : UnitIx, v ∈ members t g ↔ t.units[v].fitted = true ∧ t.units[v].group = some g) ∧
    (members t g).Pairwise (· < ·) ∧
    ((t.units[u].fitted = false ∨ t.units[u].group = none) → gateEval t rot now u = false) ∧
    (t.units[u].fitted = true → t.units[u].group = some g →
      let k := (members t g).idxOf u
      (rot[g] = none → gateEval t rot now u = false) ∧
      (∀ epoch, rot[g] = some epoch → t.rotation[g].follow = none →
        gateEval t rot now u = carrierClosed t.rotation[g] epoch now (members t g).length k) ∧
      (∀ h : Fin 8, rot[g].isSome = true → t.rotation[g].follow = some h →
        ((rot[h] = none ∨ members t h = []) → gateEval t rot now u = false) ∧
        (∀ epoch, rot[h] = some epoch → members t h ≠ [] →
          gateEval t rot now u =
            !carrierClosed t.rotation[h] epoch now (members t h).length (k % (members t h).length))))) ∧
  (∀ s : State, Ready s → ∃ t, exec .secondsTick s = .next t ∧ t.rotation = s.rotation ∧ ∀ u : UnitIx,
    let r := s.plant.unit u
    let y := t.plant.unit u
    y.gateClosed = gateEval s.tables s.rotation t.seconds u ∧
    (r.gateClosed = false → y.gateClosed = true → r.state.isSettled = true →
      ∀ i : Slot, i.val < 4 → r.stages[i].force = .none →
        (r.stages[i].state = .running →
          y.stages[i].state.isOn = false ∧ y.stages[i].stopTime = some t.seconds ∧ y.target.has i = false) ∧
        ((r.stages[i].state = .starting ∨ r.stages[i].state = .runMin) →
          y.stages[i].state = r.stages[i].state ∧ y.stages[i].stopPending = true)))

/-- R117, R118, R120: DR_BEGIN creates or replaces the job event, and the effective ceiling follows; DR_END and
the expiry end it. That a DR_EVENT_EXPIRY before the end time changes nothing is the model's choice (log entry 8,
DEDUCED). -/
def Obligations.JobEventSetsTheEffectiveCeiling : Prop :=
  ∀ s : State, Ready s →
    let floorOf (c : Nat) : Nat := if s.shed.contact.isSome then min c s.tables.roof.drDefaultCeiling else c
    (∀ req rest a b c d, JobWaits s req rest [0x24, a, b, c, d] →
      1 ≤ c.toNat + 256 * d.toNat → c.toNat + 256 * d.toNat ≤ 480 →
      ∃ t, exec .drBegin s = .next t ∧ t.link = jobAnswered s.link req rest 0x01 [0x24] ∧ t.plant = s.plant ∧
        t.tables = s.tables ∧ t.jobs = s.jobs ∧
        t.shed = { s.shed with
          jobEvent := some ⟨a.toNat + 256 * b.toNat, s.seconds, s.seconds + (c.toNat + 256 * d.toNat) * 60⟩
          ceiling := floorOf (min s.tables.roof.ceiling (a.toNat + 256 * b.toNat)) }) ∧
    (∀ req rest, JobWaits s req rest [0x25] →
      ∃ t, exec .drEnd s = .next t ∧ t.link = jobAnswered s.link req rest 0x01 [0x25] ∧ t.plant = s.plant ∧
        (s.shed.jobEvent.isSome → t.shed =
          { s.shed with jobEvent := none, ceiling := floorOf s.tables.roof.ceiling }) ∧
        (s.shed.jobEvent = none → t.shed = s.shed ∧ t.notices = s.notices)) ∧
    (∀ j, s.shed.jobEvent = some j →
      ∃ t, exec .drEventExpiry s = .next t ∧ t.plant = s.plant ∧ t.link = s.link ∧
        (j.endTime ≤ s.seconds → t.shed =
          { s.shed with jobEvent := none, ceiling := floorOf s.tables.roof.ceiling }) ∧
        (s.seconds < j.endTime → t.shed = s.shed ∧ t.notices = s.notices))

/-- R92, R122, R123, R160: the stagger, step, hold and session idle timers at their ends. That a timer whose end is
not reached runs on, and that an idle expiry outside OPEN changes nothing, is the model's choice (log entry 8,
DEDUCED). R175: a line change starts, restarts or cancels its input's debounce and touches nothing else. -/
def Obligations.TimersAndLineChanges : Prop :=
  (∀ (s : State) (e : Nat), s.powered = true →
    (s.plant.staggerEnd = some e → e ≤ s.seconds →
      exec .staggerTimerEnd s = .next { s with plant := { s.plant with staggerEnd := none } }) ∧
    (s.plant.staggerEnd = some e → s.seconds < e → exec .staggerTimerEnd s = .next s) ∧
    (s.shed.stepEnd = some e → e ≤ s.seconds →
      exec .stepTimerEnd s = .next { s with shed := { s.shed with stepEnd := none } }) ∧
    (s.shed.stepEnd = some e → s.seconds < e → exec .stepTimerEnd s = .next s) ∧
    (s.shed.hold = .running e → e ≤ s.seconds →
      exec .restoreHoldEnd s = .next { s with shed := { s.shed with hold := .reached e } }) ∧
    (s.shed.hold = .running e → s.seconds < e → exec .restoreHoldEnd s = .next s) ∧
    (s.jobs.session.state = .opened → s.jobs.session.idleEnd = some e → e ≤ s.seconds →
      exec .sessionIdleExpiry s = .next { s with jobs := { s.jobs with session := closedSession } }) ∧
    (s.jobs.session.state = .opened → s.jobs.session.idleEnd = some e → s.seconds < e →
      exec .sessionIdleExpiry s = .next s) ∧
    (s.jobs.session.state ≠ .opened → exec .sessionIdleExpiry s = .next s)) ∧
  (∀ (s : State) (b : Bool), s.powered = true →
    exec (.inputLineChange .intervalSync b) s = .next { s with lines := { s.lines with intervalSync :=
      ⟨b, s.lines.intervalSync.debounced, b != s.lines.intervalSync.debounced⟩ } } ∧
    exec (.inputLineChange .drContact b) s = .next { s with lines := { s.lines with drContact :=
      ⟨b, s.lines.drContact.debounced, b != s.lines.drContact.debounced⟩ } } ∧
    exec (.inputLineChange .roofShutdown b) s = .next { s with lines := { s.lines with roofShutdown :=
      ⟨b, s.lines.roofShutdown.debounced, b != s.lines.roofShutdown.debounced⟩ } })

/-! ## The discrete inputs (R105, R119, R145, R175, R176) -/

/-- R105, R119, R145, R176: a debounced change reaches its owner: a sync edge closes a METER_SYNC interval of at
least 60 s and leaves the forecast of the latest sample (R122), the contact's closing and opening move the effective
ceiling, and a shutdown trips every fitted unit until its release, with a protection injection for each ONLINE unit.
That an ONLINE unit gets it also where its map was all off already is R145's words taken literally (log entry 35,
DEDUCED). -/
def Obligations.DebouncedChangeReachesItsOwner : Prop :=
  ∀ s : State, Ready s →
    (s.lines.intervalSync = ⟨true, false, true⟩ → s.tables.roof.syncMode = .meterSync → 60 ≤ s.meter.clock →
      ∃ t, exec (.debounceExpiry .intervalSync) s = .next t ∧ t.lines.intervalSync = ⟨true, true, false⟩ ∧
        t.lines.syncMissing = false ∧ t.meter.clock = 0 ∧ t.meter.energy = 0 ∧
        t.meter.forecast = s.meter.power ∧ t.meter.peak = s.meter.power ∧ t.meter.power = s.meter.power ∧
        t.meter.sampleForecast = s.meter.sampleForecast ∧
        t.meter.history = (⟨s.meter.energy / s.meter.clock, s.meter.clock, s.meter.peak, s.meter.shedPeak,
          .sync⟩ :: s.meter.history).take 8) ∧
    (s.lines.intervalSync = ⟨true, false, true⟩ → (s.tables.roof.syncMode = .freeRun ∨ s.meter.clock < 60) →
      ∃ t, exec (.debounceExpiry .intervalSync) s = .next t ∧ t.lines.intervalSync = ⟨true, true, false⟩ ∧
        t.meter = s.meter ∧ t.notices = s.notices) ∧
    (s.lines.drContact = ⟨true, false, true⟩ →
      ∃ t, exec (.debounceExpiry .drContact) s = .next t ∧ t.lines.drContact = ⟨true, true, false⟩ ∧
        t.shed.contact = some s.seconds ∧ t.plant = s.plant ∧
        t.shed.ceiling = min (match s.shed.jobEvent with
          | some j => min s.tables.roof.ceiling j.ceiling
          | none => s.tables.roof.ceiling) s.tables.roof.drDefaultCeiling) ∧
    (s.lines.drContact = ⟨false, true, true⟩ → s.shed.contact.isSome →
      ∃ t, exec (.debounceExpiry .drContact) s = .next t ∧ t.lines.drContact = ⟨false, false, false⟩ ∧
        t.shed.contact = none ∧ t.plant = s.plant ∧
        t.shed.ceiling = (match s.shed.jobEvent with
          | some j => min s.tables.roof.ceiling j.ceiling
          | none => s.tables.roof.ceiling)) ∧
    (s.lines.roofShutdown = ⟨true, false, true⟩ →
      ∃ t, exec (.debounceExpiry .roofShutdown) s = .next t ∧ t.lines.roofShutdown = ⟨true, true, false⟩ ∧
        ∀ u : UnitIx, s.tables.units[u].fitted = true →
          holdsCause (t.plant.unit u) .shutdown none = true ∧
          (holdsCause (s.plant.unit u) .shutdown none = false →
            ((s.plant.unit u).state.isSettled = true → (t.plant.unit u).target.fan = false) ∧
            ((s.plant.unit u).state = .online → u ∈ t.plant.injections ∧ u ∈ t.plant.protection) ∧
            ∀ i : Slot, s.tables.units[u].bound i = true → (t.plant.unit u).stages[i].state.isTripped = true)) ∧
    (s.lines.roofShutdown = ⟨false, true, true⟩ →
      ∃ t, exec (.debounceExpiry .roofShutdown) s = .next t ∧ t.lines.roofShutdown = ⟨false, false, false⟩ ∧
        ∀ u : UnitIx, s.tables.units[u].fitted = true → holdsCause (t.plant.unit u) .shutdown none = false)

/-! ## Protection (R78, R138 to R152) -/

/-- R137, R140, R146, R147: a cause entered joins the list, makes one capture and one TRIP notice, and trips the
bound slots it covers; an ONLINE unit whose map loses a slot has its injection marked protection. Where the trip
makes the unit's cooling rest, the lead/lag check (R78) may raise LEAD_SWAPPED behind the TRIP notice. -/
def Obligations.EnteredCauseTripsItsSlots : Prop :=
  ∀ (e : Env) (u : UnitIx) (cls : TripClass) (pos : Option Nat) (ap : AppliesWhen) (r : Roof),
    let c : Cause := ⟨cls, pos, ap, latchedAtEntry e.tables cls, true, e.now⟩
    let x := r.plant.unit u
    let t := enterCause e u cls pos ap r
    let y := t.plant.unit u
    let trip (ns : List Notice) : List Notice := raiseNotice e.tables e.now .trip (u.val + 1) pos (some cls.code) ns
    y.causes = x.causes ++ [c] ∧
    (r.captures.length < 16 → t.captures = r.captures ++ [captureOf e u c x] ∧
      SwapMayFollow e u (trip r.notices) t.notices) ∧
    (∀ old rest, r.captures = old :: rest → r.captures.length = 16 →
      t.captures = rest ++ [captureOf e u c x] ∧
      SwapMayFollow e u (trip (raiseNotice e.tables e.now .captureOverwritten 0 none (some old.unit) r.notices))
        t.notices) ∧
    (∀ i : Slot, (e.cfg u).bound i = true → c.covers i = true →
      y.stages[i].state = (if ∃ d ∈ y.causes, d.covers i = true ∧ d.latched = true then .trippedLatched
        else .trippedAuto) ∧
      (x.stages[i].state.isOn = true → y.stages[i].stopTime = some e.now ∧ y.stages[i].stopPending = false ∧
        y.stages[i].minOffEnd = some (e.now + minOffOf e.tables u i)) ∧
      (x.stages[i].state.isOn = false → y.stages[i].stopTime = x.stages[i].stopTime) ∧
      (x.state.isSettled = true → y.target.has i = false) ∧
      (x.state = .online → x.target.has i = true → u ∈ t.plant.injections ∧ u ∈ t.plant.protection))

/-- R73, R141, R142: an automatic cause of an editable class whose condition is gone: a strike is counted; below
the limit the cause leaves and its slots are released, at the limit it is escalated and its slots are latched. Where
the unit's cooling comes to rest in it, the lead/lag check (R78) may raise LEAD_SWAPPED, behind TRIP_CLEARED or in
front of LATCH_ESCALATED (log entry 45). -/
def Obligations.GoneConditionStrikesAndReleases : Prop :=
  ∀ (e : Env) (u : UnitIx) (c : Cause) (r : Roof) (pol : Policy), policyOf e.tables c.tripClass = some pol →
    c ∈ (r.plant.unit u).causes →
    let x := r.plant.unit u
    let times := strike e.now e.tables.roof.strikeWindow (strikesOf x c.tripClass c.position)
    let t := releaseCause e u c r
    let y := t.plant.unit u
    strikesOf y c.tripClass c.position = times ∧ t.captures = r.captures ∧
    (times.length < pol.strikeLimit →
      y.causes = x.causes.filter (fun d => !(decide (d.tripClass = c.tripClass) && decide (d.position = c.position))) ∧
      SwapMayFollow e u
        (raiseNotice e.tables e.now .tripCleared (u.val + 1) c.position (some c.tripClass.code) r.notices) t.notices ∧
      ∀ i : Slot, (e.cfg u).bound i = true → c.covers i = true → x.stages[i].state.isTripped = true →
        (∀ d ∈ y.causes, d.covers i = false) →
        (x.state ≠ .inLocal → y.stages[i].state.isTripped = false ∧ y.stages[i].state.isOn = false ∧
          y.stages[i].stopTime = some e.now ∧ y.stages[i].minOffEnd = some (e.now + minOffOf e.tables u i)) ∧
        (x.state = .inLocal → y.stages[i].state = .inLocal)) ∧
    (pol.strikeLimit ≤ times.length →
      (∀ d ∈ y.causes, d.tripClass = c.tripClass → d.position = c.position → d.latched = true ∧ d.present = false) ∧
      y.causes.length = x.causes.length ∧
      (∃ ns, SwapMayFollow e u r.notices ns ∧ t.notices =
        raiseNotice e.tables e.now .latchEscalated (u.val + 1) c.position (some (times.length : Int)) ns) ∧
      ∀ i : Slot, (e.cfg u).bound i = true → c.covers i = true → y.stages[i].state = .trippedLatched)

/-- R138, R139, R143, R149, R151: what a fold makes of each fault condition and of each TRIP band, where it is shown
and where it is not: a condition without a cause enters one, unless its class is blankable and the unit's blanking
window runs; the condition flag of an active cause follows the fold; a latched cause stays; an automatic cause whose
condition is gone leaves below its strike limit and is escalated at it. Each pair is judged on the folded status. -/
def Obligations.FoldEntersAndReleasesCauses : Prop :=
  ∀ (s : State) (x : Transaction) (u : UnitIx) (p : List Byte), Ready s → FoldAwaits s x u p →
    CausesSound (s.plant.unit u) →
    let r := s.plant.unit u
    ∃ t st, exec (.trunkFrameReceived (statusReply x p)) s = .next t ∧ (t.plant.unit u).status = some st ∧
      (∀ b : Fin 16, (t.plant.unit u).pairs[b] = evaluatePair s.seconds u s.tables.bands[b] st r.pairs[b]) ∧
      ∀ (cls : TripClass) (pos : Option Nat), FoldedPosition cls pos →
        let shown := FoldShows s.tables s.tables.units[u] p (t.plant.unit u).pairs cls pos
        let held := ∃ d ∈ r.causes, d.tripClass = cls ∧ d.position = pos
        (¬held → (¬shown ∨ SetAside s.tables r cls) →
          ∀ d ∈ (t.plant.unit u).causes, ¬(d.tripClass = cls ∧ d.position = pos)) ∧
        (¬held → shown → ¬SetAside s.tables r cls →
          ∃ d ∈ (t.plant.unit u).causes, d.tripClass = cls ∧ d.position = pos ∧ d.present = true ∧
            d.entryTime = s.seconds ∧ d.latched = latchedAtEntry s.tables cls) ∧
        (∀ c ∈ r.causes, c.tripClass = cls → c.position = pos →
          (shown → { c with present := true } ∈ (t.plant.unit u).causes) ∧
          (¬shown → c.latched = true → { c with present := false } ∈ (t.plant.unit u).causes) ∧
          (∀ pol, ¬shown → c.latched = false → policyOf s.tables cls = some pol →
            let times := strike s.seconds s.tables.roof.strikeWindow (strikesOf r cls pos)
            strikesOf (t.plant.unit u) cls pos = times ∧
            (times.length < pol.strikeLimit →
              ∀ d ∈ (t.plant.unit u).causes, ¬(d.tripClass = cls ∧ d.position = pos)) ∧
            (pol.strikeLimit ≤ times.length →
              { c with latched := true, present := false } ∈ (t.plant.unit u).causes)))

/-- R149, R150: a band and unit pair at a fold: applicability, the settle time from the anchor, and the judgement
with hysteresis. -/
def Obligations.BandPairIsJudgedByItsLimits : Prop :=
  ∀ (now : Nat) (u : UnitIx) (b : BandRec) (st : Status) (q : BandPair),
    let applies : Prop := b.mask.getLsbD u.val = true ∧
      (match b.applies with
       | .any => True
       | .coolingOn => ∃ i : Slot, i.val < 4 ∧ st.run.has i = true
       | .heatingOn => ∃ i : Slot, 4 ≤ i.val ∧ st.run.has i = true)
    let anchor := q.anchor.getD now
    let p := evaluatePair now u b st q
    (¬applies → p = ⟨.notApplicable, none⟩) ∧
    (applies → p.anchor = some anchor ∧
      (now - anchor < b.settle → p.state = .notApplicable) ∧
      (b.settle ≤ now - anchor →
        (quantityValue st b.quantity = none → p.state = q.state) ∧
        ∀ v, quantityValue st b.quantity = some v →
          ((v < b.low ∨ b.high < v) → p.state = .outside) ∧
          (b.low ≤ v → v ≤ b.high → q.state ≠ .outside → p.state = .inside) ∧
          (b.low + b.hysteresis ≤ v → v ≤ b.high - b.hysteresis → p.state = .inside) ∧
          (b.low ≤ v → v ≤ b.high → q.state = .outside →
            (v < b.low + b.hysteresis ∨ b.high - b.hysteresis < v) → p.state = .outside)))

/-- R78: the lead/lag check: the slot with the fewest run hours, the first of those that share them, takes the
lead in cyclic order when some counter is above it by more than the threshold; otherwise nothing changes. The check
is made at the moment a unit's cooling comes to rest: when a minimum-on end stops its last cooling stage while the
lead/lag enable is set, the lead order holds two slots or more and no COOL entry waits. What one moment is, is DEDUCED
(log entry 15). -/
def Obligations.LeadPassesToTheLeastUsedSlot : Prop :=
  (∀ (e : Env) (u : UnitIx) (r : Roof) (i : Slot) (before after : List Slot),
    let x := r.plant.unit u
    let hours := runHoursOf x
    let limit := e.tables.roof.swapThreshold * 3600
    x.lead = before ++ i :: after → (∀ j ∈ before, hours i < hours j) → (∀ j ∈ after, hours i ≤ hours j) →
    ((∀ j ∈ x.lead, hours j - hours i ≤ limit) → leadCheck e u r = r) ∧
    (before = [] → leadCheck e u r = r) ∧
    (before ≠ [] → (∃ j ∈ x.lead, limit < hours j - hours i) →
      (leadCheck e u r).plant = r.plant.modUnit u (fun y => { y with lead := i :: after ++ before }) ∧
      (leadCheck e u r).captures = r.captures ∧
      (leadCheck e u r).notices =
        raiseNotice e.tables e.now .leadSwapped (u.val + 1) none (some (i.val : Int)) r.notices)) ∧
  (∀ (s : State) (u : UnitIx) (i : Slot), Ready s →
    let r := s.plant.unit u
    i.val < 4 → s.tables.units[u].bound i = true → s.tables.units[u].leadLag = true → 2 ≤ r.lead.length →
    s.plant.hasEntry u .cool = false → r.stages[i].state = .runMin → r.stages[i].stopPending = true →
    elapsed s.seconds r.stages[i].minOnEnd = true →
    (∀ j : Slot, j.val < 4 → j ≠ i → s.tables.units[u].bound j = true → r.stages[j].state = .offLocked ∨
      r.stages[j].state = .offReady ∨ r.stages[j].state.isTripped = true) →
    ∃ t, exec (.minimumOnEnd u i) s = .next t ∧
      (t.plant.unit u).lead = ((leadCheck s.env u s.roof).plant.unit u).lead ∧
      t.notices = (leadCheck s.env u s.roof).notices)

/-! ## Reading jobs (R155 to R157, R180) -/

/-- R157, 11.9: IDENTIFY and READ_ROOF report, at the offsets of 11.9, and change nothing but the answered job.
A field carries the low bits of the value, which are the whole value in every state of a run (the model's choice, log
entry 30). That the revision, byte 3 of IDENTIFY, is 1 is the model's choice too (log entry 14, DEDUCED). -/
def Obligations.RoofJobsReportTheRoof : Prop :=
  ∀ (s : State) (req : Frame) (rest : List Frame),
    (JobWaits s req rest [0x01] →
      ∃ p, exec .identify s = .next { s with link := jobAnswered s.link req rest 0x01 p } ∧ p.length = 8 ∧
        u8At p 0 = 0x01 ∧ u16At p 1 = 0x0320 ∧ u8At p 3 = 1 ∧
        u8At p 4 = (allUnits.filter fun u => s.tables.units[u].fitted).length ∧
        u8At p 5 = (match s.jobs.config with | .stored => 0 | .defaulted => 1 | .modified => 2) ∧
        u8At p 6 = (match s.jobs.session.state with | .closed => 0 | .opened => 1 | .applying => 2) ∧
        byteAt p 7 = (if s.jobs.session.state = .applying then 1 else 0) ||| (if s.jobs.store.isSome then 2 else 0)) ∧
    (JobWaits s req rest [0x02] →
      ∃ p, exec .readRoof s = .next { s with link := jobAnswered s.link req rest 0x01 p } ∧ p.length = 22 ∧
        u8At p 0 = 0x02 ∧ u16At p 1 = s.meter.clock % 65536 ∧ u32At p 3 = s.meter.energy % 4294967296 ∧
        u16At p 7 = s.meter.power % 65536 ∧ u16At p 9 = s.meter.forecast % 65536 ∧
        u16At p 11 = (match s.meter.peakRecord with | some q => q.average % 65536 | none => 0) ∧
        u16At p 13 = s.shed.ceiling % 65536 ∧ u8At p 15 = s.shed.level % 256 ∧
        u16At p 16 = (match s.shed.jobEvent with | some j => j.ceiling % 65536 | none => 0) ∧
        u16At p 18 = (match s.shed.jobEvent with | some j => (j.endTime - s.seconds) % 65536 | none => 0) ∧
        (byteAt p 20).getLsbD 0 = s.meter.peakRecord.isSome ∧ (byteAt p 20).getLsbD 1 = s.shed.jobEvent.isSome ∧
        (byteAt p 20).getLsbD 2 = s.shed.contact.isSome ∧
        (byteAt p 20).getLsbD 3 = s.lines.intervalSync.debounced ∧
        (byteAt p 20).getLsbD 4 = s.lines.drContact.debounced ∧
        (byteAt p 20).getLsbD 5 = s.lines.roofShutdown.debounced ∧ u8At p 20 < 64 ∧
        (∀ i : Fin 4, (byteAt p 21).getLsbD i.val = s.lines.outputs[i]) ∧ u8At p 21 < 16)

/-- R134, R157, 11.9: READ_UNIT and READ_STAGE report a unit, ABSENT units included, at the offsets of 11.9. A field
carries the low bits of its value (the model's choice, log entry 30). -/
def Obligations.UnitJobsReportTheUnit : Prop :=
  ∀ (s : State) (req : Frame) (rest : List Frame) (a b : Byte) (u : UnitIx), a.toNat = u.val + 1 →
    let r := s.plant.unit u
    (JobWaits s req rest [0x03, a] →
      ∃ p, exec .readUnit s = .next { s with link := jobAnswered s.link req rest 0x01 p } ∧ p.length = 20 ∧
        u8At p 0 = 0x03 ∧
        u8At p 1 = (match r.state with
          | .absent => 0 | .unadopted => 1 | .online => 2 | .offline => 3 | .inLocal => 4) ∧
        u8At p 2 = (if r.isolated then 1 else 0) ∧ u8At p 3 = r.failures % 256 ∧ u8At p 4 = r.call.cool % 256 ∧
        u8At p 5 = r.call.heat % 256 ∧ (byteAt p 6).getLsbD 0 = r.call.fanOn ∧
        (byteAt p 6).getLsbD 1 = r.call.economizer ∧ (byteAt p 6).getLsbD 2 = r.call.occupied ∧
        (byteAt p 6).getLsbD 3 = r.call.coolClamped ∧ (byteAt p 6).getLsbD 4 = r.call.heatClamped ∧
        u8At p 6 < 32 ∧ u16At p 7 = r.call.age % 65536 ∧
        (∀ i : Slot, (byteAt p 9).getLsbD i.val = r.target.has i ∧ (byteAt p 10).getLsbD i.val = r.ack.has i) ∧
        (byteAt p 9).getLsbD 7 = r.target.fan ∧ (byteAt p 10).getLsbD 7 = r.ack.fan ∧
        (r.status = none → u8At p 11 = 0 ∧ u16At p 12 = 0 ∧ (byteAt p 14).getLsbD 0 = false) ∧
        (∀ st, r.status = some st → (∀ i : Slot, (byteAt p 11).getLsbD i.val = st.run.has i) ∧
          (byteAt p 11).getLsbD 7 = st.run.fan ∧ u16At p 12 = st.age % 65536 ∧ (byteAt p 14).getLsbD 0 = true) ∧
        u8At p 14 / 2 = (if s.tables.units[u].fitted = true ∧ s.tables.units[u].group.isSome then
          (if r.gateClosed then 1 else 0) else 2) ∧
        u8At p 15 = capAt s.tables s.shed.level s.tables.units[u].priority % 256 ∧
        (∀ k : Fin 4, byteAt p (16 + k.val) =
          (match r.lead[k.val]? with | some i => BitVec.ofNat 8 i.val | none => 0xFF))) ∧
    (∀ i : Slot, b.toNat = i.val → JobWaits s req rest [0x04, a, b] →
      let st := r.stages[i]
      ∃ p, exec .readStage s = .next { s with link := jobAnswered s.link req rest 0x01 p } ∧ p.length = 18 ∧
        u8At p 0 = 0x04 ∧
        u8At p 1 = (match st.state with
          | .notFitted => 0 | .offLocked => 1 | .offReady => 2 | .queued => 3 | .starting => 4 | .runMin => 5
          | .running => 6 | .trippedAuto => 7 | .trippedLatched => 8 | .inLocal => 9) ∧
        u8At p 2 = (if st.stopPending then 1 else 0) ∧
        u8At p 3 = (match st.force with | .none => 0 | .forceOff => 1 | .forceOn => 2) ∧
        (∀ cls : TripClass, (u16At p 4).testBit cls.code = true ↔
          s.tables.units[u].bound i = true ∧ ∃ c ∈ r.causes, c.tripClass = cls ∧ c.covers i = true) ∧
        u16At p 6 = min 65535 (st.minOnEnd.getD 0 - s.seconds) ∧
        u16At p 8 = min 65535 (st.minOffEnd.getD 0 - s.seconds) ∧
        u16At p 10 = min 65535 (st.startToStartEnd.getD 0 - s.seconds) ∧
        u32At p 12 = (if h : i.val < 4 then r.runHours[i.val] % 4294967296 else 0) ∧
        u8At p 16 = (match r.window with | some w => (w.anchor + w.length - s.seconds) % 256 | none => 0) ∧
        u8At p 17 = (if r.fanForce then 1 else 0))

/-- R156, R157, 11.9: READ_QUEUE, READ_HISTORY and READ_ERRORS: the counts, the records in their order and where
each stands; READ_ERRORS alone changes something: it empties the error list. A field carries the low bits of its value
(the model's choice, log entry 30). -/
def Obligations.ListJobsReportTheirLists : Prop :=
  ∀ (s : State) (req : Frame) (rest : List Frame),
    (JobWaits s req rest [0x05] →
      ∃ p, exec .readQueue s = .next { s with link := jobAnswered s.link req rest 0x01 p } ∧
        p.length = 2 + 5 * min 8 s.plant.queue.length ∧ u8At p 0 = 0x05 ∧
        u8At p 1 = s.plant.queue.length % 256 ∧
        ∀ (k : Nat) (n : Entry), k < 8 → s.plant.queue[k]? = some n →
          u8At p (2 + 5 * k) = n.unit.val + 1 ∧ u8At p (3 + 5 * k) = (if n.kind = .cool then 0 else 1) ∧
          u8At p (4 + 5 * k) = n.baseClass % 256 ∧ u8At p (5 + 5 * k) = n.currentClass % 256 ∧
          u8At p (6 + 5 * k) = (match n.skip with
            | .none => 0 | .lockout => 3 | .stagger => 4 | .demand => 5 | .shedCap => 6 | .gated => 7
            | .changeover => 8 | .manualOnly => 16)) ∧
    (∀ a : Byte, a.toNat ≤ 7 → JobWaits s req rest [0x06, a] →
      ∃ p, exec .readHistory s = .next { s with link := jobAnswered s.link req rest 0x01 p } ∧
        u8At p 0 = 0x06 ∧ u8At p 1 = s.meter.history.length % 256 ∧
        u8At p 2 = min 4 (s.meter.history.length - a.toNat) ∧ p.length = 10 + 8 * u8At p 2 ∧
        u8At p 3 = (if s.meter.peakRecord.isSome then 1 else 0) ∧
        (∀ q, s.meter.peakRecord = some q → u16At p 4 = q.average % 65536 ∧
          u32At p 6 = q.closeTime % 4294967296) ∧
        (s.meter.peakRecord = none → u16At p 4 = 0 ∧ u32At p 6 = 0) ∧
        ∀ (k : Nat) (h : HistoryRec), k < 4 → s.meter.history[a.toNat + k]? = some h →
          u16At p (10 + 8 * k) = h.average % 65536 ∧ u16At p (12 + 8 * k) = h.length % 65536 ∧
          u16At p (14 + 8 * k) = h.peak % 65536 ∧ u8At p (16 + 8 * k) = h.shedPeak % 256 ∧
          u8At p (17 + 8 * k) = (match h.cause with | .freeRun => 0 | .sync => 1 | .syncMissing => 2)) ∧
    (JobWaits s req rest [0x07] →
      ∃ p, exec .readErrors s = .next { s with
          link := jobAnswered s.link req rest 0x01 p, jobs := { s.jobs with errors := [] } } ∧
        p.length = 2 + 6 * s.jobs.errors.length ∧ u8At p 0 = 0x07 ∧ u8At p 1 = s.jobs.errors.length % 256 ∧
        ∀ (k : Nat) (x : ErrorEntry), s.jobs.errors[k]? = some x →
          byteAt p (2 + 6 * k) = x.job ∧ byteAt p (3 + 6 * k) = x.error ∧
          u32At p (4 + 6 * k) = x.time % 4294967296)

/-- R109, R147, R172, R180, 11.7: READ_NOTICES and READ_CAPTURES return the oldest 4 and 3 records and keep them;
ACK_NOTICES and DISCARD_CAPTURES remove the oldest n, n clamped to the number held; CLEAR_PEAK empties the
peak-interval record. That the age of a held time above the counter is 0, and that a value beyond 32 bits is sent by
its low bits, are the model's choices (log entries 43 and 42), as is every other field's carrying the low bits of its value (log
entry 30). -/
def Obligations.NoticeAndCaptureJobsKeepTheirOrder : Prop :=
  ∀ (s : State) (req : Frame) (rest : List Frame),
    (JobWaits s req rest [0x11] →
      ∃ p, exec .readNotices s = .next { s with link := jobAnswered s.link req rest 0x01 p } ∧
        p.length = 2 + 11 * min 4 s.notices.length ∧ u8At p 0 = 0x11 ∧ u8At p 1 = s.notices.length % 256 ∧
        ∀ (k : Nat) (n : Notice), k < 4 → s.notices[k]? = some n →
          u16At p (2 + 11 * k) = (n.kind.code.val + 32 * n.unit + 2048 * n.index.getD 31) % 65536 ∧
          u8At p (4 + 11 * k) = n.count % 256 ∧
          u16At p (5 + 11 * k) = min 65535 (s.seconds - n.firstTime) ∧
          u16At p (7 + 11 * k) = min 65535 (s.seconds - n.lastTime) ∧
          BitVec.ofNat 32 (u32At p (9 + 11 * k)) = BitVec.ofInt 32 (n.value.getD (-2147483648))) ∧
    (∀ n : Byte, NoPassDue s → JobWaits s req rest [0x12, n] →
      ∃ t, exec .ackNotices s = .next t ∧ t.link = jobAnswered s.link req rest 0x01 [0x12] ∧
        t.notices = s.notices.drop n.toNat ∧ t.captures = s.captures ∧ t.plant = s.plant ∧ t.meter = s.meter ∧
        t.shed = s.shed ∧ t.tables = s.tables ∧ t.jobs = s.jobs ∧ t.seconds = s.seconds ∧ OutputsTrue t) ∧
    (JobWaits s req rest [0x13] →
      ∃ p, exec .readCaptures s = .next { s with link := jobAnswered s.link req rest 0x01 p } ∧
        p.length = 2 + 15 * min 3 s.captures.length ∧ u8At p 0 = 0x13 ∧ u8At p 1 = s.captures.length % 256 ∧
        ∀ (k : Nat) (c : Capture), k < 3 → s.captures[k]? = some c →
          u32At p (2 + 15 * k) = c.time % 4294967296 ∧ u8At p (6 + 15 * k) = c.unit % 256 ∧
          u8At p (7 + 15 * k) = c.tripClass.code ∧ u32At p (8 + 15 * k) = c.sinceStart.getD 0 % 4294967296 ∧
          u16At p (12 + 15 * k) = c.power.getD 0 % 65536 ∧ u16At p (14 + 15 * k) = c.forecast % 65536 ∧
          (c.level < 8 → c.slot.getD 0 < 4 →
            u8At p (16 + 15 * k) % 8 = c.level ∧ u8At p (16 + 15 * k) / 8 % 4 = c.slot.getD 0 ∧
            (byteAt p (16 + 15 * k)).getLsbD 5 = c.slot.isSome ∧
            (byteAt p (16 + 15 * k)).getLsbD 6 = c.sinceStart.isSome ∧
            (byteAt p (16 + 15 * k)).getLsbD 7 = c.power.isSome)) ∧
    (∀ n : Byte, JobWaits s req rest [0x14, n] →
      exec .discardCaptures s = .next { s with
        link := jobAnswered s.link req rest 0x01 [0x14], captures := s.captures.drop n.toNat }) ∧
    (JobWaits s req rest [0x10] →
      exec .clearPeak s = .next { s with
        link := jobAnswered s.link req rest 0x01 [0x10], meter := { s.meter with peakRecord := none } })

/-! ## Operation jobs (R47, R144, R153, R154, R158) -/

/-- R144: CLEAR_TRIP refuses with CONDITION_PRESENT while a selected latched cause has its condition present;
otherwise every selected cause leaves with its strikes, automatic causes stay, and a slot that no cause holds any
longer is not tripped. That the detail is the first circuit slot with a present selected cause, also where a unit-scope
cause is present, is the model's choice (log entry 22). R158: a unit that is not fitted and a slot that is not bound are
refused. -/
def Obligations.ClearTripClearsLatchedCauses : Prop :=
  (∀ (s : State) (req : Frame) (rest : List Frame) (a b : Byte) (u : UnitIx), Calm s →
      JobWaits s req rest [0x20, a, b] → a.toNat = u.val + 1 → s.tables.units[u].fitted = true →
      (b = 0xFF ∨ ∃ i : Slot, b.toNat = i.val ∧ s.tables.units[u].bound i = true) →
      CausesSound (s.plant.unit u) →
      let r := s.plant.unit u
      let selected (c : Cause) : Prop :=
        c ∈ r.causes ∧ c.latched = true ∧ (b = 0xFF ∨ ∃ i : Slot, b.toNat = i.val ∧ c.covers i = true)
      (∀ c, selected c → c.present = true →
        (∃ d, RefusesJob .clearTrip s req rest 0x20 0x40 [d] s.jobs) ∧
        (c.tripClass.isCircuit = true → ∀ j : Slot, c.position = some j.val →
          (∀ d, selected d → d.present = true → d.tripClass.isCircuit = true →
            ∀ k : Slot, d.position = some k.val → j ≤ k) →
          RefusesJob .clearTrip s req rest 0x20 0x40 [BitVec.ofNat 8 j.val] s.jobs) ∧
        ((∀ d, selected d → d.present = true → d.tripClass.isCircuit = false) →
          RefusesJob .clearTrip s req rest 0x20 0x40 [0xFF] s.jobs)) ∧
      ((∀ c, selected c → c.present = false) →
        ∃ t, exec .clearTrip s = .next t ∧ OnlyPlantChanged s t (jobAnswered s.link req rest 0x01 [0x20]) ∧
          (∀ c, c ∈ (t.plant.unit u).causes ↔ c ∈ r.causes ∧ ¬selected c) ∧
          (∀ c, selected c → strikesOf (t.plant.unit u) c.tripClass c.position = []) ∧
          (∀ (c : Cause) (i : Slot), selected c → c.covers i = true → s.tables.units[u].bound i = true →
            (∀ d ∈ (t.plant.unit u).causes, d.covers i = false) →
            (t.plant.unit u).stages[i].state.isTripped = false))) ∧
  (∀ (s : State) (req : Frame) (rest : List Frame) (a b : Byte) (u : UnitIx), Calm s →
    JobWaits s req rest [0x20, a, b] → a.toNat = u.val + 1 →
    (s.tables.units[u].fitted = false → RefusesJob .clearTrip s req rest 0x20 0x11 [1] s.jobs) ∧
    (s.tables.units[u].fitted = true → b ≠ 0xFF →
      (6 < b.toNat ∨ ∃ i : Slot, b.toNat = i.val ∧ s.tables.units[u].bound i = false) →
      RefusesJob .clearTrip s req rest 0x20 0x11 [2] s.jobs))

/-- R47, R153, R154: FORCE_STAGE sets, turns over or releases the force of a bound slot or of the fan, with its
refusals: CALL_CONFLICT where a slot of the other kind is on in either map or holds FORCE_ON, and BAD_ARGUMENT for a
unit that is not fitted, a slot that is not bound, an action above 2, and a fan action but FORCE_ON and RELEASE (the
details: log entry 23); ISOLATE sets the isolation flag and withdraws the unit's entries, RESTORE clears it. -/
def Obligations.ForceAndIsolationJobsSetTheirFlags : Prop :=
  ∀ (s : State) (req : Frame) (rest : List Frame) (a b : Byte) (u : UnitIx), Calm s → a.toNat = u.val + 1 →
    let r := s.plant.unit u
    let conflict (i : Slot) : Prop := ∃ j : Slot, slotKind j ≠ slotKind i ∧
      (r.target.has j = true ∨ r.ack.has j = true ∨ r.stages[j].force = .forceOn)
    (∀ (i : Slot), b.toNat = i.val → s.tables.units[u].fitted = true → s.tables.units[u].bound i = true →
      (JobWaits s req rest [0x21, a, b, 0] →
        ∃ t, exec .forceStage s = .next t ∧ OnlyPlantChanged s t (jobAnswered s.link req rest 0x01 [0x21]) ∧
          (t.plant.unit u).stages[i].force = .forceOff ∧
          ((s.plant.unit u).state.isSettled = true → (s.plant.unit u).stages[i].state = .running →
            (t.plant.unit u).stages[i].state.isOn = false)) ∧
      (JobWaits s req rest [0x21, a, b, 1] → ¬conflict i →
        ∃ t, exec .forceStage s = .next t ∧ OnlyPlantChanged s t (jobAnswered s.link req rest 0x01 [0x21]) ∧
          (t.plant.unit u).stages[i].force = .forceOn) ∧
      (JobWaits s req rest [0x21, a, b, 1] → conflict i →
        RefusesJob .forceStage s req rest 0x21 0x04 [b] s.jobs) ∧
      (JobWaits s req rest [0x21, a, b, 2] →
        ∃ t, exec .forceStage s = .next t ∧ OnlyPlantChanged s t (jobAnswered s.link req rest 0x01 [0x21]) ∧
          (t.plant.unit u).stages[i].force = .none) ∧
      (∀ c : Byte, 2 < c.toNat → JobWaits s req rest [0x21, a, b, c] →
        RefusesJob .forceStage s req rest 0x21 0x11 [3] s.jobs)) ∧
    (∀ c : Byte, s.tables.units[u].fitted = true →
      (7 < b.toNat ∨ ∃ i : Slot, b.toNat = i.val ∧ s.tables.units[u].bound i = false) →
      JobWaits s req rest [0x21, a, b, c] → RefusesJob .forceStage s req rest 0x21 0x11 [2] s.jobs) ∧
    (s.tables.units[u].fitted = true → JobWaits s req rest [0x21, a, 7, 1] →
      ∃ t, exec .forceStage s = .next t ∧ OnlyPlantChanged s t (jobAnswered s.link req rest 0x01 [0x21]) ∧
        (t.plant.unit u).fanForce = true ∧
        ((s.plant.unit u).state.isSettled = true → fanForcedOff (s.plant.unit u) = false →
          (t.plant.unit u).target.fan = true)) ∧
    (s.tables.units[u].fitted = true → JobWaits s req rest [0x21, a, 7, 2] →
      ∃ t, exec .forceStage s = .next t ∧ OnlyPlantChanged s t (jobAnswered s.link req rest 0x01 [0x21]) ∧
        (t.plant.unit u).fanForce = false) ∧
    (∀ c : Byte, s.tables.units[u].fitted = true → c ≠ 1 → c ≠ 2 → JobWaits s req rest [0x21, a, 7, c] →
      RefusesJob .forceStage s req rest 0x21 0x11 [3] s.jobs) ∧
    (∀ c, s.tables.units[u].fitted = false → JobWaits s req rest [0x21, a, b, c] →
      RefusesJob .forceStage s req rest 0x21 0x11 [1] s.jobs) ∧
    (JobWaits s req rest [0x22, a] →
      ∃ t, exec .isolate s = .next t ∧ OnlyPlantChanged s t (jobAnswered s.link req rest 0x01 [0x22]) ∧
        (t.plant.unit u).isolated = true ∧ (∀ v, v ≠ u → t.plant.unit v = s.plant.unit v) ∧
        (t.plant.unit u).target = (s.plant.unit u).target ∧
        ((s.plant.unit u).isolated = false → ∀ n ∈ t.plant.queue, n.unit ≠ u) ∧
        ((s.plant.unit u).isolated = true → t.plant = s.plant)) ∧
    (JobWaits s req rest [0x23, a] →
      ∃ t, exec .restore s = .next t ∧ OnlyPlantChanged s t (jobAnswered s.link req rest 0x01 [0x23]) ∧
        (t.plant.unit u).isolated = false ∧
        (∀ v, v ≠ u → (t.plant.unit v).isolated = (s.plant.unit v).isolated) ∧
        ((s.plant.unit u).isolated = false → t.plant = s.plant))

/-! ## The edit session, the store and the restart (R159 to R167) -/

/-- R160, R161: OPEN_EDIT, SELECT, SEEK and ABANDON in the states that accept them; each edit job served in OPEN
starts the idle timer anew. -/
def Obligations.EditSessionOpensSelectsAndCloses : Prop :=
  ∀ (s : State) (req : Frame) (rest : List Frame) (a : Byte) (t : TableId),
    let x := s.jobs.session
    (s.jobs.session.state = .closed → JobWaits s req rest [0x30] →
      exec .openEdit s = .next { s with link := jobAnswered s.link req rest 0x01 [0x30],
                                        jobs := withIdle s { closedSession with state := .opened } }) ∧
    (InOpenSession s → JobWaits s req rest [0x31, a] → TableId.ofCode a.toNat = some t → t ∉ x.selected →
      exec .selectTable s = .next { s with link := jobAnswered s.link req rest 0x01 [0x31],
                                           jobs := withIdle s { x with
                                             selected := x.selected ++ [t]
                                             shadows := copyTable t s.tables x.shadows
                                             current := some t
                                             cursor := 0 } }) ∧
    (InOpenSession s → JobWaits s req rest [0x31, a] → TableId.ofCode a.toNat = some t → t ∈ x.selected →
      exec .selectTable s = .next { s with link := jobAnswered s.link req rest 0x01 [0x31],
                                           jobs := withIdle s { x with current := some t, cursor := 0 } }) ∧
    (InOpenSession s → JobWaits s req rest [0x31, a] → 9 ≤ a.toNat →
      RefusesJob .selectTable s req rest 0x31 0x11 [1] (withIdle s x)) ∧
    (InOpenSession s → x.current = some t → JobWaits s req rest [0x32, a] → a.toNat < recordCount t →
      exec .seek s = .next { s with link := jobAnswered s.link req rest 0x01 [0x32],
                                    jobs := withIdle s { x with cursor := a.toNat } }) ∧
    (InOpenSession s → x.current = some t → JobWaits s req rest [0x32, a] → recordCount t ≤ a.toNat →
      RefusesJob .seek s req rest 0x32 0x11 [1] (withIdle s x)) ∧
    (InOpenSession s → JobWaits s req rest [0x37] →
      exec .abandon s = .next { s with link := jobAnswered s.link req rest 0x01 [0x37],
                                       jobs := { s.jobs with session := closedSession } })

/-- R162: WRITE, EXCHANGE and READ_AT on the shadow at the cursor: the cursor moves on, a record out of range is
refused with the index of its first bad field, and the end of the table refuses all three. -/
def Obligations.RecordJobsWorkOnTheShadow : Prop :=
  ∀ (s : State) (req : Frame) (rest : List Frame) (t : TableId) (l : List Byte), InOpenSession s →
    s.jobs.session.current = some t →
    let x := s.jobs.session
    let written := withIdle s { x with shadows := putRecord x.shadows t x.cursor l, cursor := x.cursor + 1 }
    let full := JobWaits s req rest (0x33 :: l) ∧ l.length = recordSize t
    let swap := JobWaits s req rest (0x34 :: l) ∧ l.length = recordSize t
    (full → x.cursor < recordCount t → firstBad (fieldsOf t l) l = none →
      exec .writeRecord s = .next { s with link := jobAnswered s.link req rest 0x01 [0x33], jobs := written }) ∧
    (swap → x.cursor < recordCount t → firstBad (fieldsOf t l) l = none →
      exec .exchange s = .next { s with
        link := jobAnswered s.link req rest 0x01 (0x34 :: recordBytes x.shadows t x.cursor), jobs := written }) ∧
    (∀ o, full → x.cursor < recordCount t → firstBad (fieldsOf t l) l = some o →
      RefusesJob .writeRecord s req rest 0x33 0x11 [BitVec.ofNat 8 (1 + o)] (withIdle s x)) ∧
    (∀ o, swap → x.cursor < recordCount t → firstBad (fieldsOf t l) l = some o →
      RefusesJob .exchange s req rest 0x34 0x11 [BitVec.ofNat 8 (1 + o)] (withIdle s x)) ∧
    (full → recordCount t ≤ x.cursor → RefusesJob .writeRecord s req rest 0x33 0x11 [0xFF] (withIdle s x)) ∧
    (swap → recordCount t ≤ x.cursor → RefusesJob .exchange s req rest 0x34 0x11 [0xFF] (withIdle s x)) ∧
    (JobWaits s req rest [0x35] → x.cursor < recordCount t →
      exec .readAt s = .next { s with
        link := jobAnswered s.link req rest 0x01 (0x35 :: recordBytes x.shadows t x.cursor),
        jobs := withIdle s { x with cursor := x.cursor + 1 } }) ∧
    (JobWaits s req rest [0x35] → recordCount t ≤ x.cursor →
      RefusesJob .readAt s req rest 0x35 0x11 [0xFF] (withIdle s x))

/-- R40, R58, R125, R128, R136, R148, R159, R169, R177, 11.6, 11.8: the range of every field of every table at a
WRITE. The offset answered is that of the first field, in the record's order, out of its range; none when all are in
range. A PROFILE record's ranges go by the kind it gives, and a BAND record's limits by its quantity. The lists below
hold each field's offset with whether it is in range; the sizes and the numbers of the records are 11.6's and
R159's. That a flag's bytes are 0 and 1 is the model's choice (log entry 52). -/
def Obligations.WriteChecksEachFieldsRange : Prop :=
  ∀ l : List Byte,
    let first (fields : List (Nat × Bool)) : Option Nat := (fields.find? fun f => !f.2).map (·.1)
    let b (o low high : Nat) : Nat × Bool := (o, decide (low ≤ u8At l o ∧ u8At l o ≤ high))
    let w (o low high : Nat) : Nat × Bool := (o, decide (low ≤ u16At l o ∧ u16At l o ≤ high))
    let sw (o : Nat) (low high : Int) : Nat × Bool := (o, decide (low ≤ s16At l o ∧ s16At l o ≤ high))
    let sb (o : Nat) : Nat × Bool := (o, decide (-50 ≤ s8At l o ∧ s8At l o ≤ 50))
    let orNone (o : Nat) : Nat × Bool := (o, decide (u8At l o ≤ 7 ∨ u8At l o = 255))
    let limit (o : Nat) : Nat × Bool :=
      if u8At l 0 = 4 then sw o (-1600) 1600 else if u8At l 0 = 5 then sw o 0 100 else sw o (-400) 1200
    firstBad (fieldsOf .roof l) l = first [w 0 300 3600, b 2 0 1, w 3 10 300, w 5 0 65535, w 7 0 5000, w 9 0 5000,
      w 11 30 600, w 13 60 1800, w 15 0 65535, b 17 5 120, w 18 60 3600, w 20 20 500, b 22 0 3, b 23 1 15, b 24 2 60,
      b 25 5 60, b 26 5 120, b 27 0 4, b 28 0 4, w 29 600 7200, b 31 0 1, b 32 1 7, b 33 0 1, sw 34 (-400) 1200,
      sw 36 (-400) 1200, sw 38 (-400) 1200, sw 40 (-400) 1200, w 42 1 500] ∧
    firstBad (fieldsOf .unit l) l = first [b 0 0 1, b 1 0 3, w 2 0 65535, w 4 0 65535, orNone 6, orNone 7, orNone 8,
      orNone 9, orNone 10, orNone 11, orNone 12, orNone 13, b 14 0 1, sb 15, sb 16, sb 17, sb 18] ∧
    (u8At l 0 = 0 → firstBad (fieldsOf .profile l) l =
      first [w 1 0 65535, w 3 60 600, w 5 60 900, w 7 300 1800, b 9 0 60, b 10 0 1]) ∧
    (u8At l 0 = 1 → firstBad (fieldsOf .profile l) l =
      first [w 1 0 65535, w 3 0 300, w 5 0 600, w 7 0 1800, b 9 0 60, b 10 0 1]) ∧
    (2 ≤ u8At l 0 → firstBad (fieldsOf .profile l) l = some 0) ∧
    firstBad (fieldsOf .shed l) l = first [b 0 0 4, b 1 0 4, b 2 0 4, b 3 0 4] ∧
    firstBad (fieldsOf .rotation l) l = first [b 0 1 60, b 1 1 60, orNone 2] ∧
    firstBad (fieldsOf .band l) l =
      first [b 0 0 5, b 1 0 2, limit 6, limit 8, b 10 0 100, w 11 0 1800, b 13 0 2] ∧
    firstBad (fieldsOf .policy l) l = first [b 0 0 1, b 1 1 7, b 2 0 1] ∧
    firstBad (fieldsOf .noticeClass l) l =
      first ((List.range 24).map fun k => if k = 0 ∨ k = 23 then b k 0 0 else b k 0 2) ∧
    firstBad (fieldsOf .output l) l = first [b 0 0 2, b 1 0 5] ∧
    ([.roof, .unit, .profile, .shed, .rotation, .band, .policy, .noticeClass, .output] : List TableId).map
      (fun t => (recordSize t, recordCount t)) =
      [(44, 1), (19, 32), (11, 8), (5, 7), (3, 8), (14, 16), (3, 6), (24, 1), (2, 4)]

/-- R162, R159: a record that passes its checks, written and read back, is the bytes that were sent, and no other
record of any table changes. That a flag's bytes are 0 and 1 is the model's choice (log entry 52). -/
def Obligations.WrittenRecordReadsBackAsSent : Prop :=
  ∀ (tabs : Tables) (t : TableId) (i : Nat) (l : List Byte), i < recordCount t → l.length = recordSize t →
    firstBad (fieldsOf t l) l = none →
    recordBytes (putRecord tabs t i l) t i = l ∧
    ∀ (t' : TableId) (j : Nat), (t' ≠ t ∨ j ≠ i) → recordBytes (putRecord tabs t i l) t' j = recordBytes tabs t' j

/-- R163: the six checks of APPLY in their order, each taking records in ascending index: the ROOF record, the
fitted units' bindings, a group that FOLLOWs itself, a band whose low exceeds its high, a unit to be unfitted while
in use, and a slot to be unbound while in use. -/
def Obligations.ApplyChecksTheTablesInOrder : Prop :=
  (∀ t : Tables,
    let r := t.roof
    let roofOk := r.intervalLength % 60 = 0 ∧ r.controllerRate ≤ 4 ∧ r.trunkRate ≤ 2 ∧ r.coolLow ≤ r.coolHigh ∧
      r.heatLow ≤ r.heatHigh
    let unitOk (u : UnitIx) : Prop := t.units[u].fitted = true →
      ∀ (i : Slot) (p : Fin 8), t.units[u].bind[i] = some p → t.profiles[p].kind = (if i.val < 4 then .cool else .heat)
    let groupOk (g : Fin 8) : Prop := t.rotation[g].follow ≠ some g
    let bandOk (b : Fin 16) : Prop := t.bands[b].low ≤ t.bands[b].high
    (¬roofOk → invalidTable t = some [0, 0]) ∧
    (∀ u : UnitIx, roofOk → (∀ v < u, unitOk v) → ¬unitOk u → invalidTable t = some [1, BitVec.ofNat 8 u.val]) ∧
    (∀ g : Fin 8, roofOk → (∀ v, unitOk v) → (∀ h < g, groupOk h) → ¬groupOk g →
      invalidTable t = some [4, BitVec.ofNat 8 g.val]) ∧
    (∀ b : Fin 16, roofOk → (∀ v, unitOk v) → (∀ h, groupOk h) → (∀ c < b, bandOk c) → ¬bandOk b →
      invalidTable t = some [5, BitVec.ofNat 8 b.val]) ∧
    (roofOk → (∀ v, unitOk v) → (∀ h, groupOk h) → (∀ c, bandOk c) → invalidTable t = none)) ∧
  (∀ (old new : Tables) (p : Plant),
    let off (u : UnitIx) (i : Slot) : Prop := (p.unit u).target.has i = false ∧ (p.unit u).ack.has i = false ∧
      (p.unit u).stages[i].state ≠ .trippedLatched
    let unfits (u : UnitIx) : Prop := old.units[u].fitted = true ∧ new.units[u].fitted = false
    let mayUnfit (u : UnitIx) : Prop := (p.unit u).isolated = true ∧ ∀ i, off u i
    let unbinds (u : UnitIx) (i : Slot) : Prop := old.units[u].fitted = true ∧ new.units[u].fitted = true ∧
      old.units[u].bind[i].isSome = true ∧ new.units[u].bind[i] = none
    let mayUnbind (u : UnitIx) (i : Slot) : Prop := off u i ∧ (p.unit u).stages[i].state.isOn = false
    (∀ u : UnitIx, (∀ v < u, unfits v → mayUnfit v) → unfits u → ¬mayUnfit u → unitInUse old new p = some u) ∧
    (∀ (u : UnitIx) (i : Slot), (∀ v, unfits v → mayUnfit v) → (∀ v < u, ∀ j, unbinds v j → mayUnbind v j) →
      unbinds u i → ¬mayUnbind u i → unitInUse old new p = some u) ∧
    ((∀ v, unfits v → mayUnfit v) → (∀ v j, unbinds v j → mayUnbind v j) → unitInUse old new p = none))

/-- R160, R163, R165, R167: APPLY that passes enters APPLYING and one that fails is refused; STORE_CONFIG takes the
snapshot; RESTART is answered by a reply that carries the reset, and no job is served after it; a store ends with
the image good or bad. -/
def Obligations.ApplyStoreAndRestartAreTaken : Prop :=
  ∀ (s : State) (req : Frame) (rest : List Frame),
    let x := s.jobs.session
    let new := candidateTables s.tables x
    (InOpenSession s → JobWaits s req rest [0x36] → invalidTable new = none → unitInUse s.tables new s.plant = none →
      exec .applyTables s = .next { s with
        link := jobAnswered s.link req rest 0x01 [0x36],
        jobs := { s.jobs with session := { x with state := .applying, idleEnd := none } } }) ∧
    (∀ d, InOpenSession s → JobWaits s req rest [0x36] → invalidTable new = some d →
      RefusesJob .applyTables s req rest 0x36 0x23 d (withIdle s x)) ∧
    (∀ u, InOpenSession s → JobWaits s req rest [0x36] → invalidTable new = none →
      unitInUse s.tables new s.plant = some u →
      RefusesJob .applyTables s req rest 0x36 0x30 [BitVec.ofNat 8 (u.val + 1)] (withIdle s x)) ∧
    (JobWaits s req rest [0x40] → s.jobs.store = none →
      exec .storeConfig s = .next { s with
        link := jobAnswered s.link req rest 0x01 [0x40], jobs := { s.jobs with store := some ⟨s.tables, false⟩ } }) ∧
    (JobWaits s req rest [0x41] → s.jobs.store = none →
      exec .restart s = .next { s with
        link := { s.link with
          jobs := rest
          replies := s.link.replies ++ [⟨⟨req.addr, req.tag, req.kind ||| 0x80, 0x01, [0x41]⟩, true⟩] }
        jobs := { s.jobs with restarting := true } }) ∧
    (Calm s → s.jobs.restarting = true → ∀ c ∈ ([.identify, .readRoof, .readUnit, .readStage, .readQueue,
        .readHistory, .readErrors, .clearPeak, .readNotices, .ackNotices, .readCaptures, .discardCaptures, .clearTrip,
        .forceStage, .isolate, .restore, .drBegin, .drEnd, .openEdit, .selectTable, .seek, .writeRecord, .exchange,
        .readAt, .applyTables, .abandon, .storeConfig, .restart, .badJobCode] : List Instr), exec c s = .next s) ∧
    (∀ st, Ready s → s.jobs.store = some st →
      ∃ t, exec (.storeEnd true) s = .next t ∧ t.plant = s.plant ∧ t.link = s.link ∧ t.tables = s.tables ∧
        t.jobs = { s.jobs with
          store := none
          image := some st.snapshot
          config := if st.installedSince then s.jobs.config else .stored } ∧
        t.notices = raiseNotice s.tables s.seconds .storeDone 0 none none s.notices) ∧
    (∀ st, Ready s → s.jobs.store = some st →
      ∃ t, exec (.storeEnd false) s = .next t ∧ t.plant = s.plant ∧ t.link = s.link ∧ t.tables = s.tables ∧
        t.jobs = { s.jobs with store := none, image := none } ∧
        t.notices = raiseNotice s.tables s.seconds .storeFailed 0 none none s.notices)

/-- R43, R164: the demand sample in APPLYING installs every selected shadow at once, or, when a repeated check
fails, nothing, with the session OPEN again and the failure in the error list. R2: the controller port takes an
installed rate at once and the trunk port when no transaction is in flight, each with its frame in assembly discarded
where the rate changes. R152: the pairs of a band whose record changed are reset; its automatic causes leave without
a strike, and its latched ones stay with the condition absent; every other band's pairs stay. -/
def Obligations.SampleInstallsThePendingApply : Prop :=
  ∀ s : State, Ready s → s.jobs.session.state = .applying →
    let sel := s.jobs.session.selected
    let new := candidateTables s.tables s.jobs.session
    (unitInUse s.tables new s.plant = none →
      ∃ t, exec .demandSample s = .next t ∧ t.tables = new ∧ t.jobs.session = closedSession ∧
        t.jobs.config = .modified ∧ t.jobs.image = s.jobs.image ∧ t.jobs.errors = s.jobs.errors ∧
        t.seconds = s.seconds ∧ t.link.relay = s.link.relay ∧ t.link.jobs = s.link.jobs ∧
        t.link.transmitting = s.link.transmitting ∧
        (∀ id : TableId, id ∈ sel → ∀ k, recordBytes t.tables id k = recordBytes s.jobs.session.shadows id k) ∧
        (∀ id : TableId, id ∉ sel → ∀ k, recordBytes t.tables id k = recordBytes s.tables id k) ∧
        (TableId.roof ∉ sel → t.link.controllerRate = s.link.controllerRate ∧ t.link.trunkRate = s.link.trunkRate ∧
          t.link.controllerRx = s.link.controllerRx ∧ t.link.trunkRx = s.link.trunkRx) ∧
        (TableId.roof ∈ sel → t.link.controllerRate = new.roof.controllerRate ∧
          t.link.controllerRx =
            (if s.link.controllerRate = new.roof.controllerRate then s.link.controllerRx else .hunt) ∧
          (s.link.trunk = .free → t.link.trunkRate = new.roof.trunkRate ∧
            t.link.trunkRx = if s.link.trunkRate = new.roof.trunkRate then s.link.trunkRx else .hunt) ∧
          (s.link.trunk ≠ .free → t.link.trunkRate = s.link.trunkRate ∧ t.link.trunkRx = s.link.trunkRx)) ∧
        (∀ u : UnitIx,
          (s.tables.units[u].fitted = true → new.units[u].fitted = false →
            (t.plant.unit u).state = .absent ∧ (t.plant.unit u).causes = [] ∧ (t.plant.unit u).status = none ∧
            (t.plant.unit u).isolated = (s.plant.unit u).isolated) ∧
          (s.tables.units[u].fitted = false → new.units[u].fitted = true → (t.plant.unit u).state = .unadopted)) ∧
        ∀ (u : UnitIx) (b : Fin 16), s.tables.units[u].fitted = true → new.units[u].fitted = true →
          CausesSound (s.plant.unit u) →
          (s.tables.bands[b] = new.bands[b] → (t.plant.unit u).pairs[b] = (s.plant.unit u).pairs[b]) ∧
          (s.tables.bands[b] ≠ new.bands[b] → (t.plant.unit u).pairs[b] = ⟨.notApplicable, none⟩ ∧
            strikesOf (t.plant.unit u) .band (some b.val) = strikesOf (s.plant.unit u) .band (some b.val) ∧
            ∀ c ∈ (s.plant.unit u).causes, c.tripClass = .band → c.position = some b.val →
              (c.latched = true → { c with present := false } ∈ (t.plant.unit u).causes) ∧
              (c.latched = false → ∀ d ∈ (t.plant.unit u).causes,
                ¬(d.tripClass = .band ∧ d.position = some b.val)))) ∧
    (∀ u, unitInUse s.tables new s.plant = some u →
      ∃ t, exec .demandSample s = .next t ∧ t.tables = s.tables ∧
        t.jobs = { s.jobs with
          session := { s.jobs.session with state := .opened, idleEnd := some (s.seconds + 120) }
          errors := errorsAfter s 0x36 0x30 })

/-- R155, R160, R161, R165: the refusals of the first checks: a payload without a code, an unknown code, the
session's and the store's conditions (NO_SESSION, SESSION_OPEN, APPLY_PENDING, STORE_BUSY), no current table, a wrong
length of each job, and an argument out of its range (a unit out of 1..32, a slot index past 6, a history index past
7, a duration out of 1..480). -/
def Obligations.JobsAreRefusedByTheFirstFailingCheck : Prop :=
  ∀ (s : State) (req : Frame) (rest : List Frame) (l : List Byte), Calm s →
    let x := s.jobs.session
    (JobWaits s req rest [] → RefusesJob .badJobCode s req rest 0 0x11 [0xFF] s.jobs) ∧
    (∀ c, c ∉ jobCodes → JobWaits s req rest (c :: l) → RefusesJob .badJobCode s req rest c 0x10 [c] s.jobs) ∧
    (∀ j ∈ ([(.identify, 0x01, 1), (.readRoof, 0x02, 1), (.readUnit, 0x03, 2), (.readStage, 0x04, 3),
        (.readQueue, 0x05, 1), (.readHistory, 0x06, 2), (.readErrors, 0x07, 1), (.clearPeak, 0x10, 1),
        (.readNotices, 0x11, 1), (.ackNotices, 0x12, 2), (.readCaptures, 0x13, 1), (.discardCaptures, 0x14, 2),
        (.clearTrip, 0x20, 3), (.forceStage, 0x21, 4), (.isolate, 0x22, 2), (.restore, 0x23, 2),
        (.drBegin, 0x24, 5), (.drEnd, 0x25, 1)] : List (Instr × Byte × Nat)),
      JobWaits s req rest (j.2.1 :: l) → l.length + 1 ≠ j.2.2 →
        RefusesJob j.1 s req rest j.2.1 0x11 [0xFF] s.jobs) ∧
    (∀ j ∈ ([(.selectTable, 0x31), (.seek, 0x32), (.writeRecord, 0x33), (.exchange, 0x34), (.readAt, 0x35),
        (.applyTables, 0x36), (.abandon, 0x37)] : List (Instr × Byte)),
      JobWaits s req rest (j.2 :: l) →
        (x.state = .closed → RefusesJob j.1 s req rest j.2 0x20 [j.2] s.jobs) ∧
        (x.state = .applying → RefusesJob j.1 s req rest j.2 0x22 [j.2] s.jobs)) ∧
    (JobWaits s req rest (0x30 :: l) →
      (x.state = .opened → RefusesJob .openEdit s req rest 0x30 0x21 [0] s.jobs) ∧
      (x.state = .applying → RefusesJob .openEdit s req rest 0x30 0x22 [0x30] s.jobs) ∧
      (x.state = .closed → l ≠ [] → RefusesJob .openEdit s req rest 0x30 0x11 [0xFF] s.jobs)) ∧
    (∀ j ∈ ([(.storeConfig, 0x40), (.restart, 0x41)] : List (Instr × Byte)), JobWaits s req rest (j.2 :: l) →
      (s.jobs.store.isSome = true → RefusesJob j.1 s req rest j.2 0x31 [j.2] s.jobs) ∧
      (s.jobs.store = none → l ≠ [] → RefusesJob j.1 s req rest j.2 0x11 [0xFF] s.jobs)) ∧
    (∀ j ∈ ([(.seek, 0x32), (.writeRecord, 0x33), (.exchange, 0x34), (.readAt, 0x35)] : List (Instr × Byte)),
      JobWaits s req rest (j.2 :: l) → InOpenSession s → x.current = none →
        RefusesJob j.1 s req rest j.2 0x11 [0] (withIdle s x)) ∧
    (∀ j ∈ ([(.selectTable, 0x31, 2), (.applyTables, 0x36, 1), (.abandon, 0x37, 1)] : List (Instr × Byte × Nat)),
      JobWaits s req rest (j.2.1 :: l) → InOpenSession s → l.length + 1 ≠ j.2.2 →
        RefusesJob j.1 s req rest j.2.1 0x11 [0xFF] (withIdle s x)) ∧
    (∀ t, x.current = some t → ∀ j ∈ ([(.seek, 0x32, 2), (.writeRecord, 0x33, 1 + recordSize t),
        (.exchange, 0x34, 1 + recordSize t), (.readAt, 0x35, 1)] : List (Instr × Byte × Nat)),
      JobWaits s req rest (j.2.1 :: l) → InOpenSession s → l.length + 1 ≠ j.2.2 →
        RefusesJob j.1 s req rest j.2.1 0x11 [0xFF] (withIdle s x)) ∧
    (∀ (a b c : Byte), (a = 0 ∨ 32 < a.toNat) →
      (JobWaits s req rest [0x03, a] → RefusesJob .readUnit s req rest 0x03 0x11 [1] s.jobs) ∧
      (JobWaits s req rest [0x04, a, b] → RefusesJob .readStage s req rest 0x04 0x11 [1] s.jobs) ∧
      (JobWaits s req rest [0x20, a, b] → RefusesJob .clearTrip s req rest 0x20 0x11 [1] s.jobs) ∧
      (JobWaits s req rest [0x21, a, b, c] → RefusesJob .forceStage s req rest 0x21 0x11 [1] s.jobs) ∧
      (JobWaits s req rest [0x22, a] → RefusesJob .isolate s req rest 0x22 0x11 [1] s.jobs) ∧
      (JobWaits s req rest [0x23, a] → RefusesJob .restore s req rest 0x23 0x11 [1] s.jobs)) ∧
    (∀ (a b c d : Byte),
      (1 ≤ a.toNat → a.toNat ≤ 32 → 6 < b.toNat → JobWaits s req rest [0x04, a, b] →
        RefusesJob .readStage s req rest 0x04 0x11 [2] s.jobs) ∧
      (7 < a.toNat → JobWaits s req rest [0x06, a] → RefusesJob .readHistory s req rest 0x06 0x11 [1] s.jobs) ∧
      ((c.toNat + 256 * d.toNat = 0 ∨ 480 < c.toNat + 256 * d.toNat) → JobWaits s req rest [0x24, a, b, c, d] →
        RefusesJob .drBegin s req rest 0x24 0x11 [3] s.jobs))

/-! ## What every command keeps -/

/-- R18 to R21, R108, R121, R147, R156: no command fills the relay, job or reply queue, the capture list, the
history, the error list or the shed level beyond its bound. -/
def Obligations.PlacesAreNeverExceeded : Prop :=
  ∀ (s t : State) (c : Instr), QueuesBounded s.link → ListsBounded s → exec c s = .next t →
    QueuesBounded t.link ∧ ListsBounded t

/-- R171: a raise that finds no record of its key and 31 others held is dropped into LIST_OVERFLOW, made in the last
position or coalesced there; and every command leaves the notice list with at most 32 records, no key twice, and
LIST_OVERFLOW only in the last position. -/
def Obligations.NoticeListStaysSound : Prop :=
  (∀ (t : Tables) (now : Nat) (k : NoticeKind) (u : Nat) (i : Option Nat) (v : Option Int) (ns : List Notice),
    classOf t k ≠ .off → (∀ n ∈ ns, ¬(n.kind = k ∧ n.unit = u ∧ n.index = i)) →
    (ns.filter (·.kind ≠ .listOverflow)).length = 31 →
    ((∀ n ∈ ns, n.kind ≠ .listOverflow) →
      raiseNotice t now k u i v ns = ns ++ [⟨.listOverflow, 0, none, now, now, 1, some k.code.val⟩]) ∧
    (∀ (front : List Notice) (n : Notice), ns = front ++ [n] → n.kind = .listOverflow →
      (∀ m ∈ front, m.kind ≠ .listOverflow) →
      raiseNotice t now k u i v ns =
        front ++ [{ n with lastTime := now, count := min 255 (n.count + 1), value := some k.code.val }])) ∧
  (∀ (s t : State) (c : Instr), NoticesSound s.notices → exec c s = .next t →
    NoticesSound t.notices ∧ t.notices.length ≤ 32)

/-- R31, R81, R82, R137, R142: every command leaves the start queue in its order with one entry of a unit and
kind at most, the injection set without repetition, and each unit's causes distinct and strikes at most 7. -/
def Obligations.PlantListsStaySound : Prop :=
  ∀ (s t : State) (c : Instr), StartQueueOrdered s.plant.queue → InjectionsSound s.plant →
    (∀ u : UnitIx, CausesSound (s.plant.unit u)) → exec c s = .next t →
    StartQueueOrdered t.plant.queue ∧ InjectionsSound t.plant ∧ ∀ u : UnitIx, CausesSound (t.plant.unit u)

/-- R83, R89, R177, R178: after every command the outputs are as their records and conditions drive them, and no
admission pass is left due. That no relay is energised without supply is the model's choice (log entry 4, DESIGN
CHOICE), and so is that a due pass is made at the end of the same command (log entry 16, DEDUCED). -/
def Obligations.OutputsFollowTheirConditions : Prop :=
  ∀ (s t : State) (c : Instr), OutputsTrue s → NoPassDue s → exec c s = .next t → OutputsTrue t ∧ NoPassDue t

/-- R29, R43, R44, R46, R50, R52, R57: a unit is ABSENT exactly while it is not fitted, whatever command is carried
out, and the transaction in flight reports to fitted units alone. -/
def Obligations.AbsentExactlyWhenNotFitted : Prop :=
  ∀ (s t : State) (c : Instr), FittedNotAbsent s → ReportsToFitted s → exec c s = .next t →
    FittedNotAbsent t ∧ ReportsToFitted t

/-- The state after reset meets every invariant stated above. It is the part whose stored image was never written
(the model's choice, log entry 2). -/
def Obligations.ResetMeetsEveryInvariant : Prop :=
  let s := State.reset
  QueuesBounded s.link ∧ ListsBounded s ∧ NoticesSound s.notices ∧ StartQueueOrdered s.plant.queue ∧
  InjectionsSound s.plant ∧ (∀ u : UnitIx, CausesSound (s.plant.unit u)) ∧ OutputsTrue s ∧ NoPassDue s ∧
  FittedNotAbsent s ∧ ReportsToFitted s ∧ IntervalsBounded s ∧
  MeterSound s.tables.roof.intervalLength s.meter
end

