-- ==== Sys2Proof/Laws/State.lean ====
section
/-! SUPPORT. Each field after each named update of the state: true by definition, so that no later proof unfolds
an update. -/

namespace Sys2Proof.Machine

/-! ## withRoof -/

@[simp] theorem State.withRoof_pending (s : State) (r : Roof) : (s.withRoof r).pending = s.pending := rfl
@[simp] theorem State.withRoof_powered (s : State) (r : Roof) : (s.withRoof r).powered = s.powered := rfl
@[simp] theorem State.withRoof_draws (s : State) (r : Roof) : (s.withRoof r).draws = s.draws := rfl
@[simp] theorem State.withRoof_seconds (s : State) (r : Roof) : (s.withRoof r).seconds = s.seconds := rfl
@[simp] theorem State.withRoof_tables (s : State) (r : Roof) : (s.withRoof r).tables = s.tables := rfl
@[simp] theorem State.withRoof_meter (s : State) (r : Roof) : (s.withRoof r).meter = s.meter := rfl
@[simp] theorem State.withRoof_shed (s : State) (r : Roof) : (s.withRoof r).shed = s.shed := rfl
@[simp] theorem State.withRoof_rotation (s : State) (r : Roof) : (s.withRoof r).rotation = s.rotation := rfl
@[simp] theorem State.withRoof_plant (s : State) (r : Roof) : (s.withRoof r).plant = r.plant := rfl
@[simp] theorem State.withRoof_notices (s : State) (r : Roof) : (s.withRoof r).notices = r.notices := rfl
@[simp] theorem State.withRoof_captures (s : State) (r : Roof) : (s.withRoof r).captures = r.captures := rfl
@[simp] theorem State.withRoof_link (s : State) (r : Roof) : (s.withRoof r).link = s.link := rfl
@[simp] theorem State.withRoof_jobs (s : State) (r : Roof) : (s.withRoof r).jobs = s.jobs := rfl
@[simp] theorem State.withRoof_lines (s : State) (r : Roof) : (s.withRoof r).lines = s.lines := rfl

/-! ## onPlant -/

@[simp] theorem State.onPlant_pending (s : State) (f : Env → Plant → Plant) : (s.onPlant f).pending = s.pending := rfl
@[simp] theorem State.onPlant_powered (s : State) (f : Env → Plant → Plant) : (s.onPlant f).powered = s.powered := rfl
@[simp] theorem State.onPlant_draws (s : State) (f : Env → Plant → Plant) : (s.onPlant f).draws = s.draws := rfl
@[simp] theorem State.onPlant_seconds (s : State) (f : Env → Plant → Plant) : (s.onPlant f).seconds = s.seconds := rfl
@[simp] theorem State.onPlant_tables (s : State) (f : Env → Plant → Plant) : (s.onPlant f).tables = s.tables := rfl
@[simp] theorem State.onPlant_meter (s : State) (f : Env → Plant → Plant) : (s.onPlant f).meter = s.meter := rfl
@[simp] theorem State.onPlant_shed (s : State) (f : Env → Plant → Plant) : (s.onPlant f).shed = s.shed := rfl
@[simp] theorem State.onPlant_rotation (s : State) (f : Env → Plant → Plant) : (s.onPlant f).rotation = s.rotation := rfl
@[simp] theorem State.onPlant_plant (s : State) (f : Env → Plant → Plant) : (s.onPlant f).plant = f s.env s.plant := rfl
@[simp] theorem State.onPlant_notices (s : State) (f : Env → Plant → Plant) : (s.onPlant f).notices = s.notices := rfl
@[simp] theorem State.onPlant_captures (s : State) (f : Env → Plant → Plant) : (s.onPlant f).captures = s.captures := rfl
@[simp] theorem State.onPlant_link (s : State) (f : Env → Plant → Plant) : (s.onPlant f).link = s.link := rfl
@[simp] theorem State.onPlant_jobs (s : State) (f : Env → Plant → Plant) : (s.onPlant f).jobs = s.jobs := rfl
@[simp] theorem State.onPlant_lines (s : State) (f : Env → Plant → Plant) : (s.onPlant f).lines = s.lines := rfl

/-! ## onRoof -/

@[simp] theorem State.onRoof_pending (s : State) (f : Env → Roof → Roof) : (s.onRoof f).pending = s.pending := rfl
@[simp] theorem State.onRoof_powered (s : State) (f : Env → Roof → Roof) : (s.onRoof f).powered = s.powered := rfl
@[simp] theorem State.onRoof_draws (s : State) (f : Env → Roof → Roof) : (s.onRoof f).draws = s.draws := rfl
@[simp] theorem State.onRoof_seconds (s : State) (f : Env → Roof → Roof) : (s.onRoof f).seconds = s.seconds := rfl
@[simp] theorem State.onRoof_tables (s : State) (f : Env → Roof → Roof) : (s.onRoof f).tables = s.tables := rfl
@[simp] theorem State.onRoof_meter (s : State) (f : Env → Roof → Roof) : (s.onRoof f).meter = s.meter := rfl
@[simp] theorem State.onRoof_shed (s : State) (f : Env → Roof → Roof) : (s.onRoof f).shed = s.shed := rfl
@[simp] theorem State.onRoof_rotation (s : State) (f : Env → Roof → Roof) : (s.onRoof f).rotation = s.rotation := rfl
@[simp] theorem State.onRoof_plant (s : State) (f : Env → Roof → Roof) : (s.onRoof f).plant = (f s.env s.roof).plant := rfl
@[simp] theorem State.onRoof_notices (s : State) (f : Env → Roof → Roof) : (s.onRoof f).notices = (f s.env s.roof).notices := rfl
@[simp] theorem State.onRoof_captures (s : State) (f : Env → Roof → Roof) : (s.onRoof f).captures = (f s.env s.roof).captures := rfl
@[simp] theorem State.onRoof_link (s : State) (f : Env → Roof → Roof) : (s.onRoof f).link = s.link := rfl
@[simp] theorem State.onRoof_jobs (s : State) (f : Env → Roof → Roof) : (s.onRoof f).jobs = s.jobs := rfl
@[simp] theorem State.onRoof_lines (s : State) (f : Env → Roof → Roof) : (s.onRoof f).lines = s.lines := rfl

/-! ## onLink -/

@[simp] theorem State.onLink_pending (s : State) (f : Link → Link) : (s.onLink f).pending = s.pending := rfl
@[simp] theorem State.onLink_powered (s : State) (f : Link → Link) : (s.onLink f).powered = s.powered := rfl
@[simp] theorem State.onLink_draws (s : State) (f : Link → Link) : (s.onLink f).draws = s.draws := rfl
@[simp] theorem State.onLink_seconds (s : State) (f : Link → Link) : (s.onLink f).seconds = s.seconds := rfl
@[simp] theorem State.onLink_tables (s : State) (f : Link → Link) : (s.onLink f).tables = s.tables := rfl
@[simp] theorem State.onLink_meter (s : State) (f : Link → Link) : (s.onLink f).meter = s.meter := rfl
@[simp] theorem State.onLink_shed (s : State) (f : Link → Link) : (s.onLink f).shed = s.shed := rfl
@[simp] theorem State.onLink_rotation (s : State) (f : Link → Link) : (s.onLink f).rotation = s.rotation := rfl
@[simp] theorem State.onLink_plant (s : State) (f : Link → Link) : (s.onLink f).plant = s.plant := rfl
@[simp] theorem State.onLink_notices (s : State) (f : Link → Link) : (s.onLink f).notices = s.notices := rfl
@[simp] theorem State.onLink_captures (s : State) (f : Link → Link) : (s.onLink f).captures = s.captures := rfl
@[simp] theorem State.onLink_link (s : State) (f : Link → Link) : (s.onLink f).link = f s.link := rfl
@[simp] theorem State.onLink_jobs (s : State) (f : Link → Link) : (s.onLink f).jobs = s.jobs := rfl
@[simp] theorem State.onLink_lines (s : State) (f : Link → Link) : (s.onLink f).lines = s.lines := rfl

/-! ## withSession -/

@[simp] theorem State.withSession_pending (s : State) (x : Session) : (s.withSession x).pending = s.pending := rfl
@[simp] theorem State.withSession_powered (s : State) (x : Session) : (s.withSession x).powered = s.powered := rfl
@[simp] theorem State.withSession_draws (s : State) (x : Session) : (s.withSession x).draws = s.draws := rfl
@[simp] theorem State.withSession_seconds (s : State) (x : Session) : (s.withSession x).seconds = s.seconds := rfl
@[simp] theorem State.withSession_tables (s : State) (x : Session) : (s.withSession x).tables = s.tables := rfl
@[simp] theorem State.withSession_meter (s : State) (x : Session) : (s.withSession x).meter = s.meter := rfl
@[simp] theorem State.withSession_shed (s : State) (x : Session) : (s.withSession x).shed = s.shed := rfl
@[simp] theorem State.withSession_rotation (s : State) (x : Session) : (s.withSession x).rotation = s.rotation := rfl
@[simp] theorem State.withSession_plant (s : State) (x : Session) : (s.withSession x).plant = s.plant := rfl
@[simp] theorem State.withSession_notices (s : State) (x : Session) : (s.withSession x).notices = s.notices := rfl
@[simp] theorem State.withSession_captures (s : State) (x : Session) : (s.withSession x).captures = s.captures := rfl
@[simp] theorem State.withSession_link (s : State) (x : Session) : (s.withSession x).link = s.link := rfl
@[simp] theorem State.withSession_jobs (s : State) (x : Session) : (s.withSession x).jobs = { s.jobs with session := x } := rfl
@[simp] theorem State.withSession_lines (s : State) (x : Session) : (s.withSession x).lines = s.lines := rfl

/-! ## raise -/

@[simp] theorem State.raise_pending (s : State) (k : NoticeKind) (u : Nat) (i : Option Nat) (v : Option Int) :
    (s.raise k u i v).pending = s.pending := rfl
@[simp] theorem State.raise_powered (s : State) (k : NoticeKind) (u : Nat) (i : Option Nat) (v : Option Int) :
    (s.raise k u i v).powered = s.powered := rfl
@[simp] theorem State.raise_draws (s : State) (k : NoticeKind) (u : Nat) (i : Option Nat) (v : Option Int) :
    (s.raise k u i v).draws = s.draws := rfl
@[simp] theorem State.raise_seconds (s : State) (k : NoticeKind) (u : Nat) (i : Option Nat) (v : Option Int) :
    (s.raise k u i v).seconds = s.seconds := rfl
@[simp] theorem State.raise_tables (s : State) (k : NoticeKind) (u : Nat) (i : Option Nat) (v : Option Int) :
    (s.raise k u i v).tables = s.tables := rfl
@[simp] theorem State.raise_meter (s : State) (k : NoticeKind) (u : Nat) (i : Option Nat) (v : Option Int) :
    (s.raise k u i v).meter = s.meter := rfl
@[simp] theorem State.raise_shed (s : State) (k : NoticeKind) (u : Nat) (i : Option Nat) (v : Option Int) :
    (s.raise k u i v).shed = s.shed := rfl
@[simp] theorem State.raise_rotation (s : State) (k : NoticeKind) (u : Nat) (i : Option Nat) (v : Option Int) :
    (s.raise k u i v).rotation = s.rotation := rfl
@[simp] theorem State.raise_plant (s : State) (k : NoticeKind) (u : Nat) (i : Option Nat) (v : Option Int) :
    (s.raise k u i v).plant = s.plant := rfl
@[simp] theorem State.raise_notices (s : State) (k : NoticeKind) (u : Nat) (i : Option Nat) (v : Option Int) :
    (s.raise k u i v).notices = raiseNotice s.tables s.seconds k u i v s.notices := rfl
@[simp] theorem State.raise_captures (s : State) (k : NoticeKind) (u : Nat) (i : Option Nat) (v : Option Int) :
    (s.raise k u i v).captures = s.captures := rfl
@[simp] theorem State.raise_link (s : State) (k : NoticeKind) (u : Nat) (i : Option Nat) (v : Option Int) :
    (s.raise k u i v).link = s.link := rfl
@[simp] theorem State.raise_jobs (s : State) (k : NoticeKind) (u : Nat) (i : Option Nat) (v : Option Int) :
    (s.raise k u i v).jobs = s.jobs := rfl
@[simp] theorem State.raise_lines (s : State) (k : NoticeKind) (u : Nat) (i : Option Nat) (v : Option Int) :
    (s.raise k u i v).lines = s.lines := rfl

/-! ## driveOutputs and deriveCeiling -/

@[simp] theorem driveOutputs_pending (s : State) : (driveOutputs s).pending = s.pending := rfl
@[simp] theorem driveOutputs_powered (s : State) : (driveOutputs s).powered = s.powered := rfl
@[simp] theorem driveOutputs_draws (s : State) : (driveOutputs s).draws = s.draws := rfl
@[simp] theorem driveOutputs_seconds (s : State) : (driveOutputs s).seconds = s.seconds := rfl
@[simp] theorem driveOutputs_tables (s : State) : (driveOutputs s).tables = s.tables := rfl
@[simp] theorem driveOutputs_meter (s : State) : (driveOutputs s).meter = s.meter := rfl
@[simp] theorem driveOutputs_shed (s : State) : (driveOutputs s).shed = s.shed := rfl
@[simp] theorem driveOutputs_rotation (s : State) : (driveOutputs s).rotation = s.rotation := rfl
@[simp] theorem driveOutputs_plant (s : State) : (driveOutputs s).plant = s.plant := rfl
@[simp] theorem driveOutputs_notices (s : State) : (driveOutputs s).notices = s.notices := rfl
@[simp] theorem driveOutputs_captures (s : State) : (driveOutputs s).captures = s.captures := rfl
@[simp] theorem driveOutputs_link (s : State) : (driveOutputs s).link = s.link := rfl
@[simp] theorem driveOutputs_jobs (s : State) : (driveOutputs s).jobs = s.jobs := rfl
@[simp] theorem driveOutputs_intervalSync (s : State) : (driveOutputs s).lines.intervalSync = s.lines.intervalSync := rfl
@[simp] theorem driveOutputs_drContact (s : State) : (driveOutputs s).lines.drContact = s.lines.drContact := rfl
@[simp] theorem driveOutputs_roofShutdown (s : State) : (driveOutputs s).lines.roofShutdown = s.lines.roofShutdown := rfl
@[simp] theorem driveOutputs_syncMissing (s : State) : (driveOutputs s).lines.syncMissing = s.lines.syncMissing := rfl
@[simp] theorem driveOutputs_outputs (s : State) : (driveOutputs s).lines.outputs =
    drivenOutputs s.tables s.shed s.plant s.notices s.lines.syncMissing := rfl
@[simp] theorem deriveCeiling_pending (s : State) : (deriveCeiling s).pending = s.pending := rfl
@[simp] theorem deriveCeiling_powered (s : State) : (deriveCeiling s).powered = s.powered := rfl
@[simp] theorem deriveCeiling_draws (s : State) : (deriveCeiling s).draws = s.draws := rfl
@[simp] theorem deriveCeiling_seconds (s : State) : (deriveCeiling s).seconds = s.seconds := rfl
@[simp] theorem deriveCeiling_tables (s : State) : (deriveCeiling s).tables = s.tables := rfl
@[simp] theorem deriveCeiling_meter (s : State) : (deriveCeiling s).meter = s.meter := rfl
@[simp] theorem deriveCeiling_shed (s : State) : (deriveCeiling s).shed = { s.shed with ceiling := ceilingOf s.tables.roof s.shed } := rfl
@[simp] theorem deriveCeiling_rotation (s : State) : (deriveCeiling s).rotation = s.rotation := rfl
@[simp] theorem deriveCeiling_plant (s : State) : (deriveCeiling s).plant = s.plant := rfl
@[simp] theorem deriveCeiling_notices (s : State) : (deriveCeiling s).notices = s.notices := rfl
@[simp] theorem deriveCeiling_captures (s : State) : (deriveCeiling s).captures = s.captures := rfl
@[simp] theorem deriveCeiling_link (s : State) : (deriveCeiling s).link = s.link := rfl
@[simp] theorem deriveCeiling_jobs (s : State) : (deriveCeiling s).jobs = s.jobs := rfl
@[simp] theorem deriveCeiling_lines (s : State) : (deriveCeiling s).lines = s.lines := rfl

/-! ## logError -/

@[simp] theorem logError_pending (j e : Byte) (s : State) : (logError j e s).pending = s.pending := rfl
@[simp] theorem logError_powered (j e : Byte) (s : State) : (logError j e s).powered = s.powered := rfl
@[simp] theorem logError_draws (j e : Byte) (s : State) : (logError j e s).draws = s.draws := rfl
@[simp] theorem logError_seconds (j e : Byte) (s : State) : (logError j e s).seconds = s.seconds := rfl
@[simp] theorem logError_tables (j e : Byte) (s : State) : (logError j e s).tables = s.tables := rfl
@[simp] theorem logError_meter (j e : Byte) (s : State) : (logError j e s).meter = s.meter := rfl
@[simp] theorem logError_shed (j e : Byte) (s : State) : (logError j e s).shed = s.shed := rfl
@[simp] theorem logError_rotation (j e : Byte) (s : State) : (logError j e s).rotation = s.rotation := rfl
@[simp] theorem logError_plant (j e : Byte) (s : State) : (logError j e s).plant = s.plant := rfl
@[simp] theorem logError_notices (j e : Byte) (s : State) : (logError j e s).notices = s.notices := rfl
@[simp] theorem logError_captures (j e : Byte) (s : State) : (logError j e s).captures = s.captures := rfl
@[simp] theorem logError_link (j e : Byte) (s : State) : (logError j e s).link = s.link := rfl
@[simp] theorem logError_lines (j e : Byte) (s : State) : (logError j e s).lines = s.lines := rfl
@[simp] theorem logError_jobs_session (j e : Byte) (s : State) : (logError j e s).jobs.session = s.jobs.session := rfl
@[simp] theorem logError_jobs_store (j e : Byte) (s : State) : (logError j e s).jobs.store = s.jobs.store := rfl
@[simp] theorem logError_jobs_image (j e : Byte) (s : State) : (logError j e s).jobs.image = s.jobs.image := rfl
@[simp] theorem logError_jobs_config (j e : Byte) (s : State) : (logError j e s).jobs.config = s.jobs.config := rfl
@[simp] theorem logError_jobs_restarting (j e : Byte) (s : State) : (logError j e s).jobs.restarting = s.jobs.restarting := rfl

/-! ## Views -/

@[simp] theorem State.env_now (s : State) : s.env.now = s.seconds := rfl
@[simp] theorem State.env_tables (s : State) : s.env.tables = s.tables := rfl
@[simp] theorem State.env_meter (s : State) : s.env.meter = s.meter := rfl
@[simp] theorem State.env_shed (s : State) : s.env.shed = s.shed := rfl
@[simp] theorem State.env_rotation (s : State) : s.env.rotation = s.rotation := rfl
@[simp] theorem State.roof_plant (s : State) : s.roof.plant = s.plant := rfl
@[simp] theorem State.roof_notices (s : State) : s.roof.notices = s.notices := rfl
@[simp] theorem State.roof_captures (s : State) : s.roof.captures = s.captures := rfl

/-! ## The plant and the roof -/

@[simp] theorem Plant.modUnit_queue (p : Plant) (u : UnitIx) (f : UnitRec → UnitRec) :
    (p.modUnit u f).queue = p.queue := rfl
@[simp] theorem Plant.modUnit_sequence (p : Plant) (u : UnitIx) (f : UnitRec → UnitRec) :
    (p.modUnit u f).sequence = p.sequence := rfl
@[simp] theorem Plant.modUnit_passDue (p : Plant) (u : UnitIx) (f : UnitRec → UnitRec) :
    (p.modUnit u f).passDue = p.passDue := rfl
@[simp] theorem Plant.modUnit_staggerEnd (p : Plant) (u : UnitIx) (f : UnitRec → UnitRec) :
    (p.modUnit u f).staggerEnd = p.staggerEnd := rfl
@[simp] theorem Plant.modUnit_grantSum (p : Plant) (u : UnitIx) (f : UnitRec → UnitRec) :
    (p.modUnit u f).grantSum = p.grantSum := rfl
@[simp] theorem Plant.modUnit_injections (p : Plant) (u : UnitIx) (f : UnitRec → UnitRec) :
    (p.modUnit u f).injections = p.injections := rfl
@[simp] theorem Plant.modUnit_protection (p : Plant) (u : UnitIx) (f : UnitRec → UnitRec) :
    (p.modUnit u f).protection = p.protection := rfl
@[simp] theorem Plant.inject_units (p : Plant) (u : UnitIx) (b : Bool) : (p.inject u b).units = p.units := rfl
@[simp] theorem Plant.inject_queue (p : Plant) (u : UnitIx) (b : Bool) : (p.inject u b).queue = p.queue := rfl
@[simp] theorem Plant.dropInjection_units (p : Plant) (u : UnitIx) : (p.dropInjection u).units = p.units := rfl
@[simp] theorem Plant.dropInjection_queue (p : Plant) (u : UnitIx) : (p.dropInjection u).queue = p.queue := rfl
@[simp] theorem Plant.dropEntry_units (p : Plant) (u : UnitIx) (k : Kind) : (p.dropEntry u k).units = p.units := rfl
@[simp] theorem Plant.join_units (p : Plant) (e : Env) (u : UnitIx) (k : Kind) : (p.join e u k).units = p.units := rfl
@[simp] theorem Roof.raise_plant (r : Roof) (e : Env) (k : NoticeKind) (u : Nat) (i : Option Nat) (v : Option Int) :
    (r.raise e k u i v).plant = r.plant := rfl
@[simp] theorem Roof.raise_captures (r : Roof) (e : Env) (k : NoticeKind) (u : Nat) (i : Option Nat)
    (v : Option Int) : (r.raise e k u i v).captures = r.captures := rfl
@[simp] theorem Roof.raise_notices (r : Roof) (e : Env) (k : NoticeKind) (u : Nat) (i : Option Nat) (v : Option Int) :
    (r.raise e k u i v).notices = raiseNotice e.tables e.now k u i v r.notices := rfl

@[simp] theorem Roof.onPlant_plant (r : Roof) (f : Plant → Plant) : (r.onPlant f).plant = f r.plant := rfl
@[simp] theorem Roof.onPlant_notices (r : Roof) (f : Plant → Plant) : (r.onPlant f).notices = r.notices := rfl
@[simp] theorem Roof.onPlant_captures (r : Roof) (f : Plant → Plant) : (r.onPlant f).captures = r.captures := rfl

/-! ## Unit records -/

@[simp] theorem UnitRec.mapStages_state (r : UnitRec) (f : Slot → Stage → Stage) :
    (r.mapStages f).state = r.state := rfl
@[simp] theorem UnitRec.mapStages_causes (r : UnitRec) (f : Slot → Stage → Stage) :
    (r.mapStages f).causes = r.causes := rfl
@[simp] theorem UnitRec.mapStages_target (r : UnitRec) (f : Slot → Stage → Stage) :
    (r.mapStages f).target = r.target := rfl
@[simp] theorem UnitRec.mapStages_ack (r : UnitRec) (f : Slot → Stage → Stage) : (r.mapStages f).ack = r.ack := rfl
@[simp] theorem UnitRec.mapStages_call (r : UnitRec) (f : Slot → Stage → Stage) :
    (r.mapStages f).call = r.call := rfl
@[simp] theorem UnitRec.mapStages_lead (r : UnitRec) (f : Slot → Stage → Stage) :
    (r.mapStages f).lead = r.lead := rfl
@[simp] theorem UnitRec.mapStages_isolated (r : UnitRec) (f : Slot → Stage → Stage) :
    (r.mapStages f).isolated = r.isolated := rfl
@[simp] theorem UnitRec.mapStages_status (r : UnitRec) (f : Slot → Stage → Stage) :
    (r.mapStages f).status = r.status := rfl

end Sys2Proof.Machine
end

