-- ==== Sys2Proof/Laws/Ops.lean ====
section
/-! SUPPORT. One lemma for each shared operation, saying once what it can do. -/

namespace Sys2Proof.Machine

/-! ## Tables of fixed length -/

/-- Entry `i` of a built table is `f i`. -/
@[simp] theorem tabulate_getElem {α : Type} {n : Nat} (f : Fin n → α) (i : Nat) (h : i < n) :
    (tabulate f)[i] = f ⟨i, h⟩ := by
  simp [tabulate]

/-! ## Unit records -/

/-- The unit changed has the changed record. -/
@[simp] theorem Plant.unit_modUnit_self (p : Plant) (u : UnitIx) (f : UnitRec → UnitRec) :
    (p.modUnit u f).unit u = f (p.unit u) := by
  simp [Plant.unit, Plant.modUnit]

/-- Every other unit keeps its record. -/
theorem Plant.unit_modUnit_other (p : Plant) (u v : UnitIx) (f : UnitRec → UnitRec) (h : v ≠ u) :
    (p.modUnit u f).unit v = p.unit v := by
  have h' : u.val ≠ v.val := fun e => h (Fin.ext e.symm)
  simp [Plant.unit, Plant.modUnit, h']

/-- A stage after every stage was changed. -/
@[simp] theorem UnitRec.mapStages_stages (r : UnitRec) (f : Slot → Stage → Stage) (i : Slot) :
    (r.mapStages f).stages[i] = f i r.stages[i] := by
  simp [UnitRec.mapStages]

/-! ## Injections (R31) -/

/-- The unit has a pending injection after one was asked for. -/
theorem Plant.mem_inject (p : Plant) (u : UnitIx) (b : Bool) : u ∈ (p.inject u b).injections := by
  unfold Plant.inject
  by_cases h : u ∈ p.injections <;> simp [h]

/-- A removed injection is in neither order. -/
theorem Plant.not_mem_dropInjection (p : Plant) (u : UnitIx) :
    u ∉ (p.dropInjection u).injections ∧ u ∉ (p.dropInjection u).protection := by
  simp [Plant.dropInjection]

/-! ## The start queue (R82) -/

/-- An entry put at its place adds that entry and no other. -/
theorem insertEntry_perm (n : Entry) (q : List Entry) : (insertEntry n q).Perm (n :: q) := by
  induction q with
  | nil => exact List.Perm.refl _
  | cons m rest ih =>
    unfold insertEntry
    split
    · exact List.Perm.refl _
    · exact (ih.cons m).trans (List.Perm.swap n m rest)

/-- Ordering the queue loses and adds no entry. -/
theorem orderQueue_perm (q : List Entry) : (orderQueue q).Perm q := by
  induction q with
  | nil => exact List.Perm.refl _
  | cons n rest ih => exact (insertEntry_perm n _).trans (ih.cons n)

/-! ## The ends of a command -/

/-- A command under `whilePowered` answers `f s` while supplied and changes nothing otherwise. -/
theorem whilePowered_next (s : State) (f : State → State) :
    whilePowered s f = .next (if s.powered then f s else s) := by
  unfold whilePowered
  split <;> rfl

/-- A command on the roof answers its concluded effect while supplied and changes nothing otherwise. -/
theorem roofCommand_next (s : State) (f : State → State) :
    roofCommand s f = .next (if s.powered then conclude (f s) else s) := by
  unfold roofCommand
  exact whilePowered_next s _

/-! ### The roof's operations and the capture list -/

/-- The lead/lag check changes the plant and the notices alone. -/
@[simp] theorem leadCheck_captures (e : Env) (u : UnitIx) (r : Roof) : (leadCheck e u r).captures = r.captures := by
  unfold leadCheck
  split <;> rfl

/-- A move, with the lead/lag check it may bring, makes no capture. -/
@[simp] theorem moveUnit_captures (e : Env) (u : UnitIx) (f : Plant → Plant) (r : Roof) :
    (moveUnit e u f r).captures = r.captures := by
  unfold moveUnit
  split <;> simp

/-- A move changes its own plant, and where the lead/lag condition becomes true the lead order of the unit. -/
theorem moveUnit_plant (e : Env) (u : UnitIx) (f : Plant → Plant) (r : Roof) :
    (moveUnit e u f r).plant = f r.plant ∨
      ∃ order, (moveUnit e u f r).plant = (f r.plant).modUnit u fun x => { x with lead := order } := by
  unfold moveUnit leadCheck
  split
  · split
    · exact .inl rfl
    · exact .inr ⟨_, rfl⟩
  · exact .inl rfl

@[simp] theorem examineUnit_captures (e : Env) (u : UnitIx) (r : Roof) : (examineUnit e u r).captures = r.captures :=
  moveUnit_captures ..

/-- A settlement makes no capture. -/
@[simp] theorem settle_captures (e : Env) (u : UnitIx) (r : Roof) : (settle e u r).captures = r.captures := by
  unfold settle
  split <;> simp

@[simp] theorem grantSlot_captures (e : Env) (u : UnitIx) (i : Slot) (pr : Profile) (r : Roof) :
    (grantSlot e u i pr r).captures = r.captures := by
  simp [grantSlot, startSlot]

@[simp] theorem grantEntry_captures (e : Env) (n : Entry) (r : Roof) : (grantEntry e n r).captures = r.captures := by
  unfold grantEntry
  split
  · rfl
  · split <;> simp

/-- An admission pass makes no capture. -/
@[simp] theorem admissionPass_captures (e : Env) (r : Roof) : (admissionPass e r).captures = r.captures := by
  unfold admissionPass
  split
  · simp
  · dsimp only
    split <;> simp

@[simp] theorem runPasses_captures (e : Env) (n : Nat) (r : Roof) : (runPasses e n r).captures = r.captures := by
  induction n generalizing r with
  | zero => rfl
  | succ n ih =>
    unfold runPasses
    split
    · rw [ih]; simp
    · rfl

/-- The pass after a join leaves everything but the plant and the notices. -/
theorem passAfterJoin_frame (s : State) :
    (passAfterJoin s).captures = s.captures ∧
    passAfterJoin s = { s with plant := (passAfterJoin s).plant, notices := (passAfterJoin s).notices } := by
  unfold passAfterJoin
  split
  · have h : (runDuePass s.env s.roof).captures = s.captures := by simp [runDuePass]
    refine ⟨h, ?_⟩
    simp only [State.onRoof, State.withRoof, h]
  · exact ⟨rfl, rfl⟩

/-- The end of a roof command leaves everything but the plant, the notices and the output relays. -/
theorem conclude_frame (s : State) :
    (conclude s).pending = s.pending ∧ (conclude s).powered = s.powered ∧ (conclude s).draws = s.draws ∧
    (conclude s).seconds = s.seconds ∧ (conclude s).tables = s.tables ∧ (conclude s).meter = s.meter ∧
    (conclude s).shed = s.shed ∧ (conclude s).rotation = s.rotation ∧ (conclude s).captures = s.captures ∧
    (conclude s).link = s.link ∧ (conclude s).jobs = s.jobs ∧
    (conclude s).lines = { s.lines with outputs := (conclude s).lines.outputs } := by
  unfold conclude
  rw [(passAfterJoin_frame s).2]
  exact ⟨rfl, rfl, rfl, rfl, rfl, rfl, rfl, rfl, rfl, rfl, rfl, rfl⟩

/-- With no pass due the end of a roof command drives the output relays and nothing else. -/
theorem conclude_no_pass (s : State) (h : s.plant.passDue = false) : conclude s = driveOutputs s := by
  simp [conclude, passAfterJoin, h]

/-- The output relays after a roof command are as their records and conditions drive them. -/
theorem conclude_outputs (s : State) :
    (conclude s).lines.outputs = drivenOutputs (conclude s).tables (conclude s).shed (conclude s).plant
      (conclude s).notices (conclude s).lines.syncMissing := rfl

/-! ## Notices (R170, R171) -/

/-- A raise of an OFF kind changes nothing in the list. -/
theorem raiseNotice_off (t : Tables) (now : Nat) (k : NoticeKind) (u : Nat) (i : Option Nat) (v : Option Int)
    (ns : List Notice) (h : classOf t k = .off) : raiseNotice t now k u i v ns = ns := by
  simp [raiseNotice, h]

/-- A raise whose key is held changes that record alone and keeps the list's length. -/
theorem raiseNotice_held_length (t : Tables) (now : Nat) (k : NoticeKind) (u : Nat) (i : Option Nat) (v : Option Int)
    (ns : List Notice) (h : ns.any (·.hasKey k u i) = true) : (raiseNotice t now k u i v ns).length = ns.length := by
  unfold raiseNotice
  split
  · rfl
  · simp only [List.length_map]

/-- A record placed adds that record and no other. -/
theorem placeNotice_perm (n : Notice) (ns : List Notice) : (placeNotice n ns).Perm (n :: ns) := by
  induction ns with
  | nil => exact List.Perm.refl _
  | cons m rest ih =>
    unfold placeNotice
    split
    · exact List.Perm.refl _
    · exact (ih.cons m).trans (List.Perm.swap n m rest)

/-! ## Captures (R147) -/

/-- A capture made joins at the back; the list keeps at most 16. -/
theorem addCapture_length (e : Env) (c : Capture) (r : Roof) (h : r.captures.length ≤ 16) :
    (r.addCapture e c).captures.length ≤ 16 := by
  unfold Roof.addCapture
  split
  · rename_i hl
    simp only [Config.capturePlaces] at hl
    simp; omega
  · split
    · simp
    · rename_i hc
      rw [hc] at h
      simpa using h

/-! ## Jobs (R155) -/

/-- The head job is served: the verdict's answer under the command's own code. -/
theorem serveWith_waiting (before : State → State) (restart : Bool) (code : Byte)
    (body : List Byte → State → Verdict) (s : State) (req : Frame) (rest : List Frame) (p : List Byte)
    (h : s.link.jobs = req :: rest) (hr : s.jobs.restarting = false) (hp : req.payload = code :: p) :
    serveWith before restart code body s =
      finishJob restart req code (before s) (body (code :: p) (before s)) := by
  unfold serveWith
  simp [h, hr, hp]

/-- A job with another code, or after a RESTART was accepted, is left as it waits. -/
theorem serveWith_other (before : State → State) (restart : Bool) (code : Byte)
    (body : List Byte → State → Verdict) (s : State) (req : Frame) (rest : List Frame)
    (h : s.link.jobs = req :: rest) (hc : s.jobs.restarting = true ∨ req.payload.head? ≠ some code) :
    serveWith before restart code body s = s := by
  unfold serveWith
  simp only [h]
  rw [if_pos hc]

end Sys2Proof.Machine
end

