-- ==== Sys2Proof/Laws/PerInstr.lean ====
section
/-! SUPPORT. The family WellFormed: what well-formedness asks of each command (R3). -/

namespace Sys2Proof.Laws.WellFormed

/-- A command is well formed exactly when no frame it brings has a payload longer than 48 bytes. -/
def Statement (i : Instr) : Prop :=
  i.wellFormed = true ↔
    ∀ f : Frame, (i = .controllerFrameReceived f ∨ i = .trunkFrameReceived f) → f.payload.length ≤ 48

/-- A command that brings no frame is always well formed. -/
theorem of_no_frame {i : Instr} (h : i.wellFormed = true) (hc : ∀ f, i ≠ .controllerFrameReceived f)
    (ht : ∀ f, i ≠ .trunkFrameReceived f) : Statement i :=
  ⟨fun _ f hf => hf.elim (fun e => absurd e (hc f)) (fun e => absurd e (ht f)), fun _ => h⟩

/-- A command that brings a frame is well formed when the frame is. -/
theorem of_frame {i : Instr} {g : Frame} (h : i.wellFormed = g.wellFormed)
    (hg : ∀ f, (i = .controllerFrameReceived f ∨ i = .trunkFrameReceived f) ↔ f = g) : Statement i :=
  ⟨fun w f hf => by
      rw [(hg f).1 hf]
      exact of_decide_eq_true (h.symm.trans w),
   fun w => by
      rw [h]
      exact decide_eq_true (w g ((hg g).2 rfl))⟩

theorem powerUp : Statement (.powerUp) := of_no_frame rfl nofun nofun
theorem resetLine : Statement (.resetLine) := of_no_frame rfl nofun nofun
theorem controllerFrameReceived (f : Frame) : Statement (.controllerFrameReceived f) :=
  of_frame rfl fun g => ⟨fun h => h.elim (fun e => by cases e; rfl) nofun, fun h => .inl (h ▸ rfl)⟩
theorem gapTimeout (p : Port) : Statement (.gapTimeout p) := of_no_frame rfl nofun nofun
theorem lineBreak (p : Port) : Statement (.lineBreak p) := of_no_frame rfl nofun nofun
theorem replyTransmitStart : Statement (.replyTransmitStart) := of_no_frame rfl nofun nofun
theorem replyTransmitEnd : Statement (.replyTransmitEnd) := of_no_frame rfl nofun nofun
theorem trunkArbitration : Statement (.trunkArbitration) := of_no_frame rfl nofun nofun
theorem turnaroundEnd : Statement (.turnaroundEnd) := of_no_frame rfl nofun nofun
theorem attemptSent : Statement (.attemptSent) := of_no_frame rfl nofun nofun
theorem trunkFrameReceived (f : Frame) : Statement (.trunkFrameReceived f) :=
  of_frame rfl fun g => ⟨fun h => h.elim nofun (fun e => by cases e; rfl), fun h => .inr (h ▸ rfl)⟩
theorem replyTimeout : Statement (.replyTimeout) := of_no_frame rfl nofun nofun
theorem secondsTick : Statement (.secondsTick) := of_no_frame rfl nofun nofun
theorem offWindowsElapsed (u : UnitIx) (i : Slot) : Statement (.offWindowsElapsed u i) := of_no_frame rfl nofun nofun
theorem minimumOnEnd (u : UnitIx) (i : Slot) : Statement (.minimumOnEnd u i) := of_no_frame rfl nofun nofun
theorem blankingWindowEnd (u : UnitIx) : Statement (.blankingWindowEnd u) := of_no_frame rfl nofun nofun
theorem entryAging : Statement (.entryAging) := of_no_frame rfl nofun nofun
theorem admissionPass : Statement (.admissionPass) := of_no_frame rfl nofun nofun
theorem staggerTimerEnd : Statement (.staggerTimerEnd) := of_no_frame rfl nofun nofun
theorem demandSample : Statement (.demandSample) := of_no_frame rfl nofun nofun
theorem shedReaction : Statement (.shedReaction) := of_no_frame rfl nofun nofun
theorem stepTimerEnd : Statement (.stepTimerEnd) := of_no_frame rfl nofun nofun
theorem restoreHoldEnd : Statement (.restoreHoldEnd) := of_no_frame rfl nofun nofun
theorem drEventExpiry : Statement (.drEventExpiry) := of_no_frame rfl nofun nofun
theorem inputLineChange (l : InputLine) (closed : Bool) : Statement (.inputLineChange l closed) := of_no_frame rfl nofun nofun
theorem debounceExpiry (l : InputLine) : Statement (.debounceExpiry l) := of_no_frame rfl nofun nofun
theorem identify : Statement (.identify) := of_no_frame rfl nofun nofun
theorem readRoof : Statement (.readRoof) := of_no_frame rfl nofun nofun
theorem readUnit : Statement (.readUnit) := of_no_frame rfl nofun nofun
theorem readStage : Statement (.readStage) := of_no_frame rfl nofun nofun
theorem readQueue : Statement (.readQueue) := of_no_frame rfl nofun nofun
theorem readHistory : Statement (.readHistory) := of_no_frame rfl nofun nofun
theorem readErrors : Statement (.readErrors) := of_no_frame rfl nofun nofun
theorem clearPeak : Statement (.clearPeak) := of_no_frame rfl nofun nofun
theorem readNotices : Statement (.readNotices) := of_no_frame rfl nofun nofun
theorem ackNotices : Statement (.ackNotices) := of_no_frame rfl nofun nofun
theorem readCaptures : Statement (.readCaptures) := of_no_frame rfl nofun nofun
theorem discardCaptures : Statement (.discardCaptures) := of_no_frame rfl nofun nofun
theorem clearTrip : Statement (.clearTrip) := of_no_frame rfl nofun nofun
theorem forceStage : Statement (.forceStage) := of_no_frame rfl nofun nofun
theorem isolate : Statement (.isolate) := of_no_frame rfl nofun nofun
theorem restore : Statement (.restore) := of_no_frame rfl nofun nofun
theorem drBegin : Statement (.drBegin) := of_no_frame rfl nofun nofun
theorem drEnd : Statement (.drEnd) := of_no_frame rfl nofun nofun
theorem openEdit : Statement (.openEdit) := of_no_frame rfl nofun nofun
theorem selectTable : Statement (.selectTable) := of_no_frame rfl nofun nofun
theorem seek : Statement (.seek) := of_no_frame rfl nofun nofun
theorem writeRecord : Statement (.writeRecord) := of_no_frame rfl nofun nofun
theorem exchange : Statement (.exchange) := of_no_frame rfl nofun nofun
theorem readAt : Statement (.readAt) := of_no_frame rfl nofun nofun
theorem applyTables : Statement (.applyTables) := of_no_frame rfl nofun nofun
theorem abandon : Statement (.abandon) := of_no_frame rfl nofun nofun
theorem storeConfig : Statement (.storeConfig) := of_no_frame rfl nofun nofun
theorem restart : Statement (.restart) := of_no_frame rfl nofun nofun
theorem sessionIdleExpiry : Statement (.sessionIdleExpiry) := of_no_frame rfl nofun nofun
theorem storeEnd (readBackEqual : Bool) : Statement (.storeEnd readBackEqual) := of_no_frame rfl nofun nofun
theorem characterReceived (p : Port) (c : LinkChar) : Statement (.characterReceived p c) := of_no_frame rfl nofun nofun
theorem powerLoss : Statement (.powerLoss) := of_no_frame rfl nofun nofun
theorem badJobCode : Statement (.badJobCode) := of_no_frame rfl nofun nofun

end Sys2Proof.Laws.WellFormed
end

