-- ==== Sys2Proof/Tests/Slice0.lean ====
section
/-! SUPPORT. The sitting's own tests: the ill-formed commands refused, single steps against the manual's worked
cases, and for each statement of the certificate a concrete state and operands that meet its hypotheses. -/

namespace Sys2Proof.Tests

set_option Elab.async false

open Sys2Proof Sys2Proof.Machine

/-! ## A small roof -/

/-- Factory tables with unit 1 fitted: C1 and C2 on profile 0 (95 dkW, inrush), H1 on profile 4, group 0. -/
def demoTables : Tables :=
  { factoryTables with
    units := factoryTables.units.set 0
      ⟨true, 1, 22, 5000, #v[some 0, some 0, none, none, some 4, none, none], some 0, true, 0, 0, 0, 0⟩
    profiles := factoryTables.profiles.set 0 ⟨.cool, 95, 180, 300, 600, 10, true⟩ }

/-- The supervisor right after a reset that loaded `demoTables`. -/
def demo : State := { State.reset with tables := demoTables, plant := freshPlant demoTables }

/-- The state with unit 1's record changed. -/
def unit1 (f : UnitRec → UnitRec) (s : State) : State := { s with plant := s.plant.modUnit 0 f }

/-- `demo` with unit 1 ONLINE. -/
def online : State := unit1 (fun r => { r with state := .online }) demo

/-- `online` with one stage of unit 1 changed. -/
def stage1 (i : Slot) (f : Stage → Stage) : State := unit1 (fun r => { r with stages := r.stages.set i (f r.stages[i]) }) online

/-- The state with the ports and queues changed. -/
def onPorts (f : Link → Link) (s : State) : State := { s with link := f s.link }

/-- A JOB frame. -/
def jobFrame (p : List Byte) : Frame := ⟨48, 0x41, 0x10, 0, p⟩

/-- The state with one job waiting. -/
def withJob (p : List Byte) (s : State) : State := onPorts (fun l => { l with jobs := [jobFrame p] }) s

/-- A transaction of unit 1. -/
def demoTransaction (o : Origin) (q : Request) : Transaction := ⟨o, q, some 0, false, false, 1, 7, 1, 80⟩

/-- The state with a transaction awaiting its reply. -/
def awaiting (o : Origin) (q : Request) (s : State) : State :=
  onPorts (fun l => { l with trunk := .awaiting (demoTransaction o q) }) s

/-- What `f` reads of the next state, `d` where there is none. -/
def after {α : Type} (r : Result) (d : α) (f : State → α) : α :=
  match r with
  | .next t => f t
  | _ => d

/-! ## Well-formedness: a payload past 48 bytes is refused (R3) -/

theorem test_payload_of_49_is_ill_formed :
    (Instr.controllerFrameReceived ⟨5, 0, 1, 0, List.replicate 49 0⟩).wellFormed = false := by decide
theorem test_trunk_payload_of_49_is_ill_formed :
    (Instr.trunkFrameReceived ⟨5, 0, 1, 0, List.replicate 49 0⟩).wellFormed = false := by decide
theorem test_payload_of_48_is_well_formed :
    (Instr.controllerFrameReceived ⟨5, 0, 1, 0, List.replicate 48 0⟩).wellFormed = true := by decide +kernel

/-! ## No row has bits -/

theorem test_no_word_spells_a_command : decodeTableWord 8 0x01 = none := by decide +kernel
theorem test_fetch_word_changes_nothing : (State.reset.withFetchWord 8 0x01).pending = [] := by decide +kernel

/-! ## Frames (R3, R4; the check worked by hand, bit by bit) -/

theorem test_check_of_status_read :
    wireOf ⟨5, 0x41, 0x02, 0, []⟩ = [0xA5, 4, 5, 0x41, 2, 0, 0xB0, 0x68] := by decide +kernel
theorem test_check_of_digits :
    crcOf [0x31, 0x32, 0x33, 0x34, 0x35, 0x36, 0x37, 0x38, 0x39] = 0x29B1 := by decide +kernel
/-- R5's worked sequence: noise, a bad length, then a good frame. -/
theorem test_receiver_skips_noise_and_bad_length :
    (Receiver.run .hunt ([0x3C, 0xA5, 0x02] ++ wireOf ⟨5, 0x41, 0x02, 0, []⟩)).2 = [⟨5, 0x41, 0x02, 0, []⟩] := by
  decide +kernel

/-! ## The demand arithmetic (chapters 5 and 6, worked) -/

theorem test_forecast_at_the_worked_pass : forecastOf 300 1800000 900 6500 = 6333 := by decide +kernel
theorem test_candidate_of_entry_d : forecastOf 300 1800000 900 (6500 + 95) = 6396 := by decide +kernel

/-! ## Notices (chapter 10, worked) -/

/-- 31 records of distinct keys. -/
def fullList : List Notice := (List.range 31).map fun k => ⟨.bandOut, k, some 2, 0, 0, 1, some 182⟩

theorem test_dropped_raise_makes_overflow :
    (raiseNotice factoryTables 6010 .trip 7 (some 1) (some 0) fullList).getLast? =
      some ⟨.listOverflow, 0, none, 6010, 6010, 1, some 2⟩ := by decide +kernel
theorem test_full_list_still_coalesces :
    (raiseNotice factoryTables 6020 .bandOut 30 (some 2) (some 190) fullList).getLast? =
      some ⟨.bandOut, 30, some 2, 0, 6020, 2, some 190⟩ := by decide +kernel

/-! ## Strikes (R142) -/

theorem test_strikes_age_out : strike 4000 3600 [100, 500] = [500, 4000] := by decide +kernel
theorem test_eighth_strike_drops_the_oldest : strike 8 3600 [1, 2, 3, 4, 5, 6, 7] = [2, 3, 4, 5, 6, 7, 8] := by decide +kernel

/-! ## Single steps -/

theorem test_tick_counts_the_second : after (exec .secondsTick demo) 0 (·.seconds) = 1 := by decide +kernel
theorem test_job_of_identify_answers_family :
    after (exec .identify (withJob [0x01] demo)) [] (fun t => t.link.replies.map (·.frame.payload)) =
      [[0x01, 0x20, 0x03, 0x01, 1, 1, 0, 0]] := by decide +kernel
theorem test_busy_names_the_job_queue :
    after (exec (.controllerFrameReceived (jobFrame [1]))
        (onPorts (fun l => { l with jobs := [jobFrame [1], jobFrame [2]] }) demo)) []
      (fun t => t.link.replies.map (·.frame.payload)) = [[0x01, 2]] := by decide +kernel
theorem test_broadcast_stage_call_is_refused : routeOf ⟨63, 0, 1, 0, []⟩ = .refused 0x06 1 := by decide +kernel
theorem test_power_up_is_reset :
    after (exec .powerUp State.reset) [] (fun t => t.notices) = State.reset.notices := by decide +kernel
theorem test_unit_address_33_is_no_unit : unitOfAddr 33 = none := by decide +kernel
theorem test_level_3_gates_group_0 : maskAt factoryTables 3 = 0x01 := by decide +kernel
theorem test_level_7_cap_of_class_0 : capAt factoryTables 7 0 = 1 := by decide +kernel

/-! ## Witnesses: states and operands that meet the statements' hypotheses, clause by clause -/

theorem ready_online : Ready online := ⟨by decide +kernel, by unfold NoPassDue; decide +kernel⟩
theorem calm_online : Calm online :=
  ⟨by decide +kernel, by unfold NoPassDue; decide +kernel, by unfold OutputsTrue; decide +kernel⟩
theorem calm_demo : Calm demo :=
  ⟨by decide +kernel, by unfold NoPassDue; decide +kernel, by unfold OutputsTrue; decide +kernel⟩
theorem trunk_idle_online : TrunkIdle online := ⟨by decide +kernel, by decide +kernel⟩

theorem witness_StepTakesFrontCommand :
    ({ demo with pending := [.secondsTick, .entryAging] } : State).pending = [.secondsTick, .entryAging] ∧
    State.reset.pending = [] := by decide +kernel

/-- The supply lost. -/
def dark : State := after (exec .powerLoss demo) demo id

theorem witness_EveryCommandAnswersNext :
    dark.powered = false ∧ Instr.secondsTick ≠ .powerUp ∧ Instr.secondsTick ≠ .powerLoss := by decide +kernel
theorem witness_EveryCommandAnswersNext_line : ∀ w b, Instr.secondsTick ≠ .inputLineChange w b := by
  intro w b h; cases h

/-- A request of one payload byte to unit 5. -/
def rawFive : Frame := ⟨5, 0x41, 0x20, 0, [9]⟩

theorem witness_ReceiverDecodesWireOfFrames :
    (∀ b ∈ ([0x3C] : List Byte), b ≠ 0xA5) ∧
    (∀ f ∈ ([rawFive, ⟨33, 1, 2, 0, List.replicate 48 0⟩] : List Frame), f.wellFormed = true) ∧
    (0 : Byte) ≠ crcLow (crcOf (frameLen rawFive :: frameBody rawFive)) := by decide +kernel

theorem witness_CharactersMoveTheReceivers :
    demo.powered = true ∧ demo.link.controllerRx = .hunt ∧
    (onPorts (fun l => { l with controllerRx := .length }) demo).link.controllerRx = .length ∧
    4 ≤ (4 : Byte).toNat ∧ (52 : Byte).toNat ≤ 52 ∧ (3 : Byte).toNat < 4 ∧ 52 < (53 : Byte).toNat ∧
    (onPorts (fun l => { l with controllerRx := .body 5 [1] 0 }) demo).link.controllerRx = .body 5 [1] 0 ∧
    ([1] : List Byte).length + 1 < 5 ∧
    (onPorts (fun l => { l with controllerRx := .body 4 [1, 2, 3] 0 }) demo).link.controllerRx = .body 4 [1, 2, 3] 0 ∧
    ([1, 2, 3] : List Byte).length + 1 = 4 ∧
    (onPorts (fun l => { l with controllerRx := .check [1, 2, 3, 4] 0 none }) demo).link.controllerRx =
      .check [1, 2, 3, 4] 0 none ∧
    (onPorts (fun l => { l with controllerRx := .check [1, 2, 3, 4] 0 (some 0) }) demo).link.controllerRx =
      .check [1, 2, 3, 4] 0 (some 0) ∧ (0 : Byte) = crcLow 0 ∧ (1 : Byte) ≠ crcHigh 0 := by decide +kernel

/-- The trunk carrying a poll of unit 1. -/
def sendingPoll : State :=
  onPorts (fun l => { l with trunk := .sending (demoTransaction .poll (.statusRead 0)) ⟨[0xA5], 0⟩ }) online

theorem witness_CharactersMoveTheReceivers_trunk :
    online.link.trunk.isSending = false ∧ (online.link.trunkRx.char (.good 0x3C)).2 = none ∧
    sendingPoll.link.trunk.isSending = true ∧
    (awaiting .poll (.statusRead 0) online).link.trunk = .awaiting (demoTransaction .poll (.statusRead 0)) ∧
    (2 : Byte) ≠ (demoTransaction .poll (.statusRead 0)).request.addr ∧
    (8 : Byte) ≠ (demoTransaction .poll (.statusRead 0)).tag := by decide +kernel
theorem witness_CharactersMoveTheReceivers_calm :
    Calm sendingPoll ∧ Calm (awaiting .poll (.statusRead 0) online) :=
  ⟨⟨by decide +kernel, by unfold NoPassDue; decide +kernel, by unfold OutputsTrue; decide +kernel⟩,
   ⟨by decide +kernel, by unfold NoPassDue; decide +kernel, by unfold OutputsTrue; decide +kernel⟩⟩

theorem witness_RoutingFollowsAddressAndKind :
    RequestHeader ⟨1, 0, 3, 0, []⟩ ∧ RequestHeader ⟨32, 0, 0x3F, 0, []⟩ ∧ RequestHeader ⟨32, 0, 4, 0, []⟩ ∧
    RequestHeader ⟨33, 0, 0x7F, 0, []⟩ ∧ RequestHeader ⟨47, 0, 0, 0, []⟩ ∧ RequestHeader ⟨48, 0, 0x10, 0, []⟩ ∧
    RequestHeader ⟨48, 0, 0x11, 0, []⟩ ∧ RequestHeader ⟨49, 0, 1, 0, []⟩ ∧ RequestHeader ⟨62, 0, 1, 0, []⟩ ∧
    RequestHeader ⟨63, 0, 4, 0, []⟩ ∧ RequestHeader ⟨63, 0, 0x20, 0, []⟩ ∧
    RequestHeader ⟨63, 0, 2, 0, List.replicate 48 0⟩ := by unfold RequestHeader; decide +kernel
theorem test_bad_headers_are_discarded :
    ([⟨0, 0, 1, 0, []⟩, ⟨64, 0, 1, 0, []⟩, ⟨5, 0, 0x81, 1, []⟩, ⟨5, 0, 1, 1, []⟩] : List Frame).map routeOf =
      List.replicate 4 .discarded := by decide +kernel

theorem witness_ArrivalIsQueuedAnsweredOrDiscarded :
    demo.powered = true ∧ demo.link.replies.length + (demo.link.relay.length + demo.link.jobs.length) < 8 ∧
    routeOf rawFive = .relay ∧ badPayload rawFive = none ∧ demo.link.relay.length < 4 ∧
    routeOf (jobFrame [1]) = .job ∧ demo.link.jobs.length < 2 := by decide +kernel

/-- Four relayed requests and two jobs wait. -/
def crowded : State :=
  onPorts (fun l => { l with relay := List.replicate 4 rawFive, jobs := List.replicate 2 (jobFrame [1]) }) demo

theorem witness_ArrivalIsQueuedAnsweredOrDiscarded_refused :
    crowded.powered = true ∧
    crowded.link.replies.length + (crowded.link.relay.length + crowded.link.jobs.length) < 8 ∧
    routeOf ⟨49, 0, 1, 0, []⟩ = .refused 0x02 0 ∧ routeOf ⟨5, 0, 1, 0, []⟩ = .relay ∧
    badPayload ⟨5, 0, 1, 0, []⟩ = some 0xFF ∧ routeOf rawFive = .relay ∧ badPayload rawFive = none ∧
    crowded.link.relay.length = 4 ∧ routeOf (jobFrame [1]) = .job ∧ crowded.link.jobs.length = 2 ∧
    routeOf ⟨0, 0, 1, 0, []⟩ = .discarded := by decide +kernel

/-- Eight replies wait: every queue has room, no reply place is left. -/
def noPlace : State := onPorts (fun l => { l with replies := List.replicate 8 ⟨⟨5, 0, 0x81, 1, []⟩, false⟩ }) demo

theorem witness_ArrivalIsQueuedAnsweredOrDiscarded_no_place :
    noPlace.powered = true ∧ noPlace.link.relay.length < 4 ∧ noPlace.link.jobs.length < 2 ∧
    ¬(noPlace.link.replies.length + (noPlace.link.relay.length + noPlace.link.jobs.length) < 8) := by decide +kernel
theorem test_bad_payload_names_the_first_bad_byte :
    ([⟨1, 0, 1, 0, [0, 0, 2, 2, 2]⟩, ⟨1, 0, 1, 0, [0, 0, 1, 2, 2]⟩, ⟨1, 0, 1, 0, [0, 0, 1, 1, 2]⟩,
      ⟨32, 0, 1, 0, [9, 9, 1, 1, 1]⟩, ⟨32, 0, 2, 0, [0]⟩, ⟨63, 0, 3, 0, [0, 0x80, 0, 0x80]⟩,
      ⟨63, 0, 3, 0, [0, 0, 0, 0x80]⟩, ⟨63, 0, 3, 0, [0]⟩, ⟨40, 0, 1, 0, [0]⟩] : List Frame).map badPayload =
      [some 2, some 3, some 4, none, some 0xFF, some 0, some 2, some 0xFF, none] := by decide +kernel

/-- One reply waits; `sent` has it on the line. -/
def replying (restart : Bool) : State :=
  onPorts (fun l => { l with replies := [⟨⟨48, 0x41, 0x90, 0x01, [0x41]⟩, restart⟩] }) demo
def sentReply (restart : Bool) : State := onPorts (fun l => { l with transmitting := some ⟨[0xA5], 1⟩ }) (replying restart)

theorem witness_ReplyIsSentWithAttentionAndLeaves :
    (replying false).powered = true ∧
    (replying false).link.replies = [⟨⟨48, 0x41, 0x90, 0x01, [0x41]⟩, false⟩] ∧
    (replying false).link.transmitting = none ∧ (sentReply false).link.transmitting.isSome = true := by
  decide +kernel

theorem witness_ResetLoadsImageAndClearsEveryBlock :
    demo.powered = true ∧ (sentReply true).link.transmitting.isSome = true ∧ (sentReply true).powered = true ∧
    (sentReply true).link.replies = [⟨⟨48, 0x41, 0x90, 0x01, [0x41]⟩, true⟩] ∧
    demo.lines.roofShutdown.line = false := by decide +kernel

theorem witness_SupplyComesAndGoes : dark.jobs.image = none ∧ demo.powered = true := by decide +kernel

/-- `online` with a protection injection for unit 1. -/
def protectedState : State := { online with plant := online.plant.inject 0 true }

theorem witness_SchedulerServesByPriority :
    protectedState.plant.protection = [0] ∧ protectedState.link.trunk = .free ∧ protectedState.link.quiet = true ∧
    protectedState.powered = true ∧ protectedState.plant.passDue = false := by decide +kernel

/-- An ordinary injection and a foreign request wait. -/
def bothWait (m : Marker) : State :=
  onPorts (fun l => { l with relay := [⟨33, 1, 9, 0, []⟩], marker := m }) { online with plant := online.plant.inject 0 false }

theorem witness_SchedulerServesByPriority_marker :
    (bothWait .relay).plant.protection = [] ∧ ordinaryInjection (bothWait .relay).plant = some 0 ∧
    (bothWait .relay).link.relay = [⟨33, 1, 9, 0, []⟩] ∧ (bothWait .relay).link.marker = .relay ∧
    (bothWait .injection).link.marker = .injection ∧ ordinaryInjection (bothWait .injection).plant = some 0 ∧
    (bothWait .relay).link.trunk = .free ∧ (bothWait .relay).link.quiet = true ∧
    (bothWait .relay).powered = true ∧ (bothWait .relay).plant.passDue = false := by decide +kernel

theorem witness_FirstDueUnitIsPolled :
    online.plant.protection = [] ∧ online.plant.injections = [] ∧ online.link.relay = [] ∧
    pollDue online (online.link.cursor + 0) = true ∧
    (∀ j : UnitIx, j < 0 → pollDue online (online.link.cursor + j) = false) ∧
    (∀ u : UnitIx, pollDue State.reset u = false) ∧ State.reset.plant.injections = [] := by decide +kernel

/-- A STAGE_CALL to unit 1 at the head. -/
def called (cool heat : Byte) (s : State) : State :=
  onPorts (fun l => { l with relay := [⟨1, 0x55, 0x01, 0, [cool, heat, 0, 0, 1]⟩] }) s

theorem witness_StageCallIsTakenOrRefused :
    (called 255 0 online).link.relay = [⟨1, 0x55, 0x01, 0, [255, 0, 0, 0, 1]⟩] ∧
    ((called 255 0 online).plant.unit 0).state = .online ∧ ((called 255 0 online).plant.unit 0).isolated = false ∧
    (1 : Byte).toNat = (0 : UnitIx).val + 1 ∧ (called 1 1 online).plant.injections = [] ∧
    ((called 1 1 online).plant.unit 0).state ≠ .absent ∧ (1 : Byte) ≠ 0 ∧
    ((called 1 0 State.reset).plant.unit 0).state = .absent ∧ (called 255 0 online).link.trunk = .free ∧
    (called 255 0 online).plant.passDue = false ∧ ((called 1 0 demo).plant.unit 0).state = .unadopted ∧
    ((called 1 0 demo).plant.unit 0).isolated = false := by decide +kernel

/-- A relayed request at the head of the queue. -/
def relaying (f : Frame) : State := onPorts (fun l => { l with relay := [f] }) online

theorem witness_RelayedRequestsGoDownAsTheirRulesGive :
    Ready (relaying ⟨1, 5, 2, 0, []⟩) ∧ TrunkIdle (relaying ⟨1, 5, 2, 0, []⟩) ∧
    (relaying ⟨32, 5, 2, 0, []⟩).link.relay = [⟨32, 5, 2, 0, []⟩] ∧ online.plant.protection = [] ∧
    online.plant.injections = [] ∧ (relaying ⟨63, 5, 3, 0, [0, 0, 0, 0]⟩).link.relay = [⟨63, 5, 3, 0, [0, 0, 0, 0]⟩] ∧
    (relaying ⟨33, 5, 9, 4, [7]⟩).link.relay = [⟨33, 5, 9, 4, [7]⟩] ∧ 0x20 ≤ (0x20 : Byte).toNat ∧
    (0x3F : Byte).toNat ≤ 0x3F := by unfold Ready NoPassDue TrunkIdle; decide +kernel
/-- R24: the factory range of the cooling setpoint is 180..320, of the heating setpoint 100..260 (11.6). -/
theorem test_setpoints_are_clamped :
    after (exec .trunkArbitration (relaying ⟨63, 5, 3, 0, [0, 0, 0, 0]⟩)) none (fun t => match t.link.trunk with
      | .sending x _ => some x.request
      | _ => none) = some (.setpoint 63 factoryRoof.coolLow factoryRoof.heatLow) := by decide +kernel

theorem witness_AttemptsStartRetryAndEnd :
    (onPorts (fun l => { l with trunk := .ready (demoTransaction .injection (.stageMap 0)) }) online).link.trunk =
      .ready (demoTransaction .injection (.stageMap 0)) ∧
    sendingPoll.link.trunk = .sending (demoTransaction .poll (.statusRead 0)) ⟨[0xA5], 0⟩ ∧
    (demoTransaction .poll (.statusRead 0)).request.addr ≠ 63 ∧
    (demoTransaction .relay (.setpoint 63 200 200)).request.addr = 63 ∧ crowded.link.relay ≠ [] := by
  decide +kernel

/-- A relayed transaction awaits its reply, its request at the head of the queue. -/
def relayAwaits (q : Request) (head : Frame) (s : State) : State :=
  onPorts (fun l => { l with relay := [head] }) (awaiting .relay q s)
/-- A request of the kind to unit 1. -/
def callHead (k : Byte) : Frame := ⟨1, 0x55, k, 0, [1, 0, 0, 0, 1]⟩

theorem witness_EchoedMapBecomesAcknowledged :
    (awaiting .injection (.stageMap 0) online).link.trunk = .awaiting (demoTransaction .injection (.stageMap 0)) ∧
    ((awaiting .injection (.stageMap 0) online).plant.unit 0).state = .online ∧
    (0 : UnitIx) ∉ (awaiting .injection (.stageMap 0) online).plant.injections ∧
    (awaiting .injection (.stageMap 0) online).plant.passDue = false ∧
    (demoTransaction .injection (.stageMap 0)).unreported = false := by decide +kernel

theorem witness_EchoedMapBecomesAcknowledged_relay :
    (relayAwaits (.stageMap 0) (callHead 1) online).link.trunk = .awaiting (demoTransaction .relay (.stageMap 0)) ∧
    (relayAwaits (.stageMap 0) (callHead 1) online).link.relay = callHead 1 :: [] ∧
    ((relayAwaits (.stageMap 0) (callHead 1) online).plant.unit 0).state = .online ∧
    (0 : UnitIx) ∉ online.plant.protection ∧ (demoTransaction .relay (.stageMap 0)).unit = some 0 := by decide +kernel
/-- R38, 11.4: the answer carries the acknowledged map and the trailer; the target map is still all off. -/
theorem test_stage_call_answer_carries_map_and_trailer :
    after (exec (.trunkFrameReceived ⟨1, 7, 0x84, 0x01, [0x81]⟩) (relayAwaits (.stageMap 0) (callHead 1) online)) []
      (fun t => t.link.replies.map (·.frame)) = [⟨1, 0x55, 0x81, 0x09, [0x81, 0, 0, 0, 0, 2, 0, 0, 0]⟩] := by
  decide +kernel

/-- A status payload of `n` further bytes in hand mode `h`. -/
def statusPayload (h : Byte) (n : Nat) : List Byte :=
  [1, h, 1, 0, 0, 0, 120, 0, 230, 0, 0, 0x80, 44, 1, 40, 117, 0] ++ List.replicate n 0

theorem witness_StatusReplyIsFolded :
    (awaiting .poll (.statusRead 0) online).link.trunk = .awaiting (demoTransaction .poll (.statusRead 0)) ∧
    (demoTransaction .poll (.statusRead 0)).unit = some 0 ∧
    17 ≤ (statusPayload 0 0).length ∧ (statusPayload 1 31).length ≤ 48 ∧ u8At (statusPayload 1 0) 0 ≤ 3 ∧
    u8At (statusPayload 1 0) 1 ≤ 1 ∧ u16At (statusPayload 0 0) 6 ≠ 0x8000 ∧
    u16At ([0, 0, 0, 0, 0, 0, 0, 0x80] ++ List.replicate 9 0) 6 = 0x8000 := by decide +kernel

theorem witness_RelayedRepliesGoUp :
    Ready (relayAwaits (.raw 47 9 0 []) ⟨47, 1, 9, 0, []⟩ online) ∧
    (relayAwaits (.stageMap 0) (callHead 1) online).link.trunk = .awaiting (demoTransaction .relay (.stageMap 0)) ∧
    (demoTransaction .relay (.stageMap 0)).unit = some 0 ∧
    1 ≤ (demoTransaction .relay (.stageMap 0)).request.addr.toNat ∧
    (demoTransaction .relay (.raw 47 9 0 [])).request.addr.toNat ≤ 47 ∧
    (0x01 : Byte).getLsbD 0 = true ∧ (0x03 : Byte).getLsbD 1 = true := by
  refine ⟨⟨rfl, rfl⟩, ?_⟩; decide +kernel
theorem witness_RelayedRepliesGoUp_fits :
    ReplyFits (.raw 47 9 0 []) 0x01 (List.replicate 48 0) ∧ ReplyFits (.setpoint 1 200 200) 0x01 [0, 0, 0, 0] ∧
    ReplyFits (.setpoint 1 200 200) 0x03 [7, 0] ∧ ReplyFits (.stageMap 0) 0x03 [7, 0] ∧
    ReplyFits (.statusRead 0) 0x03 (List.replicate 48 0) := by
  simp only [ReplyFits]; decide +kernel
theorem witness_RelayedRepliesGoUp_fold :
    FoldAwaits (relayAwaits (.statusRead 0) (callHead 2) online) (demoTransaction .relay (.statusRead 0)) 0
      (statusPayload 0 23) ∧
    FoldAwaits (relayAwaits (.statusRead 0) (callHead 1) demo) (demoTransaction .relay (.statusRead 0)) 0
      (statusPayload 0 24) ∧ (demo.plant.unit 0).state = .unadopted ∧
    QuietFold (relayAwaits (.statusRead 0) (callHead 2) online) 0 (statusPayload 0 23) := by
  unfold FoldAwaits QuietFold; decide +kernel
/-- R37, R38, R50: the call that adopted a unit with C1 on is answered with that map; reason ADOPTING is 14. -/
theorem test_call_that_adopts_answers_with_the_adopted_map :
    after (exec (.trunkFrameReceived (statusReply (demoTransaction .relay (.statusRead 0)) (statusPayload 0 0)))
      (relayAwaits (.statusRead 0) (callHead 1) demo)) []
      (fun t => t.link.replies.map (·.frame)) = [⟨1, 0x55, 0x81, 0x09, [0x01, 1, 0, 14, 14, 1, 0, 0, 0]⟩] := by
  decide +kernel

/-- The statements on folds share these hypotheses; the 17-byte and the 48-byte payload are the ends of the range. -/
theorem witness_folds :
    Ready (awaiting .poll (.statusRead 0) online) ∧
    FoldAwaits (awaiting .poll (.statusRead 0) online) (demoTransaction .poll (.statusRead 0)) 0 (statusPayload 0 0) ∧
    FoldAwaits (awaiting .poll (.statusRead 0) online) (demoTransaction .poll (.statusRead 0)) 0 (statusPayload 1 31) ∧
    QuietFold (awaiting .poll (.statusRead 0) online) 0 (statusPayload 0 0) := by
  unfold Ready NoPassDue FoldAwaits QuietFold; decide +kernel

/-- `online` with C1 and its run, LOCAL. -/
def inHand : State := unit1 (fun r => { r with state := .inLocal }) (stage1 0 fun st => { st with state := .inLocal })

theorem witness_FoldSettlesTheUnitState :
    u8At (statusPayload 0 0) 1 = 0 ∧ ((awaiting .poll (.statusRead 0) demo).plant.unit 0).state = .unadopted ∧
    ((awaiting .poll (.statusRead 0) inHand).plant.unit 0).state = .inLocal ∧
    (inHand.plant.unit 0).stages[(0 : Slot)].state = .inLocal ∧ (inHand.plant.unit 0).ack = (inHand.plant.unit 0).target ∧
    (demo.plant.unit 0).stages[(0 : Slot)].state.isOn = false ∧ (byteAt (statusPayload 0 0) 2).getLsbD 0 = true ∧
    (byteAt (statusPayload 0 0) 2).getLsbD 1 = false ∧
    ((awaiting .poll (.statusRead 0) online).plant.unit 0).state ≠ .absent ∧ u8At (statusPayload 1 0) 1 = 1 ∧
    ((awaiting .poll (.statusRead 0) online).plant.unit 0).state ≠ .inLocal ∧
    online.tables.units[(0 : UnitIx)].bound 0 = true ∧
    (demo.env.cfg 0).bound 0 = true ∧ demo.env.profile 0 0 = some ⟨.cool, 95, 180, 300, 600, 10, true⟩ := by decide +kernel

/-- `online` with C1 RUNNING in both maps and one unproven fold counted. -/
def unprovenOnce : State :=
  unit1 (fun r => { r with target := ⟨1, true⟩, ack := ⟨1, true⟩, notProven := r.notProven.set 0 1 })
    (stage1 0 fun st => { st with state := .running })
theorem witness_UnprovenFoldsAreCounted :
    (unprovenOnce.plant.unit 0).state = .online ∧ (demo.plant.unit 0).state ≠ .online ∧
    QuietFold (awaiting .poll (.statusRead 0) unprovenOnce) 0 (statusPayload 0 0) := by
  unfold QuietFold; decide +kernel
theorem test_second_unproven_fold_raises_not_proven :
    after (exec (.trunkFrameReceived (statusReply (demoTransaction .poll (.statusRead 0))
        [1, 0, 0, 0, 0, 0, 120, 0, 230, 0, 0, 0x80, 44, 1, 40, 117, 0])) (awaiting .poll (.statusRead 0) unprovenOnce)) none
      (fun t => t.notices.getLast?.map fun n => (n.kind, n.unit, n.index, n.value)) =
      some (.notProven, 1, some 0, some 2) := by decide +kernel

theorem witness_AttemptsStartRetryAndEnd_retry :
    (awaiting .poll (.statusRead 0) online).link.quiet = true ∧
    (demoTransaction .poll (.statusRead 0)).single = false ∧
    (demoTransaction .poll (.statusRead 0)).attempt < 1 + (demoTransaction .poll (.statusRead 0)).retryCount := by
  decide +kernel

/-- The last attempt of a transaction. -/
def lastAttempt (x : Transaction) : Transaction := { x with attempt := 2 }

/-- A relayed STATUS_READ of unit 1 in `s` at its last attempt. -/
def lastRead (s : State) : State :=
  onPorts (fun l => { l with relay := [callHead 2], trunk := .awaiting (lastAttempt (demoTransaction .relay (.statusRead 0))) }) s

theorem witness_AttemptsStartRetryAndEnd_end :
    Ready (lastRead inHand) ∧ Exhausted (lastAttempt (demoTransaction .relay (.statusRead 0))) ∧
    Exhausted { demoTransaction .poll (.statusRead 0) with single := true } ∧
    (lastRead inHand).link.relay = callHead 2 :: [] ∧ ((lastRead inHand).plant.unit 0).state = .inLocal ∧
    ((lastRead demo).plant.unit 0).state = .unadopted ∧ (inHand.plant.unit 0).stages[(0 : Slot)].state = .inLocal ∧
    min 255 ((online.plant.unit 0).failures + 1) < online.tables.roof.offlineThreshold ∧
    online.tables.roof.offlineThreshold ≤
      min 255 (((unit1 (fun r => { r with failures := 2 }) inHand).plant.unit 0).failures + 1) ∧
    (0 : UnitIx) ∉ online.plant.injections := by
  refine ⟨⟨rfl, rfl⟩, ?_⟩; unfold Exhausted; decide +kernel
theorem witness_AttemptsStartRetryAndEnd_foreign :
    (onPorts (fun l => { l with
        relay := [⟨33, 1, 9, 0, []⟩]
        trunk := .awaiting { lastAttempt (demoTransaction .relay (.raw 33 9 0 [])) with unit := none } })
      online).link.relay = [⟨33, 1, 9, 0, []⟩] := by decide +kernel
/-- R30, R37, R44: the answer's trailer shows the unit OFFLINE; reason OFFLINE is 13. -/
theorem test_no_reply_carries_the_trailer_of_the_offline_unit :
    after (exec .replyTimeout (lastRead (unit1 (fun r => { r with failures := 2 }) inHand))) []
      (fun t => t.link.replies.map (·.frame)) = [⟨1, 0x55, 0x82, 0x1B, [7, 2, 0, 0, 13, 13, 3, 0, 0, 0]⟩] := by
  decide +kernel

theorem witness_RewrittenStatusCarriesTrailerWhenItFits :
    17 ≤ (statusPayload 0 0).length ∧ (statusPayload 0 23).length ≤ 40 ∧ 40 < (statusPayload 0 24).length ∧
    (statusPayload 0 31).length ≤ 48 := by decide +kernel

theorem witness_ReasonFollowsGrantedAndWanted :
    ((unit1 (fun r => { r with state := .offline }) demo).plant.unit 0).state = .offline ∧
    (demo.plant.unit 0).state = .unadopted ∧ (online.plant.unit 0).state = .online ∧
    (online.plant.unit 0).isolated = false ∧
    countOn (online.plant.unit 0).target .cool = wanted (online.plant.unit 0) .cool ∧
    countOn (online.plant.unit 0).target .cool <
      wanted ((unit1 (fun r => { r with call := { r.call with cool := 1 } }) online).plant.unit 0) .cool := by
  decide +kernel

theorem witness_TickAdvancesCountersAndEntriesAge : Ready online := ready_online
theorem witness_WindowEndsMoveTheStages :
    (online.plant.unit 0).stages[(0 : Slot)].state = .offLocked ∧
    elapsed 300 (online.plant.unit 0).stages[(0 : Slot)].minOffEnd = true ∧
    elapsed 299 (online.plant.unit 0).stages[(0 : Slot)].minOffEnd = false ∧
    elapsed 0 (online.plant.unit 0).stages[(0 : Slot)].startToStartEnd = true ∧
    ((stage1 0 fun st => { st with state := .runMin }).plant.unit 0).stages[(0 : Slot)].state = .runMin ∧
    elapsed 0 ((stage1 0 fun st => { st with state := .runMin }).plant.unit 0).stages[(0 : Slot)].minOnEnd = true ∧
    ((stage1 0 fun st => { st with state := .runMin, stopPending := true }).plant.unit 0).stages[(0 : Slot)].stopPending
      = true ∧
    ((unit1 (fun r => { r with window := some ⟨0, 10⟩ })
      (stage1 0 fun st => { st with state := .starting })).plant.unit 0).window = some ⟨0, 10⟩ := by decide +kernel

/-- An entry of unit 1, and `queued` with it and a QUEUED C1. -/
def demoEntry : Entry := ⟨0, .cool, 1, 1, 0, 0, .none⟩
def queued : State :=
  let s := unit1 (fun r => { r with call := { r.call with cool := 1 } }) (stage1 0 fun st => { st with state := .queued })
  { s with plant := { s.plant with queue := [demoEntry] } }
/-- The same entry with C1 still OFF_LOCKED. -/
def locked : State := { online with plant := { online.plant with queue := [demoEntry] } }

/-- `online` with C1 OFF_READY under FORCE_ON. -/
def manual : State := stage1 0 fun st => { st with state := .offReady, force := .forceOn }
theorem unforced (s : State) (h : ∀ (u : UnitIx) (i : Slot), (s.plant.unit u).stages[i].force = .none) :
    ∀ u i, ¬ManualReady s.env s.plant u i := fun u i m => Force.noConfusion ((h u i).symm.trans m.1)
theorem witness_AdmissionPassRecordsOrGrants_manual :
    (∀ u i, ¬ManualReady locked.env locked.plant u i) ∧ (∀ u i, ¬ManualReady queued.env queued.plant u i) ∧
    Ready manual ∧ ManualReady manual.env manual.plant 0 0 ∧
    manual.env.profile 0 0 = some ⟨.cool, 95, 180, 300, 600, 10, true⟩ ∧
    (∀ (v : UnitIx) (j : Slot), (v < 0 ∨ (v = 0 ∧ j < 0)) → ¬ManualReady manual.env manual.plant v j) ∧
    (manual.plant.unit 0).call.cool = 0 ∧ (manual.plant.unit 0).call.heat = 0 :=
  ⟨unforced _ (by decide +kernel), unforced _ (by decide +kernel), ⟨rfl, rfl⟩,
   ⟨by decide +kernel, by decide +kernel, by decide +kernel, by decide +kernel, by decide +kernel,
    _, (by decide +kernel : manual.env.profile 0 0 = some ⟨.cool, 95, 180, 300, 600, 10, true⟩), by decide +kernel⟩,
   by decide +kernel, fun v j h => absurd h (by simp), by decide +kernel, by decide +kernel⟩
theorem witness_AdmissionPassRecordsOrGrants :
    (∀ n ∈ locked.plant.queue, testEntry locked.env locked.plant n ≠ .none) ∧
    queued.plant.queue = [] ++ demoEntry :: [] ∧ (queued.plant.unit 0).state.isSettled = true ∧
    (queued.plant.unit 0).call.heat = 0 ∧
    testEntry queued.env queued.plant demoEntry = .none ∧
    queuedSlot (queued.plant.unit 0) .cool = some 0 ∧
    queued.env.profile 0 0 = some ⟨.cool, 95, 180, 300, 600, 10, true⟩ ∧ queued.plant.passDue = false := by
  decide +kernel
theorem witness_AdmissionPassRecordsOrGrants_calm : Calm locked :=
  ⟨by decide +kernel, by unfold NoPassDue; decide +kernel, by unfold OutputsTrue; decide +kernel⟩
theorem witness_TickAdvancesCountersAndEntriesAge_aging :
    locked.powered = true ∧ locked.plant.queue = [demoEntry] := by decide +kernel

/-- R89 to R94: one state for each outcome of the tests, in their order. -/
theorem test_first_failing_test_gives_the_skip_reason :
    ([locked, unit1 (fun r => { r with stages := r.stages.set 0 { r.stages[0] with force := .forceOn } }) queued,
      unit1 (fun r => { r with ack := ⟨0x10, false⟩ }) queued,
      { queued with tables := { queued.tables with shed := tabulate fun _ => ⟨tabulate fun _ => 0, 0⟩ },
                    shed := { queued.shed with level := 1 } },
      unit1 (fun r => { r with gateClosed := true }) queued,
      { queued with plant := { queued.plant with staggerEnd := some 1 } },
      { queued with shed := { queued.shed with ceiling := 0 } }, queued] : List State).map
        (fun s => testEntry s.env s.plant demoEntry) =
      [.lockout, .manualOnly, .changeover, .shedCap, .gated, .stagger, .demand, .none] := by decide +kernel
theorem witness_EntryIsTestedInOrder :
    (∀ i : Slot, slotKind i = demoEntry.kind → (locked.plant.unit 0).stages[i].state ≠ .queued) ∧
    slotKind 0 = demoEntry.kind ∧ (queued.plant.unit 0).stages[(0 : Slot)].state = .queued ∧
    (∀ j : Slot, slotKind j = demoEntry.kind → (queued.plant.unit 0).stages[j].state = .queued → j = 0) ∧
    queued.env.profile 0 0 = some ⟨.cool, 95, 180, 300, 600, 10, true⟩ := by decide +kernel

/-- The state with the demand meter at `t`, in the sync mode. -/
def metered (t : Nat) (m : SyncMode) : State :=
  { online with
    meter := { online.meter with clock := t }
    tables := { online.tables with roof := { online.tables.roof with syncMode := m } } }

theorem witness_DemandSampleUpdatesTheMeter :
    online.jobs.session.state ≠ .applying ∧ online.tables.roof.syncMode = .freeRun ∧
    online.meter.clock + 1 < online.tables.roof.intervalLength ∧ online.tables.roof.intervalLength ≤ 3600 := by
  decide +kernel
/-- A status record of age `a`. -/
def aged (a : Nat) : Option Status := some ⟨1, false, ⟨0, false⟩, 0, 0, none, none, none, none, 0, 117, a⟩
theorem test_unit_power_goes_stale :
    ([unit1 (fun r => { r with status := aged factoryRoof.staleLimit, fresh := true }) online,
      unit1 (fun r => { r with status := aged (factoryRoof.staleLimit + 1), fresh := true }) online,
      unit1 (fun r => { r with status := aged 0, fresh := true, window := some ⟨0, 10⟩ }) online,
      unit1 (fun r => { r with status := aged 0, state := .inLocal }) online] : List State).map
        (fun s => unitPower s.env 0 (s.plant.unit 0)) = [117, 0, 0, 117] := by decide +kernel
theorem witness_SampleAtIntervalEndCloses :
    (metered 899 .freeRun).meter.clock + 1 = (metered 899 .freeRun).tables.roof.intervalLength ∧
    (metered 899 .freeRun).meter.peakRecord = none ∧
    (metered 959 .meterSync).meter.clock + 1 =
      (metered 959 .meterSync).tables.roof.intervalLength + (metered 959 .meterSync).tables.roof.syncGrace ∧
    (metered 959 .meterSync).tables.roof.syncMode = .meterSync ∧ (metered 959 .meterSync).powered = true := by
  decide +kernel

/-- The state with the sample's forecast, the ceiling, the level and the hold timer given. -/
def shedding (F c level : Nat) (h : HoldTimer) : State :=
  { online with
    meter := { online.meter with sampleForecast := F }
    shed := { online.shed with ceiling := c, level := level, hold := h } }

theorem witness_ShedReactionMovesTheLevelByOne :
    (shedding 6401 6400 0 .idle).shed.ceiling < (shedding 6401 6400 0 .idle).meter.sampleForecast ∧
    (shedding 6500 6400 6 .idle).shed.level < 7 ∧ (shedding 6500 6400 7 .idle).shed.level = 7 ∧
    (shedding 6500 6400 0 .idle).shed.stepEnd = none ∧
    (shedding 6199 6400 1 (.reached 0)).tables.roof.restoreHysteresis = 200 ∧
    (shedding 6199 6400 1 (.reached 0)).meter.sampleForecast < 6400 - 200 ∧
    (shedding 6199 6400 1 (.running 0)).shed.hold = .running 0 ∧ (shedding 6199 6400 1 .idle).shed.hold = .idle ∧
    (shedding 6199 6400 1 (.running 1)).shed.hold = .running 1 ∧ (shedding 6199 6400 1 (.running 1)).seconds < 1 ∧
    (shedding 6199 6400 0 .idle).shed.level = 0 ∧ ¬((shedding 6200 6400 1 .idle).meter.sampleForecast < 6400 - 200) ∧
    (shedding 6400 6400 1 .idle).meter.sampleForecast ≤ 6400 ∧ (shedding 6200 6400 1 .idle).powered = true := by
  decide +kernel
/-- Two stages of unit 1 run, C2 for the longer; the level that rises takes the class's cap to 1. -/
def cappedTo1 : State :=
  let s := { shedding 6401 6400 0 .idle with plant := (unit1 (fun r => { r with
    call := { r.call with cool := 2 }, target := ⟨3, true⟩
    stages := r.stages.set 1 { r.stages[1] with state := .running, startTime := some 0 } })
    (stage1 0 fun st => { st with state := .running, startTime := some 5 })).plant }
  { s with tables := { s.tables with shed := tabulate fun _ => ⟨tabulate fun _ => 1, 0⟩ } }
theorem witness_ShedReactionMovesTheLevelByOne_cap :
    Ready cappedTo1 ∧ cappedTo1.tables.units[(0 : UnitIx)].fitted = true ∧
    (cappedTo1.plant.unit 0).state.isSettled = true ∧
    capAt cappedTo1.tables 1 cappedTo1.tables.units[(0 : UnitIx)].priority ≠
      capAt cappedTo1.tables 0 cappedTo1.tables.units[(0 : UnitIx)].priority ∧
    (cappedTo1.plant.unit 0).stages[(0 : Slot)].force = .none ∧
    (cappedTo1.plant.unit 0).stages[(0 : Slot)].state.isOn = true := by
  refine ⟨⟨rfl, rfl⟩, ?_⟩; decide +kernel
/-- R70, R127: the stage started later stops. -/
theorem test_fallen_cap_stops_the_later_stage :
    after (exec .shedReaction cappedTo1) [] (fun t => (t.plant.unit 0).stages.toList.map (·.state.isOn)) =
      [false, true, false, false, false, false, false] := by decide +kernel
/-- R122: a close at a sync edge between the sample and the reaction leaves what the reaction reads. -/
theorem test_reaction_reads_the_forecast_of_the_sample :
    after (exec .shedReaction { shedding 6401 6400 0 .idle with meter := { (shedding 6401 6400 0 .idle).meter with
      forecast := 0 } }) 0 (·.shed.level) = 1 := by decide +kernel

theorem witness_CapsFallAndMaskGrowsWithLevel :
    (1 : Nat) ≤ 7 ∧ ∀ (c : Fin 4) (j : Fin 7), factoryTables.shed[j].caps[c] ≤ 4 := by decide +kernel

/-- Group 0 gated since second 0: unit 1's gate closes at the tick to second 1 while C1 runs and C2 is in RUN_MIN. -/
def gating : State :=
  { unit1 (fun r => { r with target := ⟨3, true⟩, stages := r.stages.set 1 { r.stages[1] with state := .runMin } })
      (stage1 0 fun st => { st with state := .running }) with rotation := freshRotation.set 0 (some 0) }
theorem witness_CarrierClosesEachMemberInTurn :
    1 ≤ (⟨10, 5, none⟩ : RotationRec).onTime ∧ 5 * 60 * 3 ≤ (10 + 5) * 60 ∧ (10 + 5) * 60 < 5 * 60 * 4 ∧
    demo.tables.units[(0 : UnitIx)].fitted = true ∧ demo.tables.units[(0 : UnitIx)].group = some 0 ∧
    demo.rotation[(0 : Fin 8)] = none ∧ gating.rotation[(0 : Fin 8)] = some 0 ∧
    gating.tables.rotation[(0 : Fin 8)].follow = none ∧ 1 ≤ gating.tables.rotation[(0 : Fin 8)].onTime ∧
    1 ≤ gating.tables.rotation[(0 : Fin 8)].offTime := by decide +kernel
/-- Group 0 follows group 1. -/
def followTables : Tables := { demoTables with rotation := demoTables.rotation.set 0 ⟨10, 5, some 1⟩ }
theorem witness_GatesFollowTheCarriers :
    gating.powered = true ∧ gating.plant.passDue = false ∧ (gating.plant.unit 0).gateClosed = false ∧
    gateEval gating.tables gating.rotation 1 0 = true ∧ (gating.plant.unit 0).state.isSettled = true ∧
    (gating.plant.unit 0).stages[(0 : Slot)].state = .running ∧ (gating.plant.unit 0).stages[(1 : Slot)].state = .runMin ∧
    gating.rotation[(0 : Fin 8)] = some 0 ∧ demoTables.rotation[(0 : Fin 8)].follow = none ∧
    followTables.rotation[(0 : Fin 8)].follow = some 1 ∧ members followTables 1 = [] ∧
    gating.rotation[(1 : Fin 8)] = none ∧ members demoTables 0 = [0] := by decide +kernel
theorem test_gate_that_closes_stops_the_running_stage :
    after (exec .secondsTick gating) [] (fun t => (t.plant.unit 0).stages.toList.map fun x => (x.state.isOn, x.stopPending)) =
      [(false, false), (true, true), (false, false), (false, false), (false, false), (false, false), (false, false)] := by
  decide +kernel

/-- A job event that ends at second 60. -/
def inEvent : State := { online with shed := { online.shed with jobEvent := some ⟨6400, 0, 60⟩ } }

theorem waits (p : List Byte) (s : State) (h : s.powered = true) (h2 : s.jobs.restarting = false) :
    JobWaits (withJob p s) (jobFrame p) [] p := ⟨h, h2, rfl, rfl⟩

theorem witness_JobEventSetsTheEffectiveCeiling :
    JobWaits (withJob [0x24, 0, 25, 1, 0] online) (jobFrame [0x24, 0, 25, 1, 0]) [] [0x24, 0, 25, 1, 0] ∧
    JobWaits (withJob [0x24, 0, 25, 0xE0, 1] online) (jobFrame [0x24, 0, 25, 0xE0, 1]) [] [0x24, 0, 25, 0xE0, 1] ∧
    JobWaits (withJob [0x25] inEvent) (jobFrame [0x25]) [] [0x25] :=
  ⟨waits _ _ rfl rfl, waits _ _ rfl rfl, waits _ _ rfl rfl⟩
theorem witness_JobEventSetsTheEffectiveCeiling_bounds :
    (1 : Byte).toNat + 256 * (0 : Byte).toNat = 1 ∧ (0xE0 : Byte).toNat + 256 * (1 : Byte).toNat = 480 ∧
    inEvent.shed.jobEvent = some ⟨6400, 0, 60⟩ ∧ inEvent.plant.passDue = false ∧
    online.shed.jobEvent = none := by decide +kernel

/-- Every timer running to second 15. -/
def timed : State :=
  { online with
    plant := { online.plant with staggerEnd := some 15 }
    shed := { online.shed with stepEnd := some 15, hold := .running 15 }
    jobs := { online.jobs with session := { closedSession with state := .opened, idleEnd := some 15 } } }

theorem witness_TimersAndLineChanges :
    timed.plant.staggerEnd = some 15 ∧ timed.seconds < 15 ∧ 15 ≤ ({ timed with seconds := 15 } : State).seconds ∧
    timed.shed.stepEnd = some 15 ∧ timed.shed.hold = .running 15 ∧ timed.jobs.session.state = .opened ∧
    timed.jobs.session.idleEnd = some 15 ∧ online.jobs.session.state ≠ .opened := by decide +kernel

/-- The state with the three inputs as given and the meter at `t` in METER_SYNC. -/
def wired (a b c : Input) (t : Nat) : State :=
  { metered t .meterSync with lines := { online.lines with intervalSync := a, drContact := b, roofShutdown := c } }

theorem witness_DebouncedChangeReachesItsOwner :
    (wired ⟨true, false, true⟩ ⟨true, false, true⟩ ⟨true, false, true⟩ 60).lines.intervalSync = ⟨true, false, true⟩ ∧
    (wired ⟨true, false, true⟩ ⟨true, false, true⟩ ⟨true, false, true⟩ 60).tables.roof.syncMode = .meterSync ∧
    60 ≤ (wired ⟨true, false, true⟩ ⟨true, false, true⟩ ⟨true, false, true⟩ 60).meter.clock ∧
    (wired ⟨true, false, true⟩ ⟨true, false, true⟩ ⟨true, false, true⟩ 59).meter.clock < 60 ∧
    (({ wired ⟨true, false, true⟩ ⟨false, true, true⟩ ⟨false, true, true⟩ 0 with
        shed := { online.shed with contact := some 0 } } : State).shed.contact).isSome = true ∧
    online.tables.units[(0 : UnitIx)].fitted = true ∧ holdsCause (online.plant.unit 0) .shutdown none = false ∧
    (online.plant.unit 0).state.isSettled = true := by decide +kernel
/-- R145: an ONLINE unit whose map is all off gets its protection injection too (log entry 35). -/
theorem test_shutdown_injects_to_an_all_off_unit :
    after (exec (.debounceExpiry .roofShutdown) (wired ⟨true, true, false⟩ ⟨false, false, false⟩ ⟨true, false, true⟩ 0)) []
      (·.plant.protection) = [0] := by decide +kernel

/-! ### Protection -/

/-- An active high-pressure cause of C1. -/
def hpCause (latched present : Bool) : Cause := ⟨.hp, some 0, .any, latched, present, 0⟩
/-- `online` with C1 running in the target map. -/
def running : State :=
  unit1 (fun r => { r with target := ⟨1, true⟩ }) (stage1 0 fun st => { st with state := .running, startTime := some 0 })
/-- C1 tripped by the cause. -/
def tripped (latched present : Bool) : State :=
  unit1 (fun r => { r with causes := [hpCause latched present] }) (stage1 0 fun st => { st with state := .trippedAuto })

theorem witness_EnteredCauseTripsItsSlots :
    (running.env.cfg 0).bound 0 = true ∧ (hpCause false true).covers 0 = true ∧
    (running.plant.unit 0).stages[(0 : Slot)].state.isOn = true ∧ (running.plant.unit 0).state = .online ∧
    (running.plant.unit 0).target.has 0 = true ∧ running.captures.length < 16 ∧
    (List.replicate 16 (captureOf running.env 0 (hpCause false true) (running.plant.unit 0))).length = 16 := by
  decide +kernel
theorem witness_GoneConditionStrikesAndReleases :
    policyOf (tripped false false).tables .hp = some ⟨.auto, 3, false⟩ ∧
    hpCause false false ∈ ((tripped false false).plant.unit 0).causes ∧
    ((tripped false false).plant.unit 0).stages[(0 : Slot)].state.isTripped = true ∧
    (strike 0 3600 []).length < 3 ∧ 3 ≤ (strike 3 3600 [1, 2]).length := by decide +kernel
/-- A blanking window runs at unit 1, and OVC is blankable by its policy. -/
def blanking : State :=
  { unit1 (fun r => { r with window := some ⟨0, 10⟩ }) online with
    tables := { online.tables with policies := tabulate fun _ => ⟨.auto, 3, true⟩ } }
/-- A status payload with the OVC bit of C1 and the FRZ bit. -/
def faulty : List Byte := [1, 0, 1, 4, 0, 1, 120, 0, 230, 0, 0, 0x80, 44, 1, 40, 117, 0]
theorem witness_FoldEntersAndReleasesCauses :
    FoldedPosition .ovc (some (0 : Fin 4).val) ∧ FoldedPosition .frz none ∧ FoldedPosition .band (some (15 : Fin 16).val) ∧
    FoldShows online.tables online.tables.units[(0 : UnitIx)] faulty (online.plant.unit 0).pairs .ovc (some 0) ∧
    ¬FoldShows online.tables online.tables.units[(0 : UnitIx)] faulty (online.plant.unit 0).pairs .smk none ∧
    (tripped false true).plant.unit 0 = { (online.plant.unit 0) with
      causes := [hpCause false true], stages := ((tripped false true).plant.unit 0).stages } ∧
    policyOf demoTables .hp = some ⟨.auto, 3, false⟩ :=
  ⟨⟨0, rfl⟩, rfl, ⟨15, rfl⟩, ⟨0, rfl, by decide +kernel, by decide +kernel⟩,
   by unfold FoldShows; decide +kernel, by decide +kernel, by decide +kernel⟩
theorem witness_FoldEntersAndReleasesCauses_sound :
    CausesSound (online.plant.unit 0) ∧ CausesSound ((tripped false true).plant.unit 0) ∧
    (blanking.plant.unit 0).window.isSome = true ∧ policyOf blanking.tables .ovc = some ⟨.auto, 3, true⟩ := by
  unfold CausesSound; decide +kernel
theorem test_blanking_sets_the_blankable_condition_aside :
    ([online, blanking] : List State).map (fun s =>
      after (exec (.trunkFrameReceived (statusReply (demoTransaction .poll (.statusRead 0)) faulty))
        (awaiting .poll (.statusRead 0) s)) [] (fun t => (t.plant.unit 0).causes.map (·.tripClass))) =
      [[.ovc, .frz], []] := by decide +kernel
theorem witness_BandPairIsJudgedByItsLimits :
    (⟨.supply, .any, 1, 100, 200, 10, 60, .trip⟩ : BandRec).mask.getLsbD 0 = true ∧
    60 - (some 0).getD 60 < 61 ∧ 60 ≤ 60 - (some 0).getD 60 ∧ (99 : Int) < 100 ∧ (200 : Int) < 201 ∧
    (100 : Int) + (10 : Nat) ≤ 110 ∧ (109 : Int) < 100 + (10 : Nat) := by decide +kernel
theorem witness_LeadPassesToTheLeastUsedSlot :
    (demo.plant.unit 0).lead = [] ++ 0 :: [1] ∧
    ((unit1 (fun r => { r with runHours := #v[180001, 0, 0, 0] }) demo).plant.unit 0).lead = [0] ++ 1 :: [] ∧
    runHoursOf ((unit1 (fun r => { r with runHours := #v[180001, 0, 0, 0] }) demo).plant.unit 0) 1 <
      runHoursOf ((unit1 (fun r => { r with runHours := #v[180001, 0, 0, 0] }) demo).plant.unit 0) 0 ∧
    50 * 3600 < 180001 - 0 := by decide +kernel
/-- C1 is marked and at its minimum-on end, C2 rests, and C1 has run longer than the threshold allows. -/
def resting : State :=
  unit1 (fun r => { r with runHours := #v[180001, 0, 0, 0] })
    (stage1 0 fun st => { st with state := .runMin, stopPending := true, minOnEnd := some 0 })
theorem witness_LeadPassesToTheLeastUsedSlot_moment :
    resting.powered = true ∧ resting.plant.passDue = false ∧ resting.tables.units[(0 : UnitIx)].bound 0 = true ∧
    resting.tables.units[(0 : UnitIx)].leadLag = true ∧ 2 ≤ (resting.plant.unit 0).lead.length ∧
    resting.plant.hasEntry 0 .cool = false ∧ elapsed resting.seconds (resting.plant.unit 0).stages[(0 : Slot)].minOnEnd = true ∧
    (∀ j : Slot, j.val < 4 → j ≠ 0 → resting.tables.units[(0 : UnitIx)].bound j = true →
      (resting.plant.unit 0).stages[j].state = .offLocked) := by decide +kernel
/-- R78: the check is made where the last cooling stage stops, although a COOL entry joins in the same command. -/
theorem test_lead_check_is_made_at_the_stop :
    after (exec (.minimumOnEnd 0 0) (unit1 (fun r => { r with call := { r.call with cool := 1 } }) resting)) []
      (fun t => (t.plant.unit 0).lead) = [1, 0] := by decide +kernel

/-! ### Jobs -/

theorem witness_RoofJobsReportTheRoof :
    JobWaits (withJob [0x01] demo) (jobFrame [0x01]) [] [0x01] ∧
    JobWaits (withJob [0x02] demo) (jobFrame [0x02]) [] [0x02] := ⟨waits _ _ rfl rfl, waits _ _ rfl rfl⟩
theorem witness_UnitJobsReportTheUnit :
    JobWaits (withJob [0x03, 1] demo) (jobFrame [0x03, 1]) [] [0x03, 1] ∧
    JobWaits (withJob [0x04, 32, 6] demo) (jobFrame [0x04, 32, 6]) [] [0x04, 32, 6] ∧
    (32 : Byte).toNat = (31 : UnitIx).val + 1 ∧ (6 : Byte).toNat = (6 : Slot).val :=
  ⟨waits _ _ rfl rfl, waits _ _ rfl rfl, by decide, by decide⟩
theorem witness_ListJobsReportTheirLists :
    JobWaits (withJob [0x05] locked) (jobFrame [0x05]) [] [0x05] ∧
    JobWaits (withJob [0x06, 7] locked) (jobFrame [0x06, 7]) [] [0x06, 7] ∧
    JobWaits (withJob [0x07] locked) (jobFrame [0x07]) [] [0x07] ∧ (7 : Byte).toNat ≤ 7 :=
  ⟨waits _ _ rfl rfl, waits _ _ rfl rfl, waits _ _ rfl rfl, by decide⟩
theorem witness_NoticeAndCaptureJobsKeepTheirOrder :
    JobWaits (withJob [0x11] demo) (jobFrame [0x11]) [] [0x11] ∧
    JobWaits (withJob [0x12, 1] demo) (jobFrame [0x12, 1]) [] [0x12, 1] ∧ NoPassDue (withJob [0x12, 1] demo) ∧
    JobWaits (withJob [0x13] demo) (jobFrame [0x13]) [] [0x13] ∧
    JobWaits (withJob [0x14, 255] demo) (jobFrame [0x14, 255]) [] [0x14, 255] ∧
    JobWaits (withJob [0x10] demo) (jobFrame [0x10]) [] [0x10] :=
  ⟨waits _ _ rfl rfl, waits _ _ rfl rfl, rfl, waits _ _ rfl rfl, waits _ _ rfl rfl, waits _ _ rfl rfl⟩

theorem calm_withJob (p : List Byte) (s : State) (h : Calm s) : Calm (withJob p s) := h

theorem calm_tripped : Calm (tripped true true) ∧ Calm (tripped true false) :=
  ⟨⟨by decide +kernel, by unfold NoPassDue; decide +kernel, by unfold OutputsTrue; decide +kernel⟩,
   ⟨by decide +kernel, by unfold NoPassDue; decide +kernel, by unfold OutputsTrue; decide +kernel⟩⟩
theorem witness_ClearTripClearsLatchedCauses :
    Calm (withJob [0x20, 1, 0] (tripped true true)) ∧
    JobWaits (withJob [0x20, 1, 0] (tripped true true)) (jobFrame [0x20, 1, 0]) [] [0x20, 1, 0] ∧
    Calm (withJob [0x20, 1, 0xFF] (tripped true false)) ∧
    JobWaits (withJob [0x20, 1, 0xFF] (tripped true false)) (jobFrame [0x20, 1, 0xFF]) [] [0x20, 1, 0xFF] :=
  ⟨calm_withJob _ _ calm_tripped.1, waits _ _ rfl rfl, calm_withJob _ _ calm_tripped.2, waits _ _ rfl rfl⟩
theorem witness_ClearTripClearsLatchedCauses_causes :
    CausesSound ((tripped true true).plant.unit 0) ∧ hpCause true true ∈ ((tripped true true).plant.unit 0).causes ∧
    (hpCause true true).covers 0 = true ∧ (tripped true true).tables.units[(0 : UnitIx)].fitted = true ∧
    (tripped true true).tables.units[(0 : UnitIx)].bound 0 = true := by
  unfold CausesSound; decide +kernel

theorem witness_ClearTripClearsLatchedCauses_refused :
    JobWaits (withJob [0x20, 2, 0xFF] online) (jobFrame [0x20, 2, 0xFF]) [] [0x20, 2, 0xFF] ∧
    JobWaits (withJob [0x20, 1, 2] online) (jobFrame [0x20, 1, 2]) [] [0x20, 1, 2] ∧
    JobWaits (withJob [0x20, 1, 7] online) (jobFrame [0x20, 1, 7]) [] [0x20, 1, 7] :=
  ⟨waits _ _ rfl rfl, waits _ _ rfl rfl, waits _ _ rfl rfl⟩

theorem witness_ForceAndIsolationJobsSetTheirFlags_refused :
    JobWaits (withJob [0x21, 1, 0, 3] online) (jobFrame [0x21, 1, 0, 3]) [] [0x21, 1, 0, 3] ∧
    JobWaits (withJob [0x21, 1, 8, 1] online) (jobFrame [0x21, 1, 8, 1]) [] [0x21, 1, 8, 1] ∧
    JobWaits (withJob [0x21, 1, 2, 1] online) (jobFrame [0x21, 1, 2, 1]) [] [0x21, 1, 2, 1] ∧
    JobWaits (withJob [0x21, 1, 7, 3] online) (jobFrame [0x21, 1, 7, 3]) [] [0x21, 1, 7, 3] :=
  ⟨waits _ _ rfl rfl, waits _ _ rfl rfl, waits _ _ rfl rfl, waits _ _ rfl rfl⟩
theorem witness_ForceAndIsolationJobsSetTheirFlags :
    Calm (withJob [0x21, 1, 0, 0] online) ∧
    JobWaits (withJob [0x21, 1, 0, 0] online) (jobFrame [0x21, 1, 0, 0]) [] [0x21, 1, 0, 0] ∧
    JobWaits (withJob [0x21, 1, 0, 1] online) (jobFrame [0x21, 1, 0, 1]) [] [0x21, 1, 0, 1] ∧
    JobWaits (withJob [0x21, 1, 0, 2] online) (jobFrame [0x21, 1, 0, 2]) [] [0x21, 1, 0, 2] ∧
    JobWaits (withJob [0x21, 1, 7, 1] online) (jobFrame [0x21, 1, 7, 1]) [] [0x21, 1, 7, 1] ∧
    JobWaits (withJob [0x21, 1, 7, 2] online) (jobFrame [0x21, 1, 7, 2]) [] [0x21, 1, 7, 2] ∧
    JobWaits (withJob [0x21, 1, 7, 0] online) (jobFrame [0x21, 1, 7, 0]) [] [0x21, 1, 7, 0] ∧
    JobWaits (withJob [0x21, 2, 0, 0] online) (jobFrame [0x21, 2, 0, 0]) [] [0x21, 2, 0, 0] ∧
    JobWaits (withJob [0x22, 1] online) (jobFrame [0x22, 1]) [] [0x22, 1] ∧
    JobWaits (withJob [0x23, 1] online) (jobFrame [0x23, 1]) [] [0x23, 1] :=
  ⟨calm_withJob _ _ calm_online, waits _ _ rfl rfl, waits _ _ rfl rfl, waits _ _ rfl rfl, waits _ _ rfl rfl,
   waits _ _ rfl rfl, waits _ _ rfl rfl, waits _ _ rfl rfl, waits _ _ rfl rfl, waits _ _ rfl rfl⟩
theorem witness_ForceAndIsolationJobsSetTheirFlags_units :
    online.tables.units[(0 : UnitIx)].bound 2 = false ∧
    (∀ j : Slot, slotKind j ≠ slotKind 0 → ¬((online.plant.unit 0).target.has j = true ∨
      (online.plant.unit 0).ack.has j = true ∨ (online.plant.unit 0).stages[j].force = .forceOn)) ∧
    slotKind 4 ≠ slotKind 0 ∧ ((unit1 (fun r => { r with target := ⟨0x10, true⟩ }) online).plant.unit 0).target.has 4 = true ∧
    online.tables.units[(0 : UnitIx)].fitted = true ∧ online.tables.units[(1 : UnitIx)].fitted = false ∧
    (running.plant.unit 0).stages[(0 : Slot)].state = .running ∧ fanForcedOff (online.plant.unit 0) = false := by
  decide +kernel

/-- An open session whose current table is `t`, with the cursor at `n`. -/
def editing (t : TableId) (n : Nat) : State :=
  { demo with jobs := { demo.jobs with session := ⟨.opened, [t], demoTables, some t, n, some 120⟩ } }
/-- A pending apply. -/
def applying : State :=
  { demo with jobs := { demo.jobs with session := ⟨.applying, [.roof], demoTables, some .roof, 1, none⟩ } }

theorem witness_EditSessionOpensSelectsAndCloses :
    JobWaits (withJob [0x30] demo) (jobFrame [0x30]) [] [0x30] ∧
    JobWaits (withJob [0x31, 8] (editing .unit 0)) (jobFrame [0x31, 8]) [] [0x31, 8] ∧
    JobWaits (withJob [0x31, 9] (editing .unit 0)) (jobFrame [0x31, 9]) [] [0x31, 9] ∧
    JobWaits (withJob [0x32, 31] (editing .unit 0)) (jobFrame [0x32, 31]) [] [0x32, 31] ∧
    JobWaits (withJob [0x32, 32] (editing .unit 0)) (jobFrame [0x32, 32]) [] [0x32, 32] ∧
    JobWaits (withJob [0x37] (editing .unit 0)) (jobFrame [0x37]) [] [0x37] :=
  ⟨waits _ _ rfl rfl, waits _ _ rfl rfl, waits _ _ rfl rfl, waits _ _ rfl rfl, waits _ _ rfl rfl, waits _ _ rfl rfl⟩
theorem witness_EditSessionOpensSelectsAndCloses_session :
    demo.jobs.session.state = .closed ∧ (editing .unit 0).jobs.session.state = .opened ∧
    (editing .unit 0).jobs.session.current = some .unit ∧ TableId.ofCode (8 : Byte).toNat = some .output ∧
    TableId.output ∉ (editing .unit 0).jobs.session.selected ∧ TableId.ofCode (1 : Byte).toNat = some .unit ∧
    TableId.unit ∈ (editing .unit 0).jobs.session.selected ∧ (31 : Byte).toNat < recordCount .unit ∧
    recordCount .unit ≤ (32 : Byte).toNat := by decide +kernel

theorem witness_RecordJobsWorkOnTheShadow :
    JobWaits (withJob [0x33, 2, 5] (editing .output 0)) (jobFrame [0x33, 2, 5]) [] [0x33, 2, 5] ∧
    JobWaits (withJob [0x34, 3, 0] (editing .output 3)) (jobFrame [0x34, 3, 0]) [] [0x34, 3, 0] ∧
    JobWaits (withJob [0x35] (editing .output 4)) (jobFrame [0x35]) [] [0x35] :=
  ⟨waits _ _ rfl rfl, waits _ _ rfl rfl, waits _ _ rfl rfl⟩
theorem witness_RecordJobsWorkOnTheShadow_records :
    ([2, 5] : List Byte).length = recordSize .output ∧ firstBad (fieldsOf .output [2, 5]) [2, 5] = none ∧
    firstBad (fieldsOf .output [3, 0]) [3, 0] = some 0 ∧ (editing .output 3).jobs.session.cursor < recordCount .output ∧
    recordCount .output ≤ (editing .output 4).jobs.session.cursor := by decide +kernel
theorem witness_WriteChecksEachFieldsRange : u8At [0] 0 = 0 ∧ u8At [1] 0 = 1 ∧ 2 ≤ u8At [2] 0 := by decide
theorem test_factory_records_pass_their_checks :
    ([.roof, .unit, .profile, .shed, .rotation, .band, .policy, .noticeClass, .output] : List TableId).map
      (fun t => firstBad (fieldsOf t (recordBytes factoryTables t 0)) (recordBytes factoryTables t 0)) =
      List.replicate 9 none := by decide +kernel
theorem witness_WrittenRecordReadsBackAsSent :
    (31 : Nat) < recordCount .unit ∧ (unitBytes factoryUnit).length = recordSize .unit ∧
    firstBad (fieldsOf .unit (unitBytes factoryUnit)) (unitBytes factoryUnit) = none ∧
    firstBad (fieldsOf .roof (roofBytes factoryRoof)) (roofBytes factoryRoof) = none ∧
    firstBad (fieldsOf .band (bandBytes factoryBand)) (bandBytes factoryBand) = none := by decide +kernel

/-- The tables with an interval of 301 s, refused at APPLY. -/
def oddTables : Tables := { demoTables with roof := { demoTables.roof with intervalLength := 301 } }
/-- An open session over other tables. -/
def editingTo (t : Tables) (sel : List TableId) : State :=
  { demo with jobs := { demo.jobs with session := ⟨.opened, sel, t, none, 0, some 120⟩ } }
/-- A store in progress. -/
def storing : State := { demo with jobs := { demo.jobs with store := some ⟨demoTables, false⟩ } }

/-- Tables failing the second, third and fourth check alone. -/
def wrongBinding : Tables :=
  { demoTables with profiles := demoTables.profiles.set 0 { demoTables.profiles[0] with kind := .heat } }
def selfFollow : Tables := { demoTables with rotation := demoTables.rotation.set 7 ⟨10, 5, some 7⟩ }
def crossedBand : Tables := { demoTables with bands := demoTables.bands.set 15 { factoryBand with low := 1, high := 0 } }
/-- Unit 1 without C2. -/
def unboundTables : Tables :=
  let c := demoTables.units[(0 : UnitIx)]
  { demoTables with units := demoTables.units.set 0 { c with bind := #v[some 0, none, none, none, some 4, none, none] } }

theorem test_apply_names_the_first_failing_record :
    ([oddTables, wrongBinding, selfFollow, crossedBand, demoTables] : List Tables).map invalidTable =
      [some [0, 0], some [1, 0], some [4, 7], some [5, 15], none] := by decide +kernel
theorem test_unit_in_use_is_named :
    unitInUse demoTables factoryTables demo.plant = some 0 ∧
    unitInUse demoTables factoryTables (demo.plant.modUnit 0 fun r => { r with isolated := true }) = none ∧
    unitInUse demoTables unboundTables demo.plant = none ∧
    unitInUse demoTables unboundTables (demo.plant.modUnit 0 fun r => { r with ack := ⟨2, false⟩ }) = some 0 := by
  decide +kernel
theorem witness_ApplyChecksTheTablesInOrder :
    demoTables.roof.intervalLength % 60 = 0 ∧ oddTables.roof.intervalLength % 60 ≠ 0 ∧
    wrongBinding.units[(0 : UnitIx)].fitted = true ∧ wrongBinding.units[(0 : UnitIx)].bind[(0 : Slot)] = some 0 ∧
    wrongBinding.profiles[(0 : Fin 8)].kind ≠ .cool ∧ selfFollow.rotation[(7 : Fin 8)].follow = some 7 ∧
    ¬(crossedBand.bands[(15 : Fin 16)].low ≤ crossedBand.bands[(15 : Fin 16)].high) ∧
    (demo.plant.unit 0).isolated = false ∧ demoTables.units[(0 : UnitIx)].bind[(1 : Slot)].isSome = true ∧
    unboundTables.units[(0 : UnitIx)].bind[(1 : Slot)] = none := by decide +kernel

theorem witness_ApplyStoreAndRestartAreTaken :
    JobWaits (withJob [0x36] (editing .unit 0)) (jobFrame [0x36]) [] [0x36] ∧
    JobWaits (withJob [0x40] demo) (jobFrame [0x40]) [] [0x40] ∧
    JobWaits (withJob [0x41] storing) (jobFrame [0x41]) [] [0x41] ∧ Ready storing :=
  ⟨waits _ _ rfl rfl, waits _ _ rfl rfl, waits _ _ rfl rfl, rfl, rfl⟩
theorem witness_ApplyStoreAndRestartAreTaken_checks :
    invalidTable (candidateTables demoTables (editing .unit 0).jobs.session) = none ∧
    unitInUse demoTables (candidateTables demoTables (editing .unit 0).jobs.session) demo.plant = none ∧
    invalidTable (candidateTables demoTables (editingTo oddTables [.roof]).jobs.session) = some [0, 0] ∧
    invalidTable (candidateTables demoTables (editingTo factoryTables [.unit]).jobs.session) = none ∧
    unitInUse demoTables (candidateTables demoTables (editingTo factoryTables [.unit]).jobs.session) demo.plant =
      some 0 ∧
    demo.jobs.store = none ∧ storing.jobs.store = some ⟨demoTables, false⟩ ∧
    ({ demo with jobs := { demo.jobs with restarting := true } } : State).jobs.restarting = true := by decide +kernel
theorem witness_ApplyStoreAndRestartAreTaken_restarting :
    Calm ({ demo with jobs := { demo.jobs with restarting := true } } : State) := calm_demo

theorem witness_SampleInstallsThePendingApply :
    Ready applying ∧ applying.jobs.session.state = .applying := ⟨⟨rfl, rfl⟩, rfl⟩
/-- A pending apply of other tables. -/
def applyingTo (sel : List TableId) (t : Tables) : State :=
  { demo with jobs := { demo.jobs with session := ⟨.applying, sel, t, none, 0, none⟩ } }
/-- Other rates, and another record of band 15. -/
def changedTables : Tables :=
  { crossedBand with roof := { demoTables.roof with controllerRate := 4, trunkRate := 2 } }
theorem witness_SampleInstallsThePendingApply_checks :
    unitInUse demoTables (candidateTables demoTables applying.jobs.session) applying.plant = none ∧
    unitInUse demoTables factoryTables (applyingTo [.unit] factoryTables).plant = some 0 ∧
    TableId.roof ∈ applying.jobs.session.selected ∧ TableId.unit ∉ applying.jobs.session.selected ∧
    (candidateTables demoTables (applyingTo [.roof, .band] changedTables).jobs.session).bands[(15 : Fin 16)] ≠
      demoTables.bands[(15 : Fin 16)] ∧
    (candidateTables demoTables (applyingTo [.roof, .band] changedTables).jobs.session).roof.controllerRate ≠
      demo.link.controllerRate ∧ demo.link.trunk = .free ∧
    (awaiting .poll (.statusRead 0) demo).link.trunk ≠ .free := by decide +kernel
theorem witness_SampleInstallsThePendingApply_causes : CausesSound (demo.plant.unit 0) := by
  unfold CausesSound; decide +kernel
/-- R62: a slot bound by an installation whose minimum off time is 0 passes on at once. -/
theorem test_bound_slot_without_windows_is_ready :
    after (exec .demandSample (applyingTo [.unit, .profile] { demoTables with
        units := demoTables.units.set 0
          ⟨true, 1, 22, 5000, #v[some 0, some 0, none, none, some 4, some 5, none], some 0, true, 0, 0, 0, 0⟩
        profiles := demoTables.profiles.set 5 ⟨.heat, 10, 0, 0, 0, 0, false⟩ })) none
      (fun t => some (t.plant.unit 0).stages[(5 : Slot)].state) = some .offReady := by decide +kernel

theorem witness_JobsAreRefusedByTheFirstFailingCheck :
    Calm (withJob [] demo) ∧ JobWaits (withJob [] demo) (jobFrame []) [] [] ∧
    JobWaits (withJob [0x08] demo) (jobFrame [0x08]) [] [0x08] ∧
    JobWaits (withJob [0x24, 0, 0, 1] demo) (jobFrame [0x24, 0, 0, 1]) [] [0x24, 0, 0, 1] ∧
    JobWaits (withJob [0x36] applying) (jobFrame [0x36]) [] [0x36] ∧
    JobWaits (withJob [0x30] applying) (jobFrame [0x30]) [] [0x30] ∧
    JobWaits (withJob [0x35] (editingTo demoTables [])) (jobFrame [0x35]) [] [0x35] ∧
    JobWaits (withJob [0x22, 33] demo) (jobFrame [0x22, 33]) [] [0x22, 33] ∧
    JobWaits (withJob [0x23, 0] demo) (jobFrame [0x23, 0]) [] [0x23, 0] ∧
    JobWaits (withJob [0x40] storing) (jobFrame [0x40]) [] [0x40] ∧
    JobWaits (withJob [0x37, 0] (editing .unit 0)) (jobFrame [0x37, 0]) [] [0x37, 0] ∧
    JobWaits (withJob [0x33, 0] (editing .unit 0)) (jobFrame [0x33, 0]) [] [0x33, 0] ∧
    JobWaits (withJob [0x04, 32, 7] demo) (jobFrame [0x04, 32, 7]) [] [0x04, 32, 7] ∧
    JobWaits (withJob [0x06, 8] demo) (jobFrame [0x06, 8]) [] [0x06, 8] ∧
    JobWaits (withJob [0x24, 0, 0, 0xE1, 1] demo) (jobFrame [0x24, 0, 0, 0xE1, 1]) [] [0x24, 0, 0, 0xE1, 1] :=
  ⟨calm_withJob _ _ calm_demo, waits _ _ rfl rfl, waits _ _ rfl rfl, waits _ _ rfl rfl, waits _ _ rfl rfl,
   waits _ _ rfl rfl, waits _ _ rfl rfl, waits _ _ rfl rfl, waits _ _ rfl rfl, waits _ _ rfl rfl, waits _ _ rfl rfl,
   waits _ _ rfl rfl, waits _ _ rfl rfl, waits _ _ rfl rfl, waits _ _ rfl rfl⟩
theorem witness_JobsAreRefusedByTheFirstFailingCheck_values :
    (0x08 : Byte) ∉ jobCodes ∧ 32 < (33 : Byte).toNat ∧
    (editingTo demoTables []).jobs.session.current = none ∧ demo.jobs.session.state = .closed ∧
    storing.jobs.store.isSome = true ∧ (editing .unit 0).jobs.session.current = some .unit ∧
    (0xE1 : Byte).toNat + 256 * (1 : Byte).toNat = 481 := by decide +kernel

/-! ### Invariants -/

theorem witness_PlacesAreNeverExceeded : QueuesBounded demo.link ∧ ListsBounded demo := by
  unfold QueuesBounded ListsBounded; decide +kernel
theorem witness_PlantListsStaySound :
    StartQueueOrdered locked.plant.queue ∧ InjectionsSound protectedState.plant ∧
    ∀ u : UnitIx, CausesSound ((tripped true true).plant.unit u) := by
  unfold StartQueueOrdered InjectionsSound CausesSound; decide +kernel
theorem witness_OutputsFollowTheirConditions : OutputsTrue online ∧ NoPassDue online := ⟨calm_online.2.2, calm_online.2.1⟩
theorem witness_NoticeListStaysSound_list : NoticesSound demo.notices := by unfold NoticesSound; decide +kernel
theorem witness_NoticeListStaysSound :
    classOf factoryTables .trip ≠ .off ∧ (∀ n ∈ fullList, ¬(n.kind = .trip ∧ n.unit = 7 ∧ n.index = some 1)) ∧
    (fullList.filter (·.kind ≠ .listOverflow)).length = 31 ∧ (∀ n ∈ fullList, n.kind ≠ .listOverflow) ∧
    ((fullList ++ [(⟨.listOverflow, 0, none, 0, 0, 255, some 2⟩ : Notice)]).filter
      (fun n : Notice => n.kind ≠ .listOverflow)).length = 31 := by
  decide +kernel
theorem witness_AbsentExactlyWhenNotFitted : FittedNotAbsent online ∧ ReportsToFitted online := by
  refine ⟨by unfold FittedNotAbsent; decide +kernel, ?_⟩
  intro x u h _ _
  rcases h with h | ⟨o, h⟩ | h <;> exact absurd h (by simp [online, unit1, demo, State.reset, freshLink])
theorem witness_ForecastNeverExceedsIntervalPeak :
    MeterSound demo.tables.roof.intervalLength demo.meter ∧ IntervalFieldsBounded demo.tables.roof ∧
    IntervalFieldsBounded demo.jobs.session.shadows.roof ∧ demo.jobs.image = none ∧ demo.jobs.store = none := by
  unfold MeterSound IntervalFieldsBounded; decide +kernel

end Sys2Proof.Tests
end

namespace Sys2Proof.Machine

/-! ## Frames on the line and the receiver (R3 to R8) -/

theorem Receiver.run_append (r : Receiver) (l m : List Byte) :
    r.run (l ++ m) = (((r.run l).1.run m).1, (r.run l).2 ++ ((r.run l).1.run m).2) := by
  induction l generalizing r with
  | nil => simp [Receiver.run]
  | cons b l ih => simp [Receiver.run, ih, List.append_assoc]

/-- R5: without a SYNC byte a receiver in HUNT stays there and hands nothing on. -/
theorem Receiver.run_hunt_noise (l : List Byte) (h : ∀ b ∈ l, b ≠ 0xA5) : Receiver.run .hunt l = (.hunt, []) := by
  induction l with
  | nil => rfl
  | cons b l ih =>
    obtain ⟨hb, hl⟩ := List.forall_mem_cons.1 h
    simp only [Receiver.run, Receiver.byte, if_neg hb, ih hl]
    rfl

/-- R5: a receiver in BODY takes bytes up to the count of LEN and then stands in CHECK, with the check over them. -/
theorem Receiver.run_body (n : Nat) (l m : List Byte) (c : BitVec 16) (hm : m ≠ []) (hn : l.length + m.length = n) :
    Receiver.run (.body n l c) m = (.check (l ++ m) (m.foldl crcByte c) none, []) := by
  induction m generalizing l c with
  | nil => exact absurd rfl hm
  | cons b m ih =>
    cases m with
    | nil =>
      have hlen : n ≤ l.length + 1 := by simp at hn; omega
      simp [Receiver.run, Receiver.byte, hlen]
    | cons b' m =>
      have hlen : ¬n ≤ (l ++ [b]).length := by simp at hn ⊢; omega
      have hrest := ih (l ++ [b]) (crcByte c b) (by simp) (by simp at hn ⊢; omega)
      rw [Receiver.run]
      simp only [Receiver.byte, if_neg hlen, hrest, Option.toList, List.append_assoc, List.nil_append,
        List.cons_append, List.foldl_cons]

/-- R5: the two check bytes of a body. -/
theorem Receiver.run_check (l : List Byte) (c : BitVec 16) (lo hi : Byte) :
    Receiver.run (.check l c none) [lo, hi] =
      (.hunt, if lo = crcLow c ∧ hi = crcHigh c then [frameOfBody l] else []) := by
  simp only [Receiver.run, Receiver.byte]
  split <;> rfl

theorem frameBody_length (f : Frame) : (frameBody f).length = f.payload.length + 4 := rfl

/-- R3, R8: the counted bytes of a frame give the frame. -/
theorem frameOfBody_frameBody (f : Frame) : frameOfBody (frameBody f) = f := rfl

theorem frameLen_toNat (f : Frame) (h : f.wellFormed = true) : (frameLen f).toNat = f.payload.length + 4 := by
  have hlen : f.payload.length ≤ 48 := of_decide_eq_true h
  simp only [frameLen, BitVec.toNat_ofNat]
  omega

/-- R3 to R5: a well-formed frame's characters with any two check bytes: the frame is handed on exactly where they are
the check's. -/
theorem Receiver.run_frame (f : Frame) (lo hi : Byte) (h : f.wellFormed = true) :
    Receiver.run .hunt (0xA5 :: frameLen f :: (frameBody f ++ [lo, hi])) =
      (.hunt, if lo = crcLow (crcOf (frameLen f :: frameBody f)) ∧ hi = crcHigh (crcOf (frameLen f :: frameBody f))
        then [f] else []) := by
  have hlen := frameLen_toNat f h
  have hpay : f.payload.length ≤ 48 := of_decide_eq_true h
  have hrange : 4 ≤ (frameLen f).toNat ∧ (frameLen f).toNat ≤ 52 := by omega
  have hbody := Receiver.run_body (frameLen f).toNat [] (frameBody f) (crcByte 0xFFFF (frameLen f))
    (by simp [frameBody]) (by rw [frameBody_length, hlen]; simp)
  rw [List.nil_append] at hbody
  have hstart : Receiver.run .hunt (0xA5 :: frameLen f :: (frameBody f ++ [lo, hi])) =
      Receiver.run (.body (frameLen f).toNat [] (crcByte 0xFFFF (frameLen f))) (frameBody f ++ [lo, hi]) := by
    rw [Receiver.run, Receiver.run]
    simp only [Receiver.byte, if_pos hrange, if_true, Option.toList, List.nil_append]
  rw [hstart, Receiver.run_append, hbody, Receiver.run_check, frameOfBody_frameBody]
  rfl

theorem Receiver.run_wireOf (f : Frame) (h : f.wellFormed = true) : Receiver.run .hunt (wireOf f) = (.hunt, [f]) :=
  (Receiver.run_frame f _ _ h).trans (by rw [if_pos ⟨rfl, rfl⟩])

theorem Receiver.run_wireOf_list (fs : List Frame) (h : ∀ f ∈ fs, f.wellFormed = true) :
    Receiver.run .hunt (fs.flatMap wireOf) = (.hunt, fs) := by
  induction fs with
  | nil => rfl
  | cons f fs ih =>
    obtain ⟨hf, hfs⟩ := List.forall_mem_cons.1 h
    rw [List.flatMap_cons, Receiver.run_append, Receiver.run_wireOf f hf, ih hfs]
    rfl

/-- Settles O3: noise leaves HUNT untouched, each frame's characters lead back to HUNT and hand the frame on, and
the two check bytes decide that hand-over alone. -/
theorem receiverDecodesWireOfFrames : Obligations.ReceiverDecodesWireOfFrames := by
  constructor
  · intro noise fs hnoise hfs
    rw [Receiver.run_append, Receiver.run_hunt_noise noise hnoise, Receiver.run_wireOf_list fs hfs]
    rfl
  · intro f lo hi hf hbad
    rw [Receiver.run_frame f lo hi hf, if_neg]
    rintro ⟨hlo, hhi⟩
    exact hbad.elim (· hlo) (· hhi)

/-! ## Routing (R12) -/

/-- R3: the reply bit is clear exactly in the kinds below 0x80. -/
theorem hasReplyBit_eq_false_iff (k : Byte) : hasReplyBit k = false ↔ k.toNat < 128 := by
  have hmsb : hasReplyBit k = k.msb := rfl
  rw [hmsb, BitVec.msb_eq_false_iff_two_mul_lt]
  omega

theorem isInterpretedKind_iff (k : Byte) :
    isInterpretedKind k = true ↔ k.toNat = 1 ∨ k.toNat = 2 ∨ k.toNat = 3 := by
  simp [isInterpretedKind, kStageCall, kStatusRead, kSetpointWrite, ← BitVec.toNat_inj, or_assoc]

theorem isPassthrough_iff (k : Byte) : isPassthrough k = true ↔ 0x20 ≤ k.toNat ∧ k.toNat ≤ 0x3F := by
  simp [isPassthrough]

/-- R3, R12, R14: a request's header is not discarded. -/
theorem RequestHeader.not_discarded {f : Frame} (h : RequestHeader f) :
    ¬(headerDiscarded f = true ∨ hasReplyBit f.kind = true) := by
  obtain ⟨hlow, hhigh, hkind, hflag, hpay⟩ := h
  have hbit := (hasReplyBit_eq_false_iff f.kind).2 hkind
  have hreply : flagReply f.flags = false := hflag
  have h0 : f.addr.toNat ≠ 0 := by omega
  simp [headerDiscarded, hbit, hreply, h0, hhigh, hpay]

/-- R12: a request to a unit address. -/
theorem routeOf_unit {f : Frame} (h : RequestHeader f) (ha : f.addr.toNat ≤ 32) :
    routeOf f = if isInterpretedKind f.kind ∨ isPassthrough f.kind then .relay else .refused eNoRoute f.kind := by
  simp only [routeOf, if_neg h.not_discarded, if_pos ha]

/-- R12: a request to a foreign address. -/
theorem routeOf_foreign {f : Frame} (h : RequestHeader f) (h1 : 33 ≤ f.addr.toNat) (h2 : f.addr.toNat ≤ 47) :
    routeOf f = .relay := by
  have h32 : ¬f.addr.toNat ≤ 32 := by omega
  simp only [routeOf, if_neg h.not_discarded, if_neg h32, if_pos h2]

/-- R12: a request to the supervisor. -/
theorem routeOf_supervisor {f : Frame} (h : RequestHeader f) (ha : f.addr.toNat = 48) :
    routeOf f = if f.kind = kJob then .job else .refused eNoRoute f.kind := by
  simp [routeOf, h.not_discarded, ha]

/-- R12, R16: a request to an address that nothing answers. -/
theorem routeOf_reserved {f : Frame} (h : RequestHeader f) (h1 : 49 ≤ f.addr.toNat) (h2 : f.addr.toNat ≤ 62) :
    routeOf f = .refused eNoRoute 0 := by
  have h32 : ¬f.addr.toNat ≤ 32 := by omega
  have h47 : ¬f.addr.toNat ≤ 47 := by omega
  have h48 : ¬f.addr.toNat = 48 := by omega
  simp only [routeOf, if_neg h.not_discarded, if_neg h32, if_neg h47, if_neg h48, if_pos h2]

/-- R12: a broadcast request. -/
theorem routeOf_broadcast {f : Frame} (h : RequestHeader f) (ha : f.addr.toNat = 63) :
    routeOf f = if f.kind = kStageCall ∨ f.kind = kStageMap then .refused eBroadcastStage f.kind
      else if f.kind = kSetpointWrite ∨ isPassthrough f.kind then .relay else .refused eNoRoute f.kind := by
  simp [routeOf, h.not_discarded, ha]

/-- R3, R12, R14: the headers that are discarded. -/
theorem routeOf_discarded {f : Frame} (h : f.addr = 0 ∨ 63 < f.addr.toNat ∨ f.kind.getLsbD 7 = true ∨
    f.flags.getLsbD 0 ≠ f.kind.getLsbD 7) : routeOf f = .discarded := by
  have hd : headerDiscarded f = true ∨ hasReplyBit f.kind = true := by
    rcases h with h | h | h | h
    · exact .inl (by simp [headerDiscarded, h])
    · exact .inl (by simp [headerDiscarded, h])
    · exact .inr h
    · have hne : flagReply f.flags ≠ hasReplyBit f.kind := h
      exact .inl (by simp [headerDiscarded, hne])
  simp only [routeOf, if_pos hd]

/-- Settles O5: one row of R12's table for each range of addresses. -/
theorem routingFollowsAddressAndKind : Obligations.RoutingFollowsAddressAndKind := by
  refine ⟨fun f h => ⟨?_, ?_, routeOf_foreign h, ?_, ?_, routeOf_reserved h, ?_, ?_, ?_⟩, fun f => routeOf_discarded⟩
  · intro ha hk
    rw [routeOf_unit h ha, if_pos]
    rw [isInterpretedKind_iff, isPassthrough_iff]
    omega
  · intro ha hk
    rw [routeOf_unit h ha, if_neg]
    · rfl
    · rw [isInterpretedKind_iff, isPassthrough_iff]
      omega
  · intro ha hk
    rw [routeOf_supervisor h ha, if_pos (BitVec.eq_of_toNat_eq hk)]
  · intro ha hk
    rw [routeOf_supervisor h ha, if_neg fun e => hk (by rw [e]; rfl)]
    rfl
  all_goals
    intro ha hk
    rw [routeOf_broadcast h ha]
    simp only [kStageCall, kStageMap, kSetpointWrite, ← BitVec.toNat_inj, isPassthrough_iff]
  · exact if_pos hk
  · have hcall : ¬(f.kind.toNat = 1 ∨ f.kind.toNat = 4) := by omega
    exact (if_neg hcall).trans (if_pos hk)
  · have hcall : ¬(f.kind.toNat = 1 ∨ f.kind.toNat = 4) := by omega
    have hset : ¬(f.kind.toNat = 3 ∨ 32 ≤ f.kind.toNat ∧ f.kind.toNat ≤ 63) := by omega
    exact (if_neg hcall).trans (if_neg hset)

end Sys2Proof.Machine

namespace Sys2Proof.Machine

/-! ## Commands while the supply is applied -/

theorem whilePowered_on {s : State} (f : State → State) (h : s.powered = true) : whilePowered s f = .next (f s) := by
  rw [whilePowered_next, if_pos h]

theorem roofCommand_on {s : State} (f : State → State) (h : s.powered = true) :
    roofCommand s f = .next (conclude (f s)) := by
  rw [roofCommand_next, if_pos h]

/-- R8, R12: a frame that completed on the controller port is taken in by a receiver back in HUNT. -/
theorem exec_controllerFrame_of_takeIn {f : Frame} {s : State} {l : Link} (h : s.powered = true)
    (hl : ({ s.link with controllerRx := .hunt } : Link).takeIn f = l) :
    exec (.controllerFrameReceived f) s = .next { s with link := l } := by
  subst hl
  exact whilePowered_on (fun s => s.onLink fun l => ({ l with controllerRx := .hunt } : Link).takeIn f) h

theorem exec_controllerChar (c : LinkChar) {s : State} (h : s.powered = true) :
    exec (.characterReceived .controller c) s = .next { s with link := controllerChar c s.link } :=
  whilePowered_on (fun s => s.onLink (controllerChar c)) h

theorem exec_trunkChar (c : LinkChar) {s : State} (h : s.powered = true) :
    exec (.characterReceived .trunk c) s = .next (conclude (trunkChar c s)) := roofCommand_on _ h

/-- R8, R11: a good frame on the trunk while the trunk port does not transmit. -/
theorem exec_trunkFrameReceived (f : Frame) {s : State} (h : s.powered = true) (hs : s.link.trunk.isSending = false) :
    exec (.trunkFrameReceived f) s =
      .next (conclude (trunkFrame f { s with link := { s.link with trunkRx := .hunt, quiet := false } })) := by
  refine (roofCommand_on (fun s => if s.link.trunk.isSending then s
    else trunkFrame f (s.onLink fun l => { l with trunkRx := .hunt, quiet := false })) h).trans ?_
  rw [hs]
  rfl

theorem exec_gapTimeout (p : Port) {s : State} (h : s.powered = true) :
    exec (.gapTimeout p) s = .next { s with link := dropAssembly p s.link } :=
  whilePowered_on (fun s => s.onLink (dropAssembly p)) h

theorem exec_lineBreak (p : Port) {s : State} (h : s.powered = true) :
    exec (.lineBreak p) s = .next { s with link := dropAssembly p s.link } :=
  whilePowered_on (fun s => s.onLink (dropAssembly p)) h

theorem exec_replyTransmitStart {s : State} (h : s.powered = true) :
    exec .replyTransmitStart s = .next (beginReply s) := whilePowered_on _ h

theorem exec_replyTransmitEnd {s : State} (h : s.powered = true) :
    exec .replyTransmitEnd s = .next (endReply s) := whilePowered_on _ h

/-! ## States in which the end of a roof command does nothing -/

/-- R177: relays that stand as they are driven are not moved. -/
theorem driveOutputs_eq_self {s : State}
    (h : s.lines.outputs = drivenOutputs s.tables s.shed s.plant s.notices s.lines.syncMissing) :
    driveOutputs s = s := by
  unfold driveOutputs
  rw [← h]

theorem Calm.outputs {s : State} (h : Calm s) :
    s.lines.outputs = drivenOutputs s.tables s.shed s.plant s.notices s.lines.syncMissing := by
  obtain ⟨hpow, -, hout⟩ := h
  rw [OutputsTrue, if_pos hpow] at hout
  exact hout

theorem Calm.conclude_eq {s : State} (h : Calm s) : conclude s = s :=
  (conclude_no_pass s h.2.1).trans (driveOutputs_eq_self h.outputs)

/-- The ports and queues are no part of what makes a state calm. -/
theorem Calm.withLink {s : State} (h : Calm s) (l : Link) : Calm { s with link := l } := h

/-! ## Characters and the receivers (R5 to R8, R11, R27) -/

/-- A character that completes no frame moves the controller's receiver alone. -/
theorem exec_controllerChar_moves {s : State} {c : LinkChar} {r : Receiver} (hp : s.powered = true)
    (h : s.link.controllerRx.char c = (r, none)) :
    exec (.characterReceived .controller c) s = .next { s with link := { s.link with controllerRx := r } } := by
  rw [exec_controllerChar c hp]
  simp only [controllerChar, h]

/-- The character that completes a frame does what the frame's own row does. -/
theorem exec_controllerChar_completes {s : State} {c : LinkChar} {f : Frame} (hp : s.powered = true)
    (h : s.link.controllerRx.char c = (.hunt, some f)) :
    exec (.characterReceived .controller c) s = exec (.controllerFrameReceived f) s := by
  rw [exec_controllerChar c hp, exec_controllerFrame_of_takeIn hp rfl]
  simp only [controllerChar, h]

/-- R8: no character is taken while the trunk port transmits. -/
theorem trunkChar_sending (c : LinkChar) {s : State} (h : s.link.trunk.isSending = true) : trunkChar c s = s := by
  rw [trunkChar, if_pos h]

/-- R8, R11: a character that completes no frame moves the trunk receiver and restarts the turnaround wait. -/
theorem trunkChar_moves (c : LinkChar) {s : State} (hs : s.link.trunk.isSending = false)
    (h : (s.link.trunkRx.char c).2 = none) :
    trunkChar c s = { s with link := { s.link with trunkRx := (s.link.trunkRx.char c).1, quiet := false } } := by
  rw [trunkChar, if_neg (by simp [hs])]
  simp only [h]
  rfl

/-- R14, R27: a frame of another address, tag or kind, or without the REPLY indicator, is no matching reply. -/
theorem isMatch_eq_false {x : Transaction} {f : Frame} (h : f.addr ≠ x.request.addr ∨ f.tag ≠ x.tag ∨
    f.kind ≠ x.request.kind ||| 0x80 ∨ f.flags.getLsbD 0 = false) : isMatch x f = false := by
  rcases h with h | h | h | h
  · simp [isMatch, h]
  · simp [isMatch, h]
  · have hk : f.kind ≠ replyKind x.request.kind := h
    simp [isMatch, hk]
  · by_cases hk : f.kind = replyKind x.request.kind
    · have hflag : flagReply f.flags = false := h
      have hbit : hasReplyBit f.kind = true := by simp [hk, hasReplyBit, replyKind]
      simp [isMatch, headerDiscarded, hflag, hbit]
    · simp [isMatch, hk]

/-- R27: a frame that is no matching reply leaves the transaction waiting. -/
theorem trunkFrame_no_match {s : State} {x : Transaction} {f : Frame} (ht : s.link.trunk = .awaiting x)
    (h : isMatch x f = false) : trunkFrame f s = s := by
  simp only [trunkFrame, ht, h]
  rfl

/-- R5, R7, R8: the four states' table at the controller's receiver. -/
theorem controllerReceiver_table (s : State) (b : Byte) (hp : s.powered = true) :
    let after (r : Receiver) : Result := .next { s with link := { s.link with controllerRx := r } }
    let got := exec (.characterReceived .controller (.good b)) s
    (s.link.controllerRx = .hunt → got = after (if b = 0xA5 then .length else .hunt)) ∧
    (s.link.controllerRx = .length → 4 ≤ b.toNat → b.toNat ≤ 52 →
      got = after (.body b.toNat [] (crcByte 0xFFFF b))) ∧
    (s.link.controllerRx = .length → (b.toNat < 4 ∨ 52 < b.toNat) → got = after .hunt) ∧
    (∀ n l c, s.link.controllerRx = .body n l c → l.length + 1 < n →
      got = after (.body n (l ++ [b]) (crcByte c b))) ∧
    (∀ n l c, s.link.controllerRx = .body n l c → l.length + 1 = n →
      got = after (.check (l ++ [b]) (crcByte c b) none)) ∧
    (∀ l c, s.link.controllerRx = .check l c none → got = after (.check l c (some b))) ∧
    (∀ l c low, s.link.controllerRx = .check l c (some low) → low = crcLow c → b = crcHigh c →
      got = exec (.controllerFrameReceived (frameOfBody l)) s) ∧
    (∀ l c low, s.link.controllerRx = .check l c (some low) → (low ≠ crcLow c ∨ b ≠ crcHigh c) →
      got = after .hunt) ∧
    exec (.characterReceived .controller .badlyFramed) s = after .hunt := by
  refine ⟨fun hr => ?_, fun hr h4 h52 => ?_, fun hr hbad => ?_, fun n l c hr hn => ?_, fun n l c hr hn => ?_,
    fun l c hr => ?_, fun l c low hr hlow hb => ?_, fun l c low hr hbad => ?_, ?_⟩
  · exact exec_controllerChar_moves hp (by rw [hr]; rfl)
  · exact exec_controllerChar_moves hp (by rw [hr]; simp only [Receiver.char, Receiver.byte, if_pos (And.intro h4 h52)])
  · have hout : ¬(4 ≤ b.toNat ∧ b.toNat ≤ 52) := by omega
    exact exec_controllerChar_moves hp (by rw [hr]; simp only [Receiver.char, Receiver.byte, if_neg hout])
  · have hlen : ¬n ≤ (l ++ [b]).length := by simp; omega
    exact exec_controllerChar_moves hp (by rw [hr]; simp only [Receiver.char, Receiver.byte, if_neg hlen])
  · have hlen : n ≤ (l ++ [b]).length := by simp; omega
    exact exec_controllerChar_moves hp (by rw [hr]; simp only [Receiver.char, Receiver.byte, if_pos hlen])
  · exact exec_controllerChar_moves hp (by rw [hr]; rfl)
  · exact exec_controllerChar_completes hp
      (by rw [hr]; simp only [Receiver.char, Receiver.byte, if_pos (And.intro hlow hb)])
  · have hne : ¬(low = crcLow c ∧ b = crcHigh c) := fun h => hbad.elim (· h.1) (· h.2)
    exact exec_controllerChar_moves hp (by rw [hr]; simp only [Receiver.char, Receiver.byte, if_neg hne])
  · exact exec_controllerChar_moves hp rfl

/-- Settles O4: the receivers' table, the two returns to HUNT, and the calm trunk, in which the end of the command adds
nothing to the character's own effect. -/
theorem charactersMoveTheReceivers : Obligations.CharactersMoveTheReceivers := by
  refine ⟨controllerReceiver_table, ?_, ?_, ?_⟩
  · exact fun s hp => ⟨exec_gapTimeout _ hp, exec_gapTimeout _ hp, exec_lineBreak _ hp, exec_lineBreak _ hp⟩
  · intro s c hcalm
    rw [exec_trunkChar c hcalm.1]
    constructor
    · intro hs hnone
      rw [trunkChar_moves c hs hnone, (hcalm.withLink _).conclude_eq]
    · intro hs
      rw [trunkChar_sending c hs, hcalm.conclude_eq]
  · intro s x f hcalm hx hne
    rw [exec_trunkFrameReceived f hcalm.1 (by rw [hx]; rfl)]
    rw [trunkFrame_no_match (x := x) (by exact hx) (isMatch_eq_false hne), (hcalm.withLink _).conclude_eq]

/-! ## Arrival (R15, R16, R21) -/

theorem Link.roomForReply_iff (l : Link) :
    l.roomForReply = true ↔ l.replies.length + (l.relay.length + l.jobs.length) < 8 :=
  decide_eq_true_iff

theorem Link.refuse_room {l : Link} (f : Frame) (h : l.replies.length + (l.relay.length + l.jobs.length) < 8) :
    l.refuse f = { l with replies := l.replies ++ [⟨f, false⟩] } := by
  rw [Link.refuse, if_pos (l.roomForReply_iff.2 h)]
  rfl

theorem Link.refuse_no_room {l : Link} (f : Frame) (h : ¬l.replies.length + (l.relay.length + l.jobs.length) < 8) :
    l.refuse f = l := by
  rw [Link.refuse, if_neg fun hr => h (l.roomForReply_iff.1 hr)]

theorem Link.takeIn_discarded (l : Link) {f : Frame} (hr : routeOf f = .discarded) : l.takeIn f = l := by
  simp only [Link.takeIn, hr]

theorem Link.takeIn_refused (l : Link) {f : Frame} {e d : Byte} (hr : routeOf f = .refused e d) :
    l.takeIn f = l.refuse (errorReply f e [d]) := by
  simp only [Link.takeIn, hr]

theorem Link.takeIn_badPayload (l : Link) {f : Frame} {d : Byte} (hr : routeOf f = .relay)
    (hb : badPayload f = some d) : l.takeIn f = l.refuse (errorReply f 0x11 [d]) := by
  simp only [Link.takeIn, hr, hb, eBadArgument]

theorem Link.takeIn_relay (l : Link) {f : Frame} (hr : routeOf f = .relay) (hb : badPayload f = none) :
    l.takeIn f = l.offerRelay f := by
  simp only [Link.takeIn, hr, hb]

theorem Link.takeIn_job (l : Link) {f : Frame} (hr : routeOf f = .job) : l.takeIn f = l.offerJob f := by
  simp only [Link.takeIn, hr]

/-- R21: BUSY from a full relay queue. -/
theorem Link.offerRelay_full {l : Link} (f : Frame) (h : l.relay.length = 4) :
    l.offerRelay f = l.refuse (errorReply f 0x01 [1]) := by
  simp [Link.offerRelay, Config.relayPlaces, h, eBusy]

/-- R21: BUSY from a full job queue. -/
theorem Link.offerJob_full {l : Link} (f : Frame) (h : l.jobs.length = 2) :
    l.offerJob f = l.refuse (errorReply f 0x01 [2]) := by
  simp [Link.offerJob, Config.jobPlaces, h, eBusy]

/-- R21: a relay queue with a place takes the frame where a reply place is left for it. -/
theorem Link.offerRelay_room {l : Link} (f : Frame) (hl : l.relay.length < 4)
    (h : l.replies.length + (l.relay.length + l.jobs.length) < 8) :
    l.offerRelay f = { l with relay := l.relay ++ [f] } :=
  (if_pos hl).trans (if_pos (l.roomForReply_iff.2 h))

theorem Link.offerRelay_no_room {l : Link} (f : Frame) (hl : l.relay.length < 4)
    (h : ¬l.replies.length + (l.relay.length + l.jobs.length) < 8) : l.offerRelay f = l :=
  (if_pos hl).trans (if_neg fun hr => h (l.roomForReply_iff.1 hr))

/-- R21: a job queue with a place takes the frame where a reply place is left for it. -/
theorem Link.offerJob_room {l : Link} (f : Frame) (hl : l.jobs.length < 2)
    (h : l.replies.length + (l.relay.length + l.jobs.length) < 8) :
    l.offerJob f = { l with jobs := l.jobs ++ [f] } :=
  (if_pos hl).trans (if_pos (l.roomForReply_iff.2 h))

theorem Link.offerJob_no_room {l : Link} (f : Frame) (hl : l.jobs.length < 2)
    (h : ¬l.replies.length + (l.relay.length + l.jobs.length) < 8) : l.offerJob f = l :=
  (if_pos hl).trans (if_neg fun hr => h (l.roomForReply_iff.1 hr))

/-- R16, R21: a frame whose arrival is refused takes a reply place or, where none is free, is discarded. -/
theorem exec_controllerFrame_refused {s : State} {f : Frame} {e d : Byte} (hp : s.powered = true)
    (h : ({ s.link with controllerRx := .hunt } : Link).takeIn f =
      ({ s.link with controllerRx := .hunt } : Link).refuse (errorReply f e [d])) :
    let room := s.link.replies.length + (s.link.relay.length + s.link.jobs.length) < 8
    (room → exec (.controllerFrameReceived f) s = .next { s with link := { s.link with
      controllerRx := .hunt
      replies := s.link.replies ++ [⟨⟨f.addr, f.tag, f.kind ||| 0x80, 0x03, [e, d]⟩, false⟩] } }) ∧
    (¬room → exec (.controllerFrameReceived f) s = .next { s with link := { s.link with controllerRx := .hunt } }) :=
  ⟨fun hroom => exec_controllerFrame_of_takeIn hp (h.trans (Link.refuse_room _ hroom)),
   fun hroom => exec_controllerFrame_of_takeIn hp (h.trans (Link.refuse_no_room _ hroom))⟩

/-! ### Payloads of interpreted requests (R15) -/

theorem u16At_lt (p : List Byte) (i : Nat) : u16At p i < 65536 := by
  have h0 := (byteAt p i).isLt
  have h1 := (byteAt p (i + 1)).isLt
  unfold u16At u8At
  omega

/-- The signed field that reads as the one value without an opposite. -/
theorem s16At_eq_min_iff (p : List Byte) (i : Nat) : s16At p i = -32768 ↔ u16At p i = 0x8000 := by
  have hlt := u16At_lt p i
  rw [s16At, BitVec.toInt_eq_toNat_cond, BitVec.toNat_ofNat, Nat.mod_eq_of_lt hlt]
  split <;> omega

theorem requestFault_stageCall (p : List Byte) : requestFault 0x01 p =
    if p.length ≠ 5 then some 0xFF else if 1 < u8At p 2 then some 2 else if 1 < u8At p 3 then some 3
      else if 1 < u8At p 4 then some 4 else none := rfl

theorem requestFault_statusRead (p : List Byte) :
    requestFault 0x02 p = if p.length ≠ 0 then some 0xFF else none := rfl

theorem requestFault_setpointWrite (p : List Byte) : requestFault 0x03 p =
    if p.length ≠ 4 then some 0xFF else if u16At p 0 = 0x8000 then some 0
      else if u16At p 2 = 0x8000 then some 2 else none := by
  simp only [← s16At_eq_min_iff]
  rfl

theorem isInterpreted_iff (f : Frame) : isInterpreted f = true ↔
    ((1 ≤ f.addr.toNat ∧ f.addr.toNat ≤ 32) ∧ f.kind = 0x01) ∨
    ((1 ≤ f.addr.toNat ∧ f.addr.toNat ≤ 32) ∧ f.kind = 0x02) ∨
    (((1 ≤ f.addr.toNat ∧ f.addr.toNat ≤ 32) ∨ f.addr.toNat = 63) ∧ f.kind = 0x03) := by
  simp only [isInterpreted, isInterpretedKind, Bool.or_eq_true, Bool.and_eq_true, decide_eq_true_eq]
  simp only [kStageCall, kStatusRead, kSetpointWrite]
  tauto

theorem badPayload_interpreted {f : Frame} (h : isInterpreted f = true) :
    badPayload f = requestFault f.kind f.payload := by
  rw [badPayload, if_pos h]

/-- R15: the payload checks of interpreted requests, and of no other. -/
theorem badPayload_cases (f : Frame) :
    let p := f.payload
    let toUnit := 1 ≤ f.addr.toNat ∧ f.addr.toNat ≤ 32
    let call := toUnit ∧ f.kind = 0x01
    let read := toUnit ∧ f.kind = 0x02
    let setpoint := (toUnit ∨ f.addr.toNat = 63) ∧ f.kind = 0x03
    (¬call → ¬read → ¬setpoint → badPayload f = none) ∧
    (call → p.length ≠ 5 → badPayload f = some 0xFF) ∧
    (call → p.length = 5 →
      (1 < u8At p 2 → badPayload f = some 2) ∧
      (u8At p 2 ≤ 1 → 1 < u8At p 3 → badPayload f = some 3) ∧
      (u8At p 2 ≤ 1 → u8At p 3 ≤ 1 → 1 < u8At p 4 → badPayload f = some 4) ∧
      (u8At p 2 ≤ 1 → u8At p 3 ≤ 1 → u8At p 4 ≤ 1 → badPayload f = none)) ∧
    (read → badPayload f = if p.length = 0 then none else some 0xFF) ∧
    (setpoint → p.length ≠ 4 → badPayload f = some 0xFF) ∧
    (setpoint → p.length = 4 →
      (u16At p 0 = 0x8000 → badPayload f = some 0) ∧
      (u16At p 0 ≠ 0x8000 → u16At p 2 = 0x8000 → badPayload f = some 2) ∧
      (u16At p 0 ≠ 0x8000 → u16At p 2 ≠ 0x8000 → badPayload f = none)) := by
  intro p toUnit call read setpoint
  have hcall (h : call) : badPayload f = requestFault 0x01 p :=
    (badPayload_interpreted ((isInterpreted_iff f).2 (.inl h))).trans (by rw [h.2])
  have hread (h : read) : badPayload f = requestFault 0x02 p :=
    (badPayload_interpreted ((isInterpreted_iff f).2 (.inr (.inl h)))).trans (by rw [h.2])
  have hset (h : setpoint) : badPayload f = requestFault 0x03 p :=
    (badPayload_interpreted ((isInterpreted_iff f).2 (.inr (.inr h)))).trans (by rw [h.2])
  refine ⟨fun h1 h2 h3 => ?_, fun h hl => ?_, fun h hl => ?_, fun h => ?_, fun h hl => ?_, fun h hl => ?_⟩
  · rw [badPayload, if_neg]
    rw [isInterpreted_iff]
    exact fun h => h.elim h1 (·.elim h2 h3)
  · rw [hcall h, requestFault_stageCall, if_pos hl]
  · rw [hcall h, requestFault_stageCall, if_neg (not_not.2 hl)]
    refine ⟨fun h2 => if_pos h2, fun h2 h3 => ?_, fun h2 h3 h4 => ?_, fun h2 h3 h4 => ?_⟩
    · rw [if_neg (by omega), if_pos h3]
    · rw [if_neg (by omega), if_neg (by omega), if_pos h4]
    · rw [if_neg (by omega), if_neg (by omega), if_neg (by omega)]
  · rw [hread h, requestFault_statusRead, ite_not]
  · rw [hset h, requestFault_setpointWrite, if_pos hl]
  · rw [hset h, requestFault_setpointWrite, if_neg (not_not.2 hl)]
    exact ⟨fun h0 => if_pos h0, fun h0 h2 => by rw [if_neg h0, if_pos h2], fun h0 h2 => by rw [if_neg h0, if_neg h2]⟩

/-- Settles O6: each route hands the frame to a queue, to a refusal or to nothing. -/
theorem arrivalIsQueuedAnsweredOrDiscarded : Obligations.ArrivalIsQueuedAnsweredOrDiscarded := by
  refine ⟨fun s f hp => ⟨fun hr hb hl => ?_, fun hr hl => ?_, fun e d hr => ?_, fun d hr hb => ?_, fun hr hb hl => ?_,
    fun hr hl => ?_, fun hr => ?_⟩, badPayload_cases⟩
  · have hin := Link.takeIn_relay { s.link with controllerRx := .hunt } hr hb
    exact ⟨fun hroom => exec_controllerFrame_of_takeIn hp (hin.trans (Link.offerRelay_room f hl hroom)),
      fun hroom => exec_controllerFrame_of_takeIn hp (hin.trans (Link.offerRelay_no_room f hl hroom))⟩
  · have hin := Link.takeIn_job { s.link with controllerRx := .hunt } hr
    exact ⟨fun hroom => exec_controllerFrame_of_takeIn hp (hin.trans (Link.offerJob_room f hl hroom)),
      fun hroom => exec_controllerFrame_of_takeIn hp (hin.trans (Link.offerJob_no_room f hl hroom))⟩
  · exact exec_controllerFrame_refused hp (Link.takeIn_refused _ hr)
  · exact exec_controllerFrame_refused hp (Link.takeIn_badPayload _ hr hb)
  · exact exec_controllerFrame_refused hp ((Link.takeIn_relay _ hr hb).trans (Link.offerRelay_full _ hl))
  · exact exec_controllerFrame_refused hp ((Link.takeIn_job _ hr).trans (Link.offerJob_full _ hl))
  · exact exec_controllerFrame_of_takeIn hp (Link.takeIn_discarded _ hr)

/-! ## Sending replies (R10, R20, R173) -/

theorem attention_eq_true_iff (t : Tables) (ns : List Notice) :
    attention t ns = true ↔ ∃ n ∈ ns, classOf t n.kind = .report := by
  simp [attention]

/-- R10, R14: the frame as it goes, with ATTENTION from the notice list. -/
theorem completed_attention (t : Tables) (ns : List Notice) (f : Frame) :
    completed (attention t ns) f = { f with
      flags := if ∃ n ∈ ns, classOf t n.kind = .report then f.flags ||| 0x04 else f.flags &&& 0xFB } := by
  simp only [completed, withAttention, attention_eq_true_iff]

theorem beginReply_idle {s : State} {r : Reply} {rest : List Reply} (hr : s.link.replies = r :: rest)
    (hi : s.link.transmitting = none) :
    beginReply s = { s with link := { s.link with
      transmitting := some ⟨wireOf (completed (attention s.tables s.notices) r.frame), s.link.controllerRate⟩ } } := by
  unfold beginReply
  rw [hi, hr]
  rfl

/-- R20: the frame sent leaves the reply queue; behind the reply to a RESTART the reset follows (R167). -/
theorem endReply_sending {s : State} {r : Reply} {rest : List Reply} (hr : s.link.replies = r :: rest)
    (hs : s.link.transmitting.isSome = true) :
    endReply s = if r.restart
      then resetState .restart { s with link := { s.link with transmitting := none, replies := rest } }
      else { s with link := { s.link with transmitting := none, replies := rest } } := by
  obtain ⟨x, hx⟩ := Option.isSome_iff_exists.1 hs
  unfold endReply
  rw [hx, hr]
  rfl

/-- Settles O7. -/
theorem replyIsSentWithAttentionAndLeaves : Obligations.ReplyIsSentWithAttentionAndLeaves := by
  intro s r rest hp hr
  constructor
  · intro hi
    rw [exec_replyTransmitStart hp, beginReply_idle hr hi, completed_attention]
  · intro hs hrestart
    rw [exec_replyTransmitEnd hp, endReply_sending hr hs, hrestart]
    rfl

end Sys2Proof.Machine

namespace Sys2Proof.Machine

/-! ## Reasons (R17) -/

/-- R17 rows 5 to 11: the reason of an ONLINE unit that is not isolated. -/
theorem reasonOf_online (p : Plant) (u : UnitIx) (k : Kind) (hs : (p.unit u).state = .online)
    (hi : (p.unit u).isolated = false) :
    reasonOf p u k =
      if countOn (p.unit u).target k < wanted (p.unit u) k ∧
          (slotsOf k).any (fun i => (p.unit u).stages[i].state.isTripped) then .tripped
      else if countOn (p.unit u).target k ≠ wanted (p.unit u) k ∧
          (slotsOf k).any (fun i => (p.unit u).stages[i].force ≠ .none) then .manual
      else if wanted (p.unit u) k < countOn (p.unit u).target k then .heldMinOn
      else if countOn (p.unit u).target k < wanted (p.unit u) k then
        ((p.queue.find? fun n => n.isOf u k).map fun n => n.skip.reason.getD .queued).getD .lockout
      else if clampFlag (p.unit u).call k then .clamped else .none := by
  unfold reasonOf
  simp only [hs, hi, reduceCtorEq, Bool.false_eq_true, false_and, if_false]
  cases p.queue.find? fun n => n.isOf u k <;> rfl

/-- R17 row 8: a skip reason, QUEUED where it names none, is a reason for waiting. -/
theorem SkipReason.reason_waits (k : SkipReason) :
    let why := k.reason.getD Reason.queued
    why ≠ .none ∧ why ≠ .clamped ∧ why ≠ .heldMinOn ∧ why ≠ .tripped := by
  cases k <;> decide

/-- R17 row 8: what an entry, or its absence, reports is a reason for waiting. -/
theorem entryReason_waits (o : Option Entry) :
    let why := (o.map fun n => n.skip.reason.getD Reason.queued).getD .lockout
    why ≠ .none ∧ why ≠ .clamped ∧ why ≠ .heldMinOn ∧ why ≠ .tripped := by
  cases o with
  | none => exact ⟨nofun, nofun, nofun, nofun⟩
  | some n => exact n.skip.reason_waits

/-- Settles O21: the rows of R17's table in their order, by how the granted count stands to the wanted one. -/
theorem reasonFollowsGrantedAndWanted : Obligations.ReasonFollowsGrantedAndWanted := by
  intro p u k
  refine ⟨fun hs => ?_, fun hs => ?_, fun hs => ?_, fun hs hi => ?_⟩
  · simp [reasonOf, hs]
  · simp [reasonOf, hs]
  · simp [reasonOf, hs]
  have hwaits := entryReason_waits (p.queue.find? fun n => n.isOf u k)
  rw [reasonOf_online p u k hs hi]
  simp only [← List.any_eq_true]
  generalize ((p.queue.find? fun n => n.isOf u k).map fun n => n.skip.reason.getD Reason.queued).getD .lockout = why
    at hwaits
  generalize ((slotsOf k).any fun i => (p.unit u).stages[i].state.isTripped) = someTripped
  generalize ((slotsOf k).any fun i => decide ((p.unit u).stages[i].force ≠ Force.none)) = someForced
  obtain ⟨hnone, hclamped, hheld, htripped⟩ := hwaits
  rcases Nat.lt_trichotomy (countOn (p.unit u).target k) (wanted (p.unit u) k) with hlt | heq | hgt
  · have hne := Nat.ne_of_lt hlt
    have hngt := Nat.lt_asymm hlt
    simp only [hlt, hne, hngt, true_and, if_true, if_false, ne_eq, not_false_eq_true, false_imp_iff]
    split
    · simp [*]
    · split <;> simp [*]
  · simp only [heq, Nat.lt_irrefl, ne_eq, not_true_eq_false, false_and, if_false, true_imp_iff, false_imp_iff,
      true_and, iff_false]
    split <;> simp
  · have hne := Nat.ne_of_gt hgt
    have hnlt := Nat.lt_asymm hgt
    simp only [hgt, hne, hnlt, false_and, true_and, if_true, if_false, ne_eq, not_false_eq_true, false_imp_iff,
      true_imp_iff, iff_false]
    split <;> simp

/-! ## The state after reset -/

/-- R177: relays under OFF are not energised, whatever the conditions. -/
theorem drivenOutputs_off (t : Tables) (sh : Shed) (p : Plant) (ns : List Notice) (b : Bool)
    (h : ∀ i : Fin 4, t.outputs[i].mode = .off) : drivenOutputs t sh p ns b = tabulate fun _ => false := by
  unfold drivenOutputs
  congr
  funext i
  simp only [outputDriven, h i]

@[simp] theorem freshPlant_unit (t : Tables) (u : UnitIx) : (freshPlant t).unit u = freshUnit t u 0 := by
  simp [freshPlant, Plant.unit]

/-- R43: a unit record after a reset is ABSENT exactly where the unit is not fitted. -/
theorem freshUnit_state_absent_iff (t : Tables) (u : UnitIx) (at0 : Nat) :
    (freshUnit t u at0).state = .absent ↔ t.units[u].fitted = false := by
  unfold freshUnit
  cases t.units[u].fitted <;> simp

/-- Settles O60: every list is empty or holds the two start-up notices, and the factory OUTPUT records are OFF. -/
theorem resetMeetsEveryInvariant : Obligations.ResetMeetsEveryInvariant := by
  have hunit (u : UnitIx) : State.reset.plant.unit u = freshUnit factoryTables u 0 := freshPlant_unit factoryTables u
  have hroof : IntervalFieldsBounded factoryRoof := by unfold IntervalFieldsBounded; decide
  refine ⟨?_, ?_, ?_, ?_, ?_, ?_, ?_, rfl, ?_, ?_, ?_, ?_⟩
  · exact ⟨Nat.zero_le 4, Nat.zero_le 2, Nat.zero_le 8⟩
  · exact ⟨Nat.zero_le 16, Nat.zero_le 8, Nat.zero_le 3, Nat.zero_le 7⟩
  · unfold NoticesSound
    decide
  · exact ⟨List.Pairwise.nil, List.Pairwise.nil⟩
  · exact ⟨List.nodup_nil, List.nodup_nil, nofun⟩
  · intro u
    rw [hunit]
    exact ⟨List.Pairwise.nil, nofun⟩
  · refine (drivenOutputs_off _ _ _ _ _ fun i => ?_).symm
    simp [State.reset, factoryTables]
  · intro u
    rw [hunit]
    exact freshUnit_state_absent_iff factoryTables u 0
  · rintro x u (h | ⟨o, h⟩ | h) <;> cases h
  · refine ⟨hroof, hroof, fun t ht => ?_, fun t ht => ?_⟩ <;> simp [State.reset, freshJobs] at ht
  · unfold MeterSound
    decide

end Sys2Proof.Machine

namespace Sys2Proof.Machine

/-! ## Walks over a list -/

/-- A walk whose every step keeps a relation keeps it. -/
theorem foldl_related {α β : Type} {R : β → β → Prop} (hrefl : ∀ b, R b b) (htrans : ∀ a b c, R a b → R b c → R a c)
    (f : β → α → β) (l : List α) (h : ∀ b, ∀ x ∈ l, R b (f b x)) (b : β) : R b (l.foldl f b) := by
  induction l generalizing b with
  | nil => exact hrefl b
  | cons x l ih =>
    obtain ⟨hx, hl⟩ := List.forall_mem_cons.1 (fun x hx b => h b x hx)
    exact htrans _ _ _ (hx b) (ih (fun b y hy => hl y hy b) (f b x))

/-- A walk that meets `a` once, whose other steps keep a relation, does what the step at `a` does up to it. -/
theorem foldl_through {α β : Type} {R : β → β → Prop} (hrefl : ∀ b, R b b)
    (htrans : ∀ a b c, R a b → R b c → R a c) (f : β → α → β) {l : List α} {a : α} (hn : l.Nodup) (ha : a ∈ l)
    (h : ∀ b, ∀ x ∈ l, x ≠ a → R b (f b x)) (b : β) : ∃ m, R b m ∧ R (f m a) (l.foldl f b) := by
  obtain ⟨before, behind, rfl⟩ := List.append_of_mem ha
  have hb : ∀ x ∈ before, x ≠ a := fun x hx e => List.disjoint_of_nodup_append hn (e ▸ hx) (List.mem_cons_self ..)
  have hc : ∀ x ∈ behind, x ≠ a := fun x hx e =>
    (List.nodup_cons.1 (List.nodup_append.1 hn).2.1).1 (e ▸ hx)
  refine ⟨before.foldl f b, ?_, ?_⟩
  · exact foldl_related hrefl htrans f before (fun b x hx => h b x (by simp [hx]) (hb x hx)) b
  · rw [List.foldl_append, List.foldl_cons]
    exact foldl_related hrefl htrans f behind (fun b x hx => h b x (by simp [hx]) (hc x hx)) _

theorem allUnits_nodup : allUnits.Nodup := List.nodup_finRange 32

theorem mem_allUnits (u : UnitIx) : u ∈ allUnits := List.mem_finRange u

/-! ## What the moves of stages leave of a unit record -/

/-- A unit record before and after moves of its stages: the moves write its stages with their NOT_PROVEN counts, its
target map with the fresh flag, its lead order and its blanking window, and leave every other field. -/
structure UnitRec.MovesTo (a b : UnitRec) : Prop where
  state : b.state = a.state
  isolated : b.isolated = a.isolated
  failures : b.failures = a.failures
  call : b.call = a.call
  ack : b.ack = a.ack
  status : b.status = a.status
  runHours : b.runHours = a.runHours
  fanForce : b.fanForce = a.fanForce
  causes : b.causes = a.causes
  strikes : b.strikes = a.strikes
  pairs : b.pairs = a.pairs
  gateClosed : b.gateClosed = a.gateClosed

@[refl] theorem UnitRec.MovesTo.refl (a : UnitRec) : a.MovesTo a := ⟨rfl, rfl, rfl, rfl, rfl, rfl, rfl, rfl, rfl, rfl, rfl, rfl⟩

theorem UnitRec.MovesTo.trans {a b c : UnitRec} (h : a.MovesTo b) (k : b.MovesTo c) : a.MovesTo c where
  state := k.state.trans h.state
  isolated := k.isolated.trans h.isolated
  failures := k.failures.trans h.failures
  call := k.call.trans h.call
  ack := k.ack.trans h.ack
  status := k.status.trans h.status
  runHours := k.runHours.trans h.runHours
  fanForce := k.fanForce.trans h.fanForce
  causes := k.causes.trans h.causes
  strikes := k.strikes.trans h.strikes
  pairs := k.pairs.trans h.pairs
  gateClosed := k.gateClosed.trans h.gateClosed

theorem UnitRec.movesTo_mapStages (r : UnitRec) (f : Slot → Stage → Stage) : r.MovesTo (r.mapStages f) :=
  ⟨rfl, rfl, rfl, rfl, rfl, rfl, rfl, rfl, rfl, rfl, rfl, rfl⟩

theorem UnitRec.movesTo_lead (r : UnitRec) (order : List Slot) : r.MovesTo { r with lead := order } :=
  ⟨rfl, rfl, rfl, rfl, rfl, rfl, rfl, rfl, rfl, rfl, rfl, rfl⟩

theorem UnitRec.movesTo_target (r : UnitRec) (m : StageMap) (b : Bool) : r.MovesTo { r with target := m, fresh := b } :=
  ⟨rfl, rfl, rfl, rfl, rfl, rfl, rfl, rfl, rfl, rfl, rfl, rfl⟩

theorem startRecord_movesTo (now : Nat) (pr : Profile) (i : Slot) (r : UnitRec) : r.MovesTo (startRecord now pr i r) :=
  ⟨rfl, rfl, rfl, rfl, rfl, rfl, rfl, rfl, rfl, rfl, rfl, rfl⟩

/-! ### Every unit of a plant -/

/-- Every unit's record is as moves of stages leave it. -/
structure Plant.Moves (p q : Plant) : Prop where
  unit : ∀ v : UnitIx, (p.unit v).MovesTo (q.unit v)

@[refl] theorem Plant.Moves.refl (p : Plant) : p.Moves p := ⟨fun _ => .refl _⟩

theorem Plant.Moves.trans {p q r : Plant} (h : p.Moves q) (k : q.Moves r) : p.Moves r :=
  ⟨fun v => (h.unit v).trans (k.unit v)⟩

theorem Plant.Moves.of_units {p q : Plant} (h : q.units = p.units) : p.Moves q where
  unit v := by
    unfold Plant.unit
    rw [h]

theorem Plant.unit_modUnit (p : Plant) (u v : UnitIx) (f : UnitRec → UnitRec) :
    (p.modUnit u f).unit v = if v = u then f (p.unit v) else p.unit v := by
  split
  · next h => rw [h, Plant.unit_modUnit_self]
  · next h => exact Plant.unit_modUnit_other p u v f h

/-- A change of one unit's record by a move. -/
theorem Plant.moves_modUnit {p : Plant} {u : UnitIx} {f : UnitRec → UnitRec} (h : (p.unit u).MovesTo (f (p.unit u))) :
    p.Moves (p.modUnit u f) where
  unit v := by
    rw [Plant.unit_modUnit]
    split
    · next hv => rw [hv]; exact h
    · rfl

/-! ### The sequencer -/

theorem reselect_moves (u : UnitIx) (p : Plant) : p.Moves (reselect u p) :=
  Plant.moves_modUnit (UnitRec.movesTo_mapStages ..)

theorem writeTarget_moves (prot : Bool) (u : UnitIx) (m : StageMap) (p : Plant) :
    p.Moves (writeTarget prot u m p) := by
  unfold writeTarget
  split
  · rfl
  · have hwrite : p.Moves (p.modUnit u fun r => { r with target := m, fresh := false }) :=
      Plant.moves_modUnit (UnitRec.movesTo_target ..)
    dsimp only
    split
    · exact hwrite.trans (.of_units rfl)
    · exact hwrite

theorem refreshTarget_moves (prot : Bool) (u : UnitIx) (p : Plant) : p.Moves (refreshTarget prot u p) := by
  unfold refreshTarget
  split
  · exact writeTarget_moves ..
  · exact writeTarget_moves ..
  · exact writeTarget_moves ..
  · rfl
  · rfl

/-- A move, with the lead/lag check it may bring, adds a lead order to what it writes. -/
theorem moveUnit_moves (e : Env) (u : UnitIx) (f : Plant → Plant) (r : Roof) (h : r.plant.Moves (f r.plant)) :
    r.plant.Moves (moveUnit e u f r).plant := by
  rcases moveUnit_plant e u f r with hp | ⟨order, hp⟩
  · rw [hp]
    exact h
  · rw [hp]
    exact h.trans (Plant.moves_modUnit (UnitRec.movesTo_lead ..))

theorem examine_units (e : Env) (u : UnitIx) (k : Kind) (p : Plant) : (examine e u k p).units = p.units := by
  unfold examine
  dsimp only
  split
  · split <;> rfl
  · split <;> rfl

theorem examineUnit_moves (e : Env) (u : UnitIx) (r : Roof) : r.plant.Moves (examineUnit e u r).plant :=
  moveUnit_moves e u _ r ((Plant.Moves.of_units ((examine_units ..).trans (examine_units ..))).trans
    (reselect_moves u _))

theorem withdrawEntries_moves (e : Env) (u : UnitIx) (r : Roof) : r.plant.Moves (withdrawEntries e u r).plant :=
  moveUnit_moves e u _ r (Plant.Moves.trans (q := (r.plant.dropEntry u .cool).dropEntry u .heat) (.of_units rfl)
    (reselect_moves u _))

theorem settle_moves (e : Env) (u : UnitIx) (r : Roof) : r.plant.Moves (settle e u r).plant := by
  unfold settle
  split
  · refine Plant.Moves.trans ?_ (examineUnit_moves ..)
    exact (moveUnit_moves e u _ r (Plant.moves_modUnit (UnitRec.movesTo_mapStages ..))).trans
      (refreshTarget_moves ..)
  · rfl

theorem settleAll_moves (e : Env) (due : UnitIx → Bool) (r : Roof) : r.plant.Moves (settleAll e due r).plant := by
  refine foldl_related (R := fun a b : Roof => a.plant.Moves b.plant) (fun a => .refl _) (fun _ _ _ => .trans) _ _
    (fun q u _ => ?_) r
  split
  · exact settle_moves ..
  · rfl

theorem startSlot_moves (e : Env) (u : UnitIx) (i : Slot) (pr : Profile) (r : Roof) :
    r.plant.Moves (startSlot e u i pr r).plant := by
  refine Plant.Moves.trans ?_ (settle_moves ..)
  exact (Plant.moves_modUnit (startRecord_movesTo ..)).trans (refreshTarget_moves ..)

theorem tripSlots_moves (e : Env) (u : UnitIx) (scope : Slot → Bool) (r : Roof) :
    r.plant.Moves (tripSlots e u scope r).plant := by
  refine Plant.Moves.trans ?_ (settle_moves ..)
  exact (moveUnit_moves e u _ r (Plant.moves_modUnit (UnitRec.movesTo_mapStages ..))).trans (refreshTarget_moves ..)

theorem releaseSlots_moves (e : Env) (u : UnitIx) (scope : Slot → Bool) (r : Roof) :
    r.plant.Moves (releaseSlots e u scope r).plant := by
  refine Plant.Moves.trans ?_ (settle_moves ..)
  exact (moveUnit_moves e u _ r (Plant.moves_modUnit (UnitRec.movesTo_mapStages ..))).trans (refreshTarget_moves ..)

/-! ### The admission unit -/

theorem grantSlot_moves (e : Env) (u : UnitIx) (i : Slot) (pr : Profile) (r : Roof) :
    r.plant.Moves (grantSlot e u i pr r).plant := by
  refine Plant.Moves.trans ?_ (startSlot_moves e u i pr _)
  exact .of_units rfl

theorem requeue_moves (e : Env) (u : UnitIx) (k : Kind) (p : Plant) : p.Moves (requeue e u k p) := by
  unfold requeue
  split
  · rfl
  · refine Plant.Moves.trans ?_ (reselect_moves u _)
    exact .of_units rfl

theorem grantEntry_moves (e : Env) (n : Entry) (r : Roof) : r.plant.Moves (grantEntry e n r).plant := by
  unfold grantEntry
  split
  · rfl
  · split
    · rfl
    · exact (grantSlot_moves ..).trans (requeue_moves ..)

theorem admissionPass_moves (e : Env) (r : Roof) : r.plant.Moves (admissionPass e r).plant := by
  unfold admissionPass
  split
  · exact grantSlot_moves ..
  · dsimp only
    split
    · exact .of_units rfl
    · refine Plant.Moves.trans ?_ (grantEntry_moves ..)
      exact .of_units rfl

theorem runPasses_moves (e : Env) (n : Nat) (r : Roof) : r.plant.Moves (runPasses e n r).plant := by
  induction n generalizing r with
  | zero => exact .of_units rfl
  | succ n ih =>
    unfold runPasses
    split
    · refine Plant.Moves.trans (Plant.Moves.trans ?_ (admissionPass_moves ..)) (ih _)
      exact .of_units rfl
    · rfl

/-- The end of a roof command moves stages at most. -/
theorem conclude_moves (s : State) : s.plant.Moves (conclude s).plant := by
  unfold conclude passAfterJoin
  split
  · exact runPasses_moves s.env 64 s.roof
  · exact .of_units rfl

/-! ## What a move with its lead/lag check writes -/

/-- A move writes what it is given, and the unit's lead order. -/
theorem moveUnit_unit_self (e : Env) (u : UnitIx) (f : Plant → Plant) (r : Roof) :
    ∃ order, (moveUnit e u f r).plant.unit u = { (f r.plant).unit u with lead := order } := by
  rcases moveUnit_plant e u f r with hp | ⟨order, hp⟩
  · exact ⟨((f r.plant).unit u).lead, by rw [hp]⟩
  · exact ⟨order, by rw [hp, Plant.unit_modUnit_self]⟩

@[simp] theorem moveUnit_queue (e : Env) (u : UnitIx) (f : Plant → Plant) (r : Roof) :
    (moveUnit e u f r).plant.queue = (f r.plant).queue := by
  rcases moveUnit_plant e u f r with hp | ⟨order, hp⟩ <;> simp [hp]

@[simp] theorem moveUnit_passDue (e : Env) (u : UnitIx) (f : Plant → Plant) (r : Roof) :
    (moveUnit e u f r).plant.passDue = (f r.plant).passDue := by
  rcases moveUnit_plant e u f r with hp | ⟨order, hp⟩ <;> simp [hp]

/-- The lead/lag condition reads the stages, the length of the lead order and the start queue. -/
theorem leadCondition_congr (e : Env) (u : UnitIx) {p q : Plant} (hl : (p.unit u).lead.length = (q.unit u).lead.length)
    (hs : (p.unit u).stages = (q.unit u).stages) (hq : p.queue = q.queue) :
    leadCondition e u p = leadCondition e u q := by
  simp only [leadCondition, Plant.hasEntry, hl, hs, hq]

/-- R78: a rotated lead order holds as many slots. -/
theorem leadRotation_length {r : UnitRec} {h : Nat} {order : List Slot} (ho : leadRotation r h = some order) :
    order.length = r.lead.length := by
  unfold leadRotation at ho
  dsimp only at ho
  split at ho
  · obtain rfl := Option.some.inj ho
    rw [List.length_append, Nat.add_comm, ← List.length_append, List.take_append_drop]
  · cases ho

/-- R78: the lead/lag check raises nothing, or LEAD_SWAPPED with the slot that leads now. -/
theorem leadCheck_notices (e : Env) (u : UnitIx) (r : Roof) (hl : 2 ≤ (r.plant.unit u).lead.length) :
    (leadCheck e u r).notices = r.notices ∨ ∃ i : Slot, (leadCheck e u r).notices =
      raiseNotice e.tables e.now .leadSwapped (u.val + 1) none (some (i.val : Int)) r.notices := by
  unfold leadCheck
  split
  · exact .inl rfl
  · next order ho =>
    have hlen := leadRotation_length ho
    obtain ⟨i, rest, rfl⟩ : ∃ i rest, order = i :: rest := List.exists_cons_of_length_pos (by omega)
    exact .inr ⟨i, rfl⟩

/-- The lead/lag check leaves the lead/lag condition as it is. -/
theorem leadCondition_leadCheck (e : Env) (u : UnitIx) (r : Roof) :
    leadCondition e u (leadCheck e u r).plant = leadCondition e u r.plant := by
  unfold leadCheck
  split
  · rfl
  · next order ho =>
    refine leadCondition_congr e u ?_ ?_ rfl
    · rw [Roof.raise_plant, Plant.unit_modUnit_self]
      exact leadRotation_length ho
    · rw [Roof.raise_plant, Plant.unit_modUnit_self]

/-- The lead/lag condition after a move is that of what the move wrote. -/
theorem leadCondition_moveUnit (e : Env) (u : UnitIx) (f : Plant → Plant) (r : Roof) :
    leadCondition e u (moveUnit e u f r).plant = leadCondition e u (f r.plant) := by
  unfold moveUnit
  split
  · exact leadCondition_leadCheck ..
  · rfl

/-- R78: a move raises nothing, or LEAD_SWAPPED where it makes the lead/lag condition true. -/
theorem moveUnit_notices (e : Env) (u : UnitIx) (f : Plant → Plant) (r : Roof) :
    (moveUnit e u f r).notices = r.notices ∨
      (leadCondition e u r.plant = false ∧ leadCondition e u (f r.plant) = true ∧
        SwapMayFollow e u r.notices (moveUnit e u f r).notices) := by
  unfold moveUnit
  split
  · next h =>
    obtain ⟨hbefore, hafter⟩ := Bool.and_eq_true_iff.1 h
    have hcond := hafter
    simp only [leadCondition, Bool.and_eq_true, decide_eq_true_eq] at hcond
    obtain ⟨⟨⟨hlag, hlead⟩, -⟩, -⟩ := hcond
    rcases leadCheck_notices e u (r.onPlant f) hlead with hn | ⟨i, hn⟩
    · exact .inl hn
    · exact .inr ⟨by simpa using hbefore, hafter, .inr ⟨hlag, i, hn⟩⟩
  · exact .inl rfl

end Sys2Proof.Machine

namespace Sys2Proof.Machine

/-! ## Attempts (R11, R25, R26, R28) -/

/-- R26: the transaction as its latest attempt reads tag, retry count and timeout. -/
def attemptOf (x : Transaction) (s : State) : Transaction :=
  { x with tag := s.link.tag, retryCount := s.tables.roof.retryCount, replyTimeout := s.tables.roof.replyTimeout }

theorem requestFrame_tag (p : Plant) (tag : Byte) (q : Request) : (requestFrame p tag q).tag = tag := by
  cases q <;> rfl

/-- R26: an attempt's start puts its frame on the trunk under the next tag. -/
theorem beginAttempt_sending (x : Transaction) (s : State) :
    AttemptSending s (beginAttempt x s) (attemptOf x s) (requestFrame s.plant s.link.tag x.request) :=
  ⟨rfl, rfl, requestFrame_tag .., rfl, rfl, rfl⟩

theorem beginAttempt_passDue (x : Transaction) (s : State) :
    (beginAttempt x s).plant.passDue = s.plant.passDue := by
  simp only [beginAttempt, attemptPlant]
  split <;> rfl

theorem exec_turnaroundEnd {s : State} (h : s.powered = true) : exec .turnaroundEnd s = .next (turnaroundEnds s) :=
  whilePowered_on _ h

theorem exec_attemptSent {s : State} (h : s.powered = true) : exec .attemptSent s = .next (attemptEnds s) :=
  whilePowered_on _ h

theorem exec_replyTimeout {s : State} (h : s.powered = true) :
    exec .replyTimeout s = .next (conclude (replyTimerEnds s)) := roofCommand_on _ h

/-- R11, R26: the turnaround wait's end begins the attempt that was held. -/
theorem turnaroundEnds_ready {s : State} {x : Transaction} (h : s.link.trunk = .ready x) :
    turnaroundEnds s = beginAttempt x (s.onLink fun l => { l with quiet := true }) := by
  simp only [turnaroundEnds, h]

/-- R25, R26: the end of an attempt's transmission, by whether it was a broadcast. -/
theorem attemptEnds_sending {s : State} {x : Transaction} {o : Sending} (h : s.link.trunk = .sending x o) :
    attemptEnds s = if x.request.addr = 63 then freeTrunk (s.onLink fun l => l.answerHead broadcastAck)
      else s.onLink fun l => { l with trunk := .awaiting x } := by
  simp only [attemptEnds, h]

/-- R26, R28: the reply timer's end below the attempt budget starts the next attempt. -/
theorem replyTimerEnds_retry {s : State} {x : Transaction} (h : s.link.trunk = .awaiting x) (hs : x.single = false)
    (ha : x.attempt < 1 + x.retryCount) (hq : s.link.quiet = true) :
    replyTimerEnds s = beginAttempt { x with attempt := x.attempt + 1 } s := by
  simp only [replyTimerEnds, h, hs, Bool.false_eq_true, if_false, if_pos ha, enterReady, hq, if_true]

/-- R28: the reply timer's end at the attempt budget ends the transaction unanswered. -/
theorem replyTimerEnds_exhausted {s : State} {x : Transaction} (h : s.link.trunk = .awaiting x) (hx : Exhausted x) :
    replyTimerEnds s = endUnanswered x s := by
  have hbudget : ¬x.attempt < (if x.single then 1 else 1 + x.retryCount) := by
    unfold Exhausted at hx
    split at hx
    · next hs => rw [if_pos hs]; omega
    · next hs => rw [if_neg hs]; omega
  simp only [replyTimerEnds, h, if_neg hbudget]

/-! ## The trunk set free (R2) -/

/-- R2: the trunk port with the ROOF record's rate: a frame in assembly is kept where the rate stays. -/
theorem takeTrunkRate_eq (r : RoofRec) (l : Link) : takeTrunkRate r l = { l with
    trunkRate := r.trunkRate, trunkRx := if l.trunkRate = r.trunkRate then l.trunkRx else .hunt } := by
  unfold takeTrunkRate
  split
  · next h => rw [← h]
  · rfl

theorem freeTrunk_link (s : State) : (freeTrunk s).link = { s.link with
    trunk := .free
    trunkRate := s.tables.roof.trunkRate
    trunkRx := if s.link.trunkRate = s.tables.roof.trunkRate then s.link.trunkRx else .hunt } :=
  takeTrunkRate_eq s.tables.roof { s.link with trunk := .free }

theorem Link.answerHead_cons {l : Link} {head : Frame} {rest : List Frame} (answer : Frame → Frame)
    (h : l.relay = head :: rest) :
    l.answerHead answer = { l with relay := rest, replies := l.replies ++ [⟨answer head, false⟩] } := by
  unfold Link.answerHead
  rw [h]

theorem broadcastAck_eq (f : Frame) : broadcastAck f = ⟨f.addr, f.tag, f.kind ||| 0x80, 0x01, []⟩ := rfl

theorem noReplyPlain_eq (f : Frame) (n : Nat) :
    noReplyPlain f n = ⟨f.addr, f.tag, f.kind ||| 0x80, 0x13, [0x07, BitVec.ofNat 8 n]⟩ := rfl

/-! ## The trailer (R37) -/

theorem reasonOf_congr {p q : Plant} {u : UnitIx} (hu : q.unit u = p.unit u) (hq : q.queue = p.queue) (k : Kind) :
    reasonOf q u k = reasonOf p u k := by
  unfold reasonOf
  rw [hu, hq]

/-- R37: a trailer reads the unit's record, the start queue, the level and the forecast. -/
theorem trailerOf_congr {s t : State} {u : UnitIx} (hu : t.plant.unit u = s.plant.unit u)
    (hq : t.plant.queue = s.plant.queue) (hs : t.shed = s.shed) (hm : t.meter = s.meter) :
    trailerOf t u = trailerOf s u := by
  unfold trailerOf
  rw [reasonOf_congr hu hq, reasonOf_congr hu hq, hu, hs, hm]

theorem countOn_eq (m : StageMap) (k : Kind) :
    countOn m k = (allSlots.filter fun i => decide (4 ≤ i.val) == decide (k = .heat) && m.has i).length := by
  unfold countOn slotsOf
  rw [List.filter_filter]
  congr 1
  refine List.filter_congr fun i _ => ?_
  rw [Bool.and_comm]
  congr 1
  unfold slotKind
  rcases Nat.lt_or_ge i.val 4 with h | h
  · cases k <;> simp [h, Nat.not_le.2 h]
  · cases k <;> simp [h, Nat.not_lt.2 h]

theorem trailerOf_eq (s : State) (u : UnitIx) : trailerOf s u = TrailerBytes s u := by
  unfold trailerOf TrailerBytes
  simp only [countOn_eq, le8, le16]
  cases (s.plant.unit u).state <;> rfl

theorem trailedReply_noReply {head : Frame} {n : Nat} (s : State) (u : UnitIx) :
    trailedReply head true true [eNoReply, BitVec.ofNat 8 n] (trailerOf s u) =
      ⟨head.addr, head.tag, head.kind ||| 0x80, 0x1B, [0x07, BitVec.ofNat 8 n] ++ TrailerBytes s u⟩ := by
  rw [trailerOf_eq]
  rfl

/-! ## Stages after moves -/

theorem slotBits_getLsbD (f : Slot → Bool) (i : Slot) : (slotBits f).getLsbD i.val = f i := by
  refine BitVec.getLsbD_ofBoolListLE.trans ?_
  fin_cases i <;> rfl

/-- R61: a slot is on in the map that follows from the stage records exactly where its stage is on. -/
theorem scheduledMap_has (r : UnitRec) (i : Slot) : (scheduledMap r).has i = r.stages[i].state.isOn :=
  slotBits_getLsbD _ i

@[simp] theorem Plant.inject_unit (p : Plant) (u v : UnitIx) (b : Bool) : (p.inject u b).unit v = p.unit v := rfl
@[simp] theorem Plant.dropInjection_unit (p : Plant) (u v : UnitIx) : (p.dropInjection u).unit v = p.unit v := rfl
@[simp] theorem Plant.dropEntry_unit (p : Plant) (u v : UnitIx) (k : Kind) : (p.dropEntry u k).unit v = p.unit v := rfl

/-- R31, R49, R61: a write of the target map writes the map and may clear the fresh flag. -/
theorem writeTarget_unit_self (prot : Bool) (u : UnitIx) (m : StageMap) (p : Plant) :
    ∃ b, (writeTarget prot u m p).unit u = { p.unit u with target := m, fresh := b } := by
  unfold writeTarget
  split
  · next h => exact ⟨(p.unit u).fresh, by rw [← h]⟩
  · refine ⟨false, ?_⟩
    dsimp only
    split
    · rw [Plant.inject_unit, Plant.unit_modUnit_self]
    · rw [Plant.unit_modUnit_self]

@[simp] theorem writeTarget_queue (prot : Bool) (u : UnitIx) (m : StageMap) (p : Plant) :
    (writeTarget prot u m p).queue = p.queue := by
  unfold writeTarget
  split
  · rfl
  · dsimp only
    split <;> rfl

@[simp] theorem writeTarget_passDue (prot : Bool) (u : UnitIx) (m : StageMap) (p : Plant) :
    (writeTarget prot u m p).passDue = p.passDue := by
  unfold writeTarget
  split
  · rfl
  · dsimp only
    split <;> rfl

end Sys2Proof.Machine

namespace Sys2Proof.Machine

/-- R61: the target map written again writes a map and may clear the fresh flag. -/
theorem refreshTarget_unit_self (prot : Bool) (u : UnitIx) (p : Plant) :
    ∃ m b, (refreshTarget prot u p).unit u = { p.unit u with target := m, fresh := b } := by
  unfold refreshTarget
  split
  · exact ⟨_, writeTarget_unit_self ..⟩
  · exact ⟨_, writeTarget_unit_self ..⟩
  · exact ⟨_, writeTarget_unit_self ..⟩
  · exact ⟨_, _, rfl⟩
  · exact ⟨_, _, rfl⟩

@[simp] theorem refreshTarget_queue (prot : Bool) (u : UnitIx) (p : Plant) :
    (refreshTarget prot u p).queue = p.queue := by
  unfold refreshTarget
  split <;> simp

@[simp] theorem refreshTarget_passDue (prot : Bool) (u : UnitIx) (p : Plant) :
    (refreshTarget prot u p).passDue = p.passDue := by
  unfold refreshTarget
  split <;> simp

/-- R61: an OFFLINE unit's target map written again follows from its stages. -/
theorem refreshTarget_offline (prot : Bool) (u : UnitIx) (p : Plant) (h : (p.unit u).state = .offline) :
    refreshTarget prot u p = writeTarget prot u (scheduledMap (p.unit u)) p := by
  unfold refreshTarget
  rw [h]

theorem leadCondition_refreshTarget (e : Env) (prot : Bool) (u : UnitIx) (p : Plant) :
    leadCondition e u (refreshTarget prot u p) = leadCondition e u p := by
  obtain ⟨m, b, hu⟩ := refreshTarget_unit_self prot u p
  exact leadCondition_congr e u (by rw [hu]) (by rw [hu]) (refreshTarget_queue ..)

/-! ## Entries withdrawn, LOCAL left, OFFLINE entered (R44, R56, R57, R84) -/

/-- The start queue without a unit's entries. -/
def withoutEntries (u : UnitIx) (q : List Entry) : List Entry :=
  (q.filter fun n => !n.isOf u .cool).filter fun n => !n.isOf u .heat

theorem unit_ne_of_mem_withoutEntries {u : UnitIx} {q : List Entry} {n : Entry} (h : n ∈ withoutEntries u q) :
    n.unit ≠ u := by
  simp only [withoutEntries, List.mem_filter, Entry.isOf, Bool.not_eq_true', Bool.and_eq_false_iff,
    decide_eq_false_iff_not] at h
  obtain ⟨⟨-, hcool⟩, hheat⟩ := h
  cases hk : n.kind <;> simp [hk] at hcool hheat <;> assumption

theorem withdrawEntries_queue (e : Env) (u : UnitIx) (r : Roof) :
    (withdrawEntries e u r).plant.queue = withoutEntries u r.plant.queue := moveUnit_queue ..

theorem withdrawEntries_passDue (e : Env) (u : UnitIx) (r : Roof) :
    (withdrawEntries e u r).plant.passDue = r.plant.passDue := moveUnit_passDue ..

/-- R63, R84: with its entries withdrawn no slot of the unit is QUEUED. -/
theorem withdrawEntries_unit_self (e : Env) (u : UnitIx) (r : Roof) :
    ∃ order, (withdrawEntries e u r).plant.unit u =
      { selectQueued false false (r.plant.unit u) with lead := order } := by
  obtain ⟨order, h⟩ := moveUnit_unit_self e u (fun p => reselect u ((p.dropEntry u .cool).dropEntry u .heat)) r
  refine ⟨order, h.trans ?_⟩
  have hnone (k : Kind) : ((r.plant.dropEntry u .cool).dropEntry u .heat).hasEntry u k = false := by
    refine List.any_eq_false.2 fun n hn => ?_
    have hne := unit_ne_of_mem_withoutEntries hn
    simp [Entry.isOf, hne]
  simp only [reselect, Plant.unit_modUnit_self, hnone, Plant.dropEntry_unit]

/-- R68: the record of a stage that has stopped, with the start time of the run before. -/
structure Stage.StoppedAt (now minOff : Nat) (before st : Stage) : Prop where
  off : st.state.isOn = false
  remote : st.state ≠ .inLocal
  stopTime : st.stopTime = some now
  startTime : st.startTime = before.startTime
  minOffEnd : st.minOffEnd = some (now + minOff)

theorem stopStage_stoppedAt (now minOff : Nat) (st : Stage) :
    Stage.StoppedAt now minOff st (stopStage now minOff st) := by
  unfold stopStage passOn
  split
  · exact ⟨rfl, nofun, rfl, rfl, rfl⟩
  · exact ⟨rfl, nofun, rfl, rfl, rfl⟩

/-- R63: the choice of the queued slots leaves a stopped stage stopped. -/
theorem selectQueued_stoppedAt {a b : Bool} {r : UnitRec} {i : Slot} {now minOff : Nat} {before : Stage}
    (h : Stage.StoppedAt now minOff before r.stages[i]) :
    Stage.StoppedAt now minOff before (selectQueued a b r).stages[i] := by
  rw [selectQueued, UnitRec.mapStages_stages]
  split
  · refine ⟨?_, ?_, h.stopTime, h.startTime, h.minOffEnd⟩ <;> dsimp only <;> split <;> simp [StageState.isOn]
  · exact h

/-- R56: a unit's record with its LOCAL stages stopped. -/
def stopLocal (e : Env) (u : UnitIx) (x : UnitRec) : UnitRec :=
  x.mapStages fun i st => if st.state = .inLocal then stopStage e.now (minOffOf e.tables u i) st else st

/-- R56: a LOCAL unit that goes OFFLINE: its LOCAL stages stop, and its target map follows from what is then on. -/
theorem leaveLocal_offline_unit (e : Env) (u : UnitIx) (r : Roof) : ∃ order b,
    (leaveLocal e u .offline r).plant.unit u = { stopLocal e u (r.plant.unit u) with
      state := .offline, lead := order, target := scheduledMap (stopLocal e u (r.plant.unit u)), fresh := b } := by
  obtain ⟨order, hmove⟩ := moveUnit_unit_self e u
    (fun p => p.modUnit u fun x => { stopLocal e u x with state := .offline }) r
  rw [Plant.unit_modUnit_self] at hmove
  have hplant : (leaveLocal e u .offline r).plant = refreshTarget false u (moveUnit e u
    (fun p => p.modUnit u fun x => { stopLocal e u x with state := .offline }) r).plant := rfl
  rw [hplant, refreshTarget_offline _ _ _ (by rw [hmove]), hmove]
  obtain ⟨b, hwrite⟩ := writeTarget_unit_self false u _ _
  exact ⟨order, b, hwrite.trans (by rw [hmove]; rfl)⟩

theorem leaveLocal_queue (e : Env) (u : UnitIx) (next : UnitState) (r : Roof) :
    (leaveLocal e u next r).plant.queue = r.plant.queue :=
  (refreshTarget_queue ..).trans (moveUnit_queue ..)

theorem leaveLocal_passDue (e : Env) (u : UnitIx) (next : UnitState) (r : Roof) :
    (leaveLocal e u next r).plant.passDue = r.plant.passDue :=
  (refreshTarget_passDue ..).trans (moveUnit_passDue ..)

/-- R57: what a unit holds that goes OFFLINE, before its entries are withdrawn. -/
def offlineStart (e : Env) (u : UnitIx) (r : Roof) : Roof :=
  if (r.plant.unit u).state = .inLocal then leaveLocal e u .offline r
  else r.onPlant fun p => p.modUnit u fun x => { x with state := .offline }

theorem enterOffline_eq (e : Env) (u : UnitIx) (r : Roof) :
    enterOffline e u r = (withdrawEntries e u (offlineStart e u r)).onPlant fun p => p.dropInjection u := rfl

theorem offlineStart_local {e : Env} {u : UnitIx} {r : Roof} (h : (r.plant.unit u).state = .inLocal) :
    offlineStart e u r = leaveLocal e u .offline r := if_pos h

theorem offlineStart_remote {e : Env} {u : UnitIx} {r : Roof} (h : (r.plant.unit u).state ≠ .inLocal) :
    offlineStart e u r = r.onPlant fun p => p.modUnit u fun x => { x with state := .offline } := if_neg h

/-- R57: the unit that goes OFFLINE keeps its record but for its state and its stages. -/
theorem enterOffline_movesTo (e : Env) (u : UnitIx) (r : Roof) :
    UnitRec.MovesTo { r.plant.unit u with state := .offline } ((enterOffline e u r).plant.unit u) := by
  refine UnitRec.MovesTo.trans ?_ ((withdrawEntries_moves e u (offlineStart e u r)).unit u)
  by_cases h : (r.plant.unit u).state = .inLocal
  · obtain ⟨order, b, hu⟩ := leaveLocal_offline_unit e u r
    rw [offlineStart_local h, hu]
    exact ⟨rfl, rfl, rfl, rfl, rfl, rfl, rfl, rfl, rfl, rfl, rfl, rfl⟩
  · rw [offlineStart_remote h, Roof.onPlant_plant, Plant.unit_modUnit_self]

/-- R57: the unit's entries are withdrawn. -/
theorem enterOffline_queue (e : Env) (u : UnitIx) (r : Roof) :
    (enterOffline e u r).plant.queue = withoutEntries u r.plant.queue := by
  rw [enterOffline_eq, Roof.onPlant_plant, Plant.dropInjection_queue, withdrawEntries_queue]
  by_cases h : (r.plant.unit u).state = .inLocal
  · rw [offlineStart_local h, leaveLocal_queue]
  · rw [offlineStart_remote h]
    rfl

theorem enterOffline_passDue (e : Env) (u : UnitIx) (r : Roof) :
    (enterOffline e u r).plant.passDue = r.plant.passDue := by
  refine (withdrawEntries_passDue e u (offlineStart e u r)).trans ?_
  by_cases h : (r.plant.unit u).state = .inLocal
  · rw [offlineStart_local h, leaveLocal_passDue]
  · rw [offlineStart_remote h]
    rfl

/-- R57: the unit's injection leaves. -/
theorem enterOffline_injections (e : Env) (u : UnitIx) (r : Roof) : u ∉ (enterOffline e u r).plant.injections :=
  (Plant.not_mem_dropInjection ..).1

/-- R57: the target map of a unit that was not LOCAL stays. -/
theorem enterOffline_target {e : Env} {u : UnitIx} {r : Roof} (h : (r.plant.unit u).state ≠ .inLocal) :
    ((enterOffline e u r).plant.unit u).target = (r.plant.unit u).target := by
  obtain ⟨order, hu⟩ := withdrawEntries_unit_self e u (offlineStart e u r)
  rw [enterOffline_eq, Roof.onPlant_plant, Plant.dropInjection_unit, hu, offlineStart_remote h, Roof.onPlant_plant,
    Plant.unit_modUnit_self]
  rfl

/-- R56, R68: a LOCAL stage of a unit that goes OFFLINE is off, with its stop time and its minimum-off end. -/
theorem enterOffline_localStage {e : Env} {u : UnitIx} {r : Roof} (h : (r.plant.unit u).state = .inLocal) {i : Slot}
    (hi : (r.plant.unit u).stages[i].state = .inLocal) :
    let y := (enterOffline e u r).plant.unit u
    y.stages[i].state.isOn = false ∧ y.stages[i].state ≠ .inLocal ∧ y.target.has i = false ∧
    y.stages[i].stopTime = some e.now ∧ y.stages[i].startTime = (r.plant.unit u).stages[i].startTime ∧
    y.stages[i].minOffEnd = some (e.now + minOffOf e.tables u i) := by
  obtain ⟨order, hu⟩ := withdrawEntries_unit_self e u (offlineStart e u r)
  obtain ⟨order', b, hl⟩ := leaveLocal_offline_unit e u r
  rw [offlineStart_local h, hl] at hu
  have hstopped : Stage.StoppedAt e.now (minOffOf e.tables u i) (r.plant.unit u).stages[i]
      (stopLocal e u (r.plant.unit u)).stages[i] := by
    rw [stopLocal, UnitRec.mapStages_stages, if_pos hi]
    exact stopStage_stoppedAt ..
  have hqueued := selectQueued_stoppedAt (a := false) (b := false) (r := { stopLocal e u (r.plant.unit u) with
    state := .offline, lead := order', target := scheduledMap (stopLocal e u (r.plant.unit u)), fresh := b }) hstopped
  rw [enterOffline_eq, Roof.onPlant_plant, Plant.dropInjection_unit, offlineStart_local h, hu]
  exact ⟨hqueued.off, hqueued.remote, (scheduledMap_has _ i).trans hstopped.off, hqueued.stopTime, hqueued.startTime,
    hqueued.minOffEnd⟩

/-- R44, R57: a unit that goes OFFLINE raises at most one LEAD_SWAPPED. -/
theorem enterOffline_notices (e : Env) (u : UnitIx) (r : Roof) :
    SwapMayFollow e u r.notices (enterOffline e u r).notices := by
  rcases moveUnit_notices e u (fun p => reselect u ((p.dropEntry u .cool).dropEntry u .heat)) (offlineStart e u r)
    with hkept | ⟨hbefore, -, hswap⟩
  · have hnotices : (enterOffline e u r).notices = (offlineStart e u r).notices := hkept
    rw [hnotices]
    by_cases h : (r.plant.unit u).state = .inLocal
    · rw [offlineStart_local h]
      rcases moveUnit_notices e u (fun p => p.modUnit u fun x => { stopLocal e u x with state := .offline }) r
        with hkept' | ⟨-, -, hswap⟩
      · exact .inl hkept'
      · exact hswap
    · rw [offlineStart_remote h]
      exact .inl rfl
  · have hstart : (offlineStart e u r).notices = r.notices := by
      by_cases h : (r.plant.unit u).state = .inLocal
      · rw [offlineStart_local h] at hbefore ⊢
        rcases moveUnit_notices e u (fun p => p.modUnit u fun x => { stopLocal e u x with state := .offline }) r
          with hkept' | ⟨-, hafter, -⟩
        · exact hkept'
        · have hcond : leadCondition e u (leaveLocal e u .offline r).plant = true := by
            refine (leadCondition_refreshTarget ..).trans ?_
            exact (leadCondition_moveUnit ..).trans hafter
          rw [hcond] at hbefore
          cases hbefore
      · rw [offlineStart_remote h]
        rfl
    rw [hstart] at hswap
    exact hswap

end Sys2Proof.Machine

namespace Sys2Proof.Machine

/-! ## A transaction that ends unanswered (R28 to R30, R34, R44) -/

/-- R44: whether the failure that brings the count to `n` sends a unit in `state` OFFLINE. -/
def GoesOffline (e : Env) (state : UnitState) (n : Nat) : Prop :=
  state ≠ .offline ∧ e.tables.roof.offlineThreshold ≤ n

/-- R44: the unit's record with its failures counted to `n`. -/
def countFailure (u : UnitIx) (n : Nat) (r : Roof) : Roof :=
  r.onPlant fun p => p.modUnit u fun x => { x with failures := n }

/-- R44: a failure below the threshold, or of an OFFLINE unit, is counted and no more. -/
theorem reportUnanswered_stays {e : Env} {u : UnitIx} {r : Roof}
    (h : ¬GoesOffline e (r.plant.unit u).state (min 255 ((r.plant.unit u).failures + 1))) :
    reportUnanswered e u r = countFailure u (min 255 ((r.plant.unit u).failures + 1)) r := by
  unfold reportUnanswered
  unfold GoesOffline at h
  dsimp only
  split <;> simp_all [satAdd, countFailure, Roof.onPlant]

/-- R44, R57: the failure that reaches the threshold sends the unit OFFLINE, and UNIT_OFFLINE stands behind. -/
theorem reportUnanswered_goes {e : Env} {u : UnitIx} {r : Roof} (ha : (r.plant.unit u).state ≠ .absent)
    (h : GoesOffline e (r.plant.unit u).state (min 255 ((r.plant.unit u).failures + 1))) :
    reportUnanswered e u r = (enterOffline e u (countFailure u (min 255 ((r.plant.unit u).failures + 1)) r)).raise e
      .unitOffline (u.val + 1) none (some ((min 255 ((r.plant.unit u).failures + 1) : Nat) : Int)) := by
  obtain ⟨hne, hn⟩ := h
  unfold reportUnanswered
  dsimp only
  split
  · exact if_pos hn
  · exact if_pos hn
  · exact if_pos hn
  · next hs => exact absurd hs hne
  · next hs => exact absurd hs ha

theorem countFailure_unit (u : UnitIx) (n : Nat) (r : Roof) :
    (countFailure u n r).plant.unit u = { r.plant.unit u with failures := n } := Plant.unit_modUnit_self ..

/-- The state a transaction to a fitted unit leaves that ends unanswered, before its answer and its repetition. -/
theorem reportFailure_some {x : Transaction} {s : State} {u : UnitIx} (h : x.reportsTo = some u) :
    reportFailure x s = s.onRoof fun e r => reportUnanswered e u r := by
  simp only [reportFailure, h]

theorem reportFailure_none {x : Transaction} {s : State} (h : x.reportsTo = none) : reportFailure x s = s := by
  simp only [reportFailure, h]

theorem Transaction.reportsTo_of_reported {x : Transaction} {u : UnitIx} (hu : x.unit = some u)
    (hr : x.unreported = false) : x.reportsTo = some u := by
  simp [Transaction.reportsTo, hu, hr]

theorem Transaction.reportsTo_eq_none {x : Transaction} (h : x.unit = none ∨ x.unreported = true) :
    x.reportsTo = none := by
  rcases h with h | h <;> simp [Transaction.reportsTo, h]

/-- R34: the repetition rule asks for an injection at most. -/
theorem repetition_frame (u : UnitIx) (p : Plant) :
    (repetition u p).units = p.units ∧ (repetition u p).queue = p.queue ∧ (repetition u p).passDue = p.passDue := by
  unfold repetition
  dsimp only
  split <;> exact ⟨rfl, rfl, rfl⟩

/-- R34: a unit that is not ONLINE gets no repetition. -/
theorem repetition_not_online {u : UnitIx} {p : Plant} (h : (p.unit u).state ≠ .online) : repetition u p = p :=
  if_neg fun hc => h hc.1

/-- R34: an ONLINE unit without a pending injection gets one exactly where its maps differ. -/
theorem mem_repetition_iff {u : UnitIx} {p : Plant} (hs : (p.unit u).state = .online) (hi : u ∉ p.injections) :
    u ∈ (repetition u p).injections ↔ (p.unit u).ack ≠ (p.unit u).target := by
  unfold repetition
  dsimp only
  split
  · next h => exact ⟨fun _ => h.2.1, fun _ => Plant.mem_inject ..⟩
  · next h => exact ⟨fun hm => absurd hm hi, fun hne => absurd ⟨hs, hne, hi⟩ h⟩

/-- R34: the repetition rule of a transaction, on the plant. -/
theorem repeatMap_plant (x : Transaction) (s : State) :
    (repeatMap x s).plant = s.plant ∨
      ∃ u, x.reportsTo = some u ∧ (repeatMap x s).plant = repetition u s.plant := by
  unfold repeatMap
  split
  · next u _ hu => exact .inr ⟨u, hu, rfl⟩
  · exact .inl rfl

/-- The repetition rule reads and writes the plant alone. -/
theorem repeatMap_congr (x : Transaction) {s t : State} (h : t.plant = s.plant) :
    repeatMap x t = { t with plant := (repeatMap x s).plant } := by
  unfold repeatMap
  split
  · exact congrArg (fun p => { t with plant := p }) (congrArg _ h)
  · exact congrArg (fun p => { t with plant := p }) h

/-- R34: the repetition rule leaves unit records and the start queue. -/
theorem repeatMap_frame (x : Transaction) (s : State) :
    (repeatMap x s).plant.units = s.plant.units ∧ (repeatMap x s).plant.queue = s.plant.queue ∧
    (repeatMap x s).plant.passDue = s.plant.passDue := by
  rcases repeatMap_plant x s with h | ⟨u, -, h⟩
  · rw [h]
    exact ⟨rfl, rfl, rfl⟩
  · rw [h]
    exact repetition_frame u s.plant

theorem repeatMap_stageMap {x : Transaction} {s : State} {u v : UnitIx} (hq : x.request = .stageMap v)
    (hu : x.reportsTo = some u) : (repeatMap x s).plant = repetition u s.plant := by
  simp only [repeatMap, hq, hu]
  rfl

theorem repeatMap_none {x : Transaction} {s : State} (h : x.reportsTo = none) : repeatMap x s = s := by
  unfold repeatMap
  rw [h]
  cases x.request <;> rfl

/-- R29: no one is answered for an injection or a poll. -/
theorem answerRelay_other {x : Transaction} {s : State} (answer : State → Frame → Frame) (h : x.origin ≠ .relay) :
    answerRelay x answer s = s := if_neg h

/-- R18: the relay head is answered and leaves. -/
theorem answerRelay_relay {x : Transaction} {s : State} {head : Frame} {rest : List Frame}
    (answer : State → Frame → Frame) (h : x.origin = .relay) (hr : s.link.relay = head :: rest) :
    answerRelay x answer s =
      { s with link := { s.link with relay := rest, replies := s.link.replies ++ [⟨answer s head, false⟩] } } := by
  refine (if_pos h).trans ?_
  exact congrArg (fun l => { s with link := l }) (Link.answerHead_cons _ hr)

/-- A relayed request's answer is the link's alone. -/
theorem answerRelay_frame (x : Transaction) (answer : State → Frame → Frame) (s : State) :
    answerRelay x answer s = { s with link := (answerRelay x answer s).link } := by
  unfold answerRelay
  split <;> rfl

/-- R18, R30: the ports and queues with a relayed request answered from the report of its failure. -/
def noReplyLink (x : Transaction) (s : State) : Link :=
  (answerRelay x (fun s => noReplyAnswer s x.reportsTo x.attempt) (reportFailure x s)).link

theorem reportFailure_link (x : Transaction) (s : State) : (reportFailure x s).link = s.link := by
  unfold reportFailure
  split <;> rfl

theorem reportFailure_tables (x : Transaction) (s : State) : (reportFailure x s).tables = s.tables := by
  unfold reportFailure
  split <;> rfl

/-- R2, R28 to R30, R34: an unanswered transaction is reported, the repetition rule is carried out, a relayed request is
answered, and the trunk is FREE. -/
theorem endUnanswered_eq (x : Transaction) (s : State) :
    endUnanswered x s = { reportFailure x s with
      plant := (repeatMap x (reportFailure x s)).plant
      link := takeTrunkRate s.tables.roof { noReplyLink x s with trunk := .free } } := by
  have hanswer := answerRelay_frame x (fun s => noReplyAnswer s x.reportsTo x.attempt) (reportFailure x s)
  unfold endUnanswered
  rw [repeatMap_congr x (s := reportFailure x s) (by rw [hanswer]), hanswer, ← reportFailure_tables x s]
  rfl

theorem noReplyLink_other {x : Transaction} {s : State} (h : x.origin ≠ .relay) : noReplyLink x s = s.link := by
  rw [noReplyLink, answerRelay_other _ h, reportFailure_link]

theorem noReplyLink_relay {x : Transaction} {s : State} {head : Frame} {rest : List Frame} (h : x.origin = .relay)
    (hr : s.link.relay = head :: rest) :
    noReplyLink x s = { s.link with
      relay := rest
      replies := s.link.replies ++ [⟨noReplyAnswer (reportFailure x s) x.reportsTo x.attempt head, false⟩] } := by
  rw [noReplyLink, answerRelay_relay _ h ((reportFailure_link x s).symm ▸ hr), reportFailure_link]

theorem endUnanswered_link (x : Transaction) (s : State) :
    (endUnanswered x s).link.trunk = .free ∧ (endUnanswered x s).link.relay = (noReplyLink x s).relay ∧
    (endUnanswered x s).link.replies = (noReplyLink x s).replies ∧
    (endUnanswered x s).link.trunkRate = s.tables.roof.trunkRate ∧
    (endUnanswered x s).link.trunkRx =
      if (noReplyLink x s).trunkRate = s.tables.roof.trunkRate then (noReplyLink x s).trunkRx else .hunt := by
  rw [endUnanswered_eq, takeTrunkRate_eq]
  exact ⟨rfl, rfl, rfl, rfl, rfl⟩

/-! ### The report to a fitted unit -/

theorem reportUnanswered_passDue {e : Env} {u : UnitIx} {r : Roof} (ha : (r.plant.unit u).state ≠ .absent) :
    (reportUnanswered e u r).plant.passDue = r.plant.passDue := by
  by_cases h : GoesOffline e (r.plant.unit u).state (min 255 ((r.plant.unit u).failures + 1))
  · rw [reportUnanswered_goes ha h, Roof.raise_plant, enterOffline_passDue]
    rfl
  · rw [reportUnanswered_stays h]
    rfl

/-- R44: the failures counted, and nothing of the record but its state and its stages moved. -/
theorem reportUnanswered_record {e : Env} {u : UnitIx} {r : Roof} (ha : (r.plant.unit u).state ≠ .absent) :
    let y := (reportUnanswered e u r).plant.unit u
    y.failures = min 255 ((r.plant.unit u).failures + 1) ∧ y.ack = (r.plant.unit u).ack ∧
    y.status = (r.plant.unit u).status := by
  by_cases h : GoesOffline e (r.plant.unit u).state (min 255 ((r.plant.unit u).failures + 1))
  · have hmoves := enterOffline_movesTo e u (countFailure u (min 255 ((r.plant.unit u).failures + 1)) r)
    rw [countFailure_unit] at hmoves
    rw [reportUnanswered_goes ha h, Roof.raise_plant]
    exact ⟨hmoves.failures, hmoves.ack, hmoves.status⟩
  · rw [reportUnanswered_stays h, countFailure_unit]
    exact ⟨rfl, rfl, rfl⟩

/-- R44, R56, R57: what a unit that goes OFFLINE for a failure shows. -/
theorem reportUnanswered_offline {e : Env} {u : UnitIx} {r : Roof} (ha : (r.plant.unit u).state ≠ .absent)
    (h : GoesOffline e (r.plant.unit u).state (min 255 ((r.plant.unit u).failures + 1))) :
    let q := reportUnanswered e u r
    let y := q.plant.unit u
    y.state = .offline ∧ (∀ m ∈ q.plant.queue, m.unit ≠ u) ∧ u ∉ q.plant.injections ∧
    (∃ ns, SwapMayFollow e u r.notices ns ∧ q.notices = raiseNotice e.tables e.now .unitOffline (u.val + 1) none
      (some ((min 255 ((r.plant.unit u).failures + 1) : Nat) : Int)) ns) ∧
    ((r.plant.unit u).state ≠ .inLocal → y.target = (r.plant.unit u).target) ∧
    ((r.plant.unit u).state = .inLocal → ∀ i : Slot, (r.plant.unit u).stages[i].state = .inLocal →
      y.stages[i].state.isOn = false ∧ y.stages[i].state ≠ .inLocal ∧ y.target.has i = false ∧
      y.stages[i].stopTime = some e.now ∧ y.stages[i].startTime = (r.plant.unit u).stages[i].startTime ∧
      y.stages[i].minOffEnd = some (e.now + minOffOf e.tables u i)) := by
  rw [reportUnanswered_goes ha h]
  have hunit := countFailure_unit u (min 255 ((r.plant.unit u).failures + 1)) r
  have hnotices : (countFailure u (min 255 ((r.plant.unit u).failures + 1)) r).notices = r.notices := rfl
  generalize countFailure u (min 255 ((r.plant.unit u).failures + 1)) r = counted at hunit hnotices
  have hstate : (counted.plant.unit u).state = (r.plant.unit u).state := by rw [hunit]
  have hstages : (counted.plant.unit u).stages = (r.plant.unit u).stages := by rw [hunit]
  refine ⟨(enterOffline_movesTo e u _).state, ?_, enterOffline_injections e u _, ?_, fun hs => ?_, fun hs i hi => ?_⟩
  · intro m hm
    exact unit_ne_of_mem_withoutEntries ((enterOffline_queue e u _) ▸ hm)
  · exact ⟨_, hnotices ▸ enterOffline_notices e u counted, rfl⟩
  · refine (enterOffline_target (hstate ▸ hs)).trans ?_
    rw [hunit]
  · have hlocal := enterOffline_localStage (e := e) (r := counted) (hstate.trans hs) (i := i) (by rw [hstages]; exact hi)
    rw [hstages] at hlocal
    exact hlocal

/-- R34: below the threshold the report changes the count alone. -/
theorem reportFailure_stays {x : Transaction} {s : State} {u : UnitIx} (hx : x.reportsTo = some u)
    (h : ¬GoesOffline s.env (s.plant.unit u).state (min 255 ((s.plant.unit u).failures + 1))) :
    reportFailure x s = { s with
      plant := s.plant.modUnit u fun r => { r with failures := min 255 ((s.plant.unit u).failures + 1) } } := by
  rw [reportFailure_some hx, State.onRoof, reportUnanswered_stays h]
  rfl

/-- R30: the NO_REPLY answer of a fitted unit's request. -/
theorem noReplyAnswer_fitted (s : State) (u : UnitIx) (n : Nat) (head : Frame) :
    ((head.kind = 0x01 ∨ head.kind = 0x02) → noReplyAnswer s (some u) n head =
      ⟨head.addr, head.tag, head.kind ||| 0x80, 0x1B, [0x07, BitVec.ofNat 8 n] ++ TrailerBytes s u⟩) ∧
    (head.kind ≠ 0x01 → head.kind ≠ 0x02 → noReplyAnswer s (some u) n head =
      ⟨head.addr, head.tag, head.kind ||| 0x80, 0x13, [0x07, BitVec.ofNat 8 n]⟩) := by
  constructor
  · intro hk
    exact (if_pos hk).trans (trailedReply_noReply s u)
  · intro h1 h2
    exact (if_neg fun hk => hk.elim h1 h2).trans (noReplyPlain_eq head n)

/-- The state a REPLY_TIMEOUT leaves that ends a transaction, with no pass due. -/
theorem exec_replyTimeout_exhausted {s : State} {x : Transaction} (hp : s.powered = true)
    (hx : s.link.trunk = .awaiting x) (he : Exhausted x) (hd : (reportFailure x s).plant.passDue = false) :
    exec .replyTimeout s = .next (driveOutputs (endUnanswered x s)) := by
  rw [exec_replyTimeout hp, replyTimerEnds_exhausted hx he, conclude_no_pass]
  rw [endUnanswered_eq]
  exact (repeatMap_frame x _).2.2.trans hd

/-- R28 to R30, R34, R44, R56, R57: an exhausted transaction of a fitted unit. -/
theorem replyTimeout_fitted {s : State} {x : Transaction} {u : UnitIx} (hready : Ready s)
    (hx : s.link.trunk = .awaiting x) (hu : x.unit = some u) (hr : x.unreported = false) (he : Exhausted x)
    (ha : (s.plant.unit u).state ≠ .absent) :
    let r := s.plant.unit u
    let n := min 255 (r.failures + 1)
    let goes := r.state ≠ .offline ∧ s.tables.roof.offlineThreshold ≤ n
    ∃ t, exec .replyTimeout s = .next t ∧ t.link.trunk = .free ∧
      let y := t.plant.unit u
      y.failures = n ∧ y.ack = r.ack ∧ y.status = r.status ∧
      (¬goes → y.state = r.state ∧ y.target = r.target ∧ y.stages = r.stages ∧ t.plant.queue = s.plant.queue ∧
        t.notices = s.notices ∧
        (x.request = .stageMap u → r.state = .online → u ∉ s.plant.injections →
          (u ∈ t.plant.injections ↔ r.ack ≠ r.target))) ∧
      (goes → y.state = .offline ∧ (∀ m ∈ t.plant.queue, m.unit ≠ u) ∧ u ∉ t.plant.injections ∧
        (∃ ns, SwapMayFollow s.env u s.notices ns ∧
          t.notices = raiseNotice s.tables s.seconds .unitOffline (u.val + 1) none (some (n : Int)) ns) ∧
        (r.state ≠ .inLocal → y.target = r.target) ∧
        (r.state = .inLocal → ∀ i : Slot, r.stages[i].state = .inLocal →
          y.stages[i].state.isOn = false ∧ y.stages[i].state ≠ .inLocal ∧ y.target.has i = false ∧
          y.stages[i].stopTime = some s.seconds ∧ y.stages[i].startTime = r.stages[i].startTime ∧
          y.stages[i].minOffEnd = some (s.seconds + minOffOf s.tables u i))) ∧
      (x.origin ≠ .relay → t.link.replies = s.link.replies ∧ t.link.relay = s.link.relay) ∧
      (∀ head rest, x.origin = .relay → s.link.relay = head :: rest → t.link.relay = rest ∧
        ((head.kind = 0x01 ∨ head.kind = 0x02) → t.link.replies = s.link.replies ++
          [⟨⟨head.addr, head.tag, head.kind ||| 0x80, 0x1B,
            [0x07, BitVec.ofNat 8 x.attempt] ++ TrailerBytes t u⟩, false⟩]) ∧
        (head.kind ≠ 0x01 → head.kind ≠ 0x02 → t.link.replies = s.link.replies ++
          [⟨⟨head.addr, head.tag, head.kind ||| 0x80, 0x13, [0x07, BitVec.ofNat 8 x.attempt]⟩, false⟩])) := by
  intro r n goes
  have hrep : x.reportsTo = some u := Transaction.reportsTo_of_reported hu hr
  have hreport : reportFailure x s = s.onRoof fun e r => reportUnanswered e u r := reportFailure_some hrep
  have hdue : (reportFailure x s).plant.passDue = false := by
    rw [hreport]
    exact (reportUnanswered_passDue ha).trans hready.2
  obtain ⟨hunits, hqueue, -⟩ := repeatMap_frame x (reportFailure x s)
  obtain ⟨htrunk, hrelay, hreplies, -, -⟩ := endUnanswered_link x s
  have hplant : (endUnanswered x s).plant = (repeatMap x (reportFailure x s)).plant := by rw [endUnanswered_eq]
  have hunit : (endUnanswered x s).plant.unit u = (reportUnanswered s.env u s.roof).plant.unit u := by
    rw [hplant, Plant.unit, hunits, hreport]
    rfl
  have hnotices : (endUnanswered x s).notices = (reportUnanswered s.env u s.roof).notices := by
    rw [endUnanswered_eq, hreport]
    rfl
  refine ⟨_, exec_replyTimeout_exhausted hready.1 hx he hdue, htrunk, ?_⟩
  simp only [driveOutputs_plant, driveOutputs_notices, driveOutputs_link, hunit, hnotices]
  obtain ⟨hfail, hack, hstatus⟩ := reportUnanswered_record (e := s.env) (r := s.roof) ha
  refine ⟨hfail, hack, hstatus, fun hstays => ?_, fun hgoes => ?_, fun ho => ?_, fun head rest ho hhead => ?_⟩
  · have hcount := reportFailure_stays hrep hstays
    have hroof := reportUnanswered_stays (e := s.env) (u := u) (r := s.roof) hstays
    have hrecord : (reportUnanswered s.env u s.roof).plant.unit u = { r with failures := n } := by
      rw [hroof]
      exact countFailure_unit ..
    rw [hplant, hqueue, hcount, hrecord]
    refine ⟨rfl, rfl, rfl, rfl, by rw [hroof]; rfl, fun hq hs hi => ?_⟩
    rw [repeatMap_stageMap hq hrep]
    have hself := Plant.unit_modUnit_self s.plant u fun r => { r with failures := n }
    have hmem := mem_repetition_iff (u := u) (p := s.plant.modUnit u fun r => { r with failures := n })
      (by rw [hself]; exact hs) hi
    rw [hself] at hmem
    exact hmem
  · have hoffline := reportUnanswered_offline (e := s.env) (r := s.roof) ha hgoes
    have hkept : (endUnanswered x s).plant = (reportUnanswered s.env u s.roof).plant := by
      rw [hplant]
      rcases repeatMap_plant x (reportFailure x s) with h | ⟨v, hv, h⟩
      · rw [h, hreport]
        rfl
      · obtain rfl := Option.some.inj (hrep.symm.trans hv)
        rw [h, hreport, State.onRoof_plant]
        exact repetition_not_online (by rw [hoffline.1]; nofun)
    rw [hkept]
    exact hoffline
  · rw [hreplies, hrelay, noReplyLink_other ho]
    exact ⟨rfl, rfl⟩
  · have htrailer : TrailerBytes (reportFailure x s) u = TrailerBytes (driveOutputs (endUnanswered x s)) u := by
      rw [← trailerOf_eq, ← trailerOf_eq]
      refine (trailerOf_congr ?_ (hplant ▸ hqueue) (by rw [endUnanswered_eq]; rfl) (by rw [endUnanswered_eq]; rfl)).symm
      rw [driveOutputs_plant, hplant, Plant.unit, hunits]
      rfl
    obtain ⟨htrailed, hplain⟩ := noReplyAnswer_fitted (reportFailure x s) u x.attempt head
    rw [hreplies, hrelay, noReplyLink_relay ho hhead, hrep]
    refine ⟨rfl, fun hk => ?_, fun h1 h2 => ?_⟩
    · rw [htrailed hk, htrailer]
    · rw [hplain h1 h2]

/-- R28, R30: an exhausted relayed request that reports to no unit record. -/
theorem replyTimeout_unreported {s : State} {x : Transaction} {f : Frame} {rest : List Frame} (hready : Ready s)
    (hx : s.link.trunk = .awaiting x) (ho : x.origin = .relay) (hn : x.unit = none ∨ x.unreported = true)
    (he : Exhausted x) (hf : s.link.relay = f :: rest) :
    ∃ t, exec .replyTimeout s = .next t ∧ t.link.trunk = .free ∧ t.link.relay = rest ∧
      t.link.replies = s.link.replies ++
        [⟨⟨f.addr, f.tag, f.kind ||| 0x80, 0x13, [0x07, BitVec.ofNat 8 x.attempt]⟩, false⟩] ∧
      t.plant = s.plant ∧ t.link.trunkRate = s.tables.roof.trunkRate ∧
      t.link.trunkRx = if s.link.trunkRate = s.tables.roof.trunkRate then s.link.trunkRx else .hunt := by
  have hrep := Transaction.reportsTo_eq_none hn
  have hreport : reportFailure x s = s := reportFailure_none hrep
  have hlink := noReplyLink_relay ho hf
  obtain ⟨htrunk, hrelay, hreplies, hrate, hrx⟩ := endUnanswered_link x s
  refine ⟨_, exec_replyTimeout_exhausted hready.1 hx he (by rw [hreport]; exact hready.2), htrunk, ?_⟩
  simp only [driveOutputs_link, driveOutputs_plant, hrelay, hreplies, hrate, hrx, hlink, true_and]
  refine ⟨?_, ?_⟩
  · rw [hrep, ← noReplyPlain_eq]
    rfl
  · rw [endUnanswered_eq, hreport, repeatMap_none hrep]
    exact ⟨rfl, trivial⟩

/-- Settles O14: the held attempt, the end of its transmission, the retry, and the two exhausted transactions. -/
theorem attemptsStartRetryAndEnd : Obligations.AttemptsStartRetryAndEnd := by
  refine ⟨fun s x hp hx => ?_, fun s x o hp hx ha => ?_, fun s x o f rest hp hx ha hf => ?_,
    fun s x hready hx hs ha hq => ?_, fun s x u => replyTimeout_fitted,
    fun s x f rest => replyTimeout_unreported⟩
  · refine ⟨_, attemptOf x s, exec_turnaroundEnd hp, ?_⟩
    rw [turnaroundEnds_ready hx]
    exact ⟨rfl, rfl, rfl, rfl, rfl, beginAttempt_sending x (s.onLink fun l => { l with quiet := true }), rfl, rfl, rfl⟩
  · rw [exec_attemptSent hp, attemptEnds_sending hx, if_neg ha]
    rfl
  · refine ⟨_, exec_attemptSent hp, ?_⟩
    rw [attemptEnds_sending hx, if_pos ha, freeTrunk_link, State.onLink_link, Link.answerHead_cons _ hf,
      broadcastAck_eq]
    exact ⟨rfl, rfl, rfl, rfl, rfl, rfl⟩
  · refine ⟨_, attemptOf { x with attempt := x.attempt + 1 } s, exec_replyTimeout hready.1, ?_⟩
    rw [replyTimerEnds_retry hx hs ha hq, conclude_no_pass _ ((beginAttempt_passDue ..).trans hready.2)]
    exact ⟨rfl, rfl, rfl, beginAttempt_sending _ s, rfl, rfl⟩

end Sys2Proof.Machine

namespace Sys2Proof.Machine

/-! ## Units at rest: what a settlement finds nothing to do for -/

/-- A change that leaves the unit's record leaves the plant. -/
theorem Plant.modUnit_eq_self {p : Plant} {u : UnitIx} {f : UnitRec → UnitRec} (h : f (p.unit u) = p.unit u) :
    p.modUnit u f = p := by
  have hset : p.units.set u (f p.units[u]) = p.units := by
    rw [show f p.units[u] = p.units[u] from h]
    exact Vector.set_getElem_self ..
  unfold Plant.modUnit
  rw [hset]

theorem Plant.modUnit_modUnit (p : Plant) (u : UnitIx) (f g : UnitRec → UnitRec) :
    (p.modUnit u f).modUnit u g = p.modUnit u fun x => g (f x) := by
  unfold Plant.modUnit
  simp

theorem Plant.modUnit_congr {p : Plant} {u : UnitIx} {f g : UnitRec → UnitRec} (h : f (p.unit u) = g (p.unit u)) :
    p.modUnit u f = p.modUnit u g :=
  congrArg (fun x => { p with units := p.units.set u x }) h

theorem UnitRec.mapStages_congr {r : UnitRec} {f g : Slot → Stage → Stage}
    (h : ∀ i : Slot, f i r.stages[i] = g i r.stages[i]) : r.mapStages f = r.mapStages g := by
  unfold UnitRec.mapStages
  simp only [h]

/-- A change of every stage that leaves each, with no NOT_PROVEN count held, leaves the record. -/
theorem UnitRec.mapStages_eq_self {r : UnitRec} {f : Slot → Stage → Stage} (h : ∀ i : Slot, f i r.stages[i] = r.stages[i])
    (hp : ∀ i : Slot, r.notProven[i] = 0) : r.mapStages f = r := by
  have hstages : (tabulate fun i : Slot => f i r.stages[i]) = r.stages := by
    refine Vector.ext fun i hi => ?_
    rw [tabulate_getElem]
    exact h ⟨i, hi⟩
  have hproven : (tabulate fun i : Slot => if (f i r.stages[i]).state.isProving then r.notProven[i] else 0) =
      r.notProven := by
    refine Vector.ext fun i hi => ?_
    have hzero : r.notProven[i] = 0 := hp ⟨i, hi⟩
    simp only [tabulate_getElem, Fin.getElem_fin, hzero, ite_self]
  unfold UnitRec.mapStages
  rw [hstages, hproven]

/-- A move that leaves the lead/lag condition as it was has no check behind it (R78). -/
theorem moveUnit_eq_onPlant {e : Env} {u : UnitIx} {f : Plant → Plant} {r : Roof}
    (h : leadCondition e u (f r.plant) = leadCondition e u r.plant) : moveUnit e u f r = r.onPlant f := by
  unfold moveUnit
  rw [h]
  cases leadCondition e u r.plant <;> rfl

/-- R60, R62, R72: a stage that rests and is not free to start. -/
def StageState.isStill (st : StageState) : Bool := st.rests && !st.isFree && !st.isOn

theorem StageState.isStill_iff (st : StageState) :
    st.isStill = true ↔ st.rests = true ∧ st.isFree = false ∧ st.isOn = false := by
  simp [StageState.isStill, and_assoc]

/-- R61: a target map that follows from the stages is not written again. -/
theorem refreshTarget_eq_self {prot : Bool} {u : UnitIx} {p : Plant} (h : (p.unit u).target = scheduledMap (p.unit u)) :
    refreshTarget prot u p = p := by
  have hwrite : writeTarget prot u (scheduledMap (p.unit u)) p = p := if_pos h
  unfold refreshTarget
  split
  · exact hwrite
  · exact hwrite
  · exact hwrite
  · rfl
  · rfl

/-- R69 to R71, R83: a settlement of an UNADOPTED unit without entries whose stages are still and whose target map
follows from them does nothing. -/
theorem settle_still {e : Env} {u : UnitIx} {r : Roof} (hs : (r.plant.unit u).state = .unadopted)
    (hstill : ∀ i : Slot, (r.plant.unit u).stages[i].state.isStill = true)
    (hp : ∀ i : Slot, (r.plant.unit u).notProven[i] = 0) (ht : (r.plant.unit u).target = scheduledMap (r.plant.unit u))
    (hq : ∀ k, r.plant.hasEntry u k = false) : settle e u r = r := by
  have hoff (i : Slot) : (r.plant.unit u).stages[i].state.isOn = false := ((StageState.isStill_iff _).1 (hstill i)).2.2
  have hfree (i : Slot) : (r.plant.unit u).stages[i].state.isFree = false :=
    ((StageState.isStill_iff _).1 (hstill i)).2.1
  have hmarks : r.plant.modUnit u (settleMarks e u) = r.plant :=
    Plant.modUnit_eq_self (UnitRec.mapStages_eq_self (fun i => by rw [settleStage, hoff i]; rfl) hp)
  have hselect : reselect u r.plant = r.plant :=
    Plant.modUnit_eq_self (UnitRec.mapStages_eq_self (fun i => by rw [hfree i]; rfl) hp)
  have hexamine (k : Kind) : examine e u k r.plant = r.plant := by
    unfold examine
    simp [hq k, hs]
  have hmove : moveUnit e u (fun p => p.modUnit u (settleMarks e u)) r = r := by
    rw [moveUnit_eq_onPlant (by rw [hmarks]), Roof.onPlant, hmarks]
  have hrefresh : r.onPlant (refreshTarget false u) = r := by
    rw [Roof.onPlant, refreshTarget_eq_self ht]
  unfold settle
  rw [if_pos (by rw [hs]; rfl), hmove, hrefresh, examineUnit,
    moveUnit_eq_onPlant (by rw [hexamine, hexamine, hselect]), Roof.onPlant, hexamine, hexamine, hselect]

/-! ## The roof shutdown at a reset (R145, R174) -/

/-- R145: the SHUTDOWN cause entered at `now`. -/
def shutdownCause (now : Nat) : Cause := ⟨.shutdown, none, .any, false, true, now⟩

/-- R72, R145: a fitted unit's record after a reset at `at0`, with the SHUTDOWN cause of `now`. -/
def shutUnit (t : Tables) (u : UnitIx) (at0 now : Nat) : UnitRec :=
  { (freshUnit t u at0).mapStages fun i st => if t.units[u].bound i then { st with state := .trippedAuto } else st with
    causes := [shutdownCause now] }

theorem freshUnit_stage (t : Tables) (u : UnitIx) (at0 : Nat) (i : Slot) :
    (freshUnit t u at0).stages[i] = freshStage t u i at0 := by
  simp [freshUnit]

theorem freshStage_still (t : Tables) (u : UnitIx) (i : Slot) (at0 : Nat) :
    (freshStage t u i at0).state.isStill = true := by
  unfold freshStage
  split <;> rfl

theorem freshUnit_still (t : Tables) (u : UnitIx) (at0 : Nat) (i : Slot) :
    (freshUnit t u at0).stages[i].state.isStill = true := by
  rw [freshUnit_stage]
  exact freshStage_still ..

theorem freshUnit_notProven (t : Tables) (u : UnitIx) (at0 : Nat) (i : Slot) : (freshUnit t u at0).notProven[i] = 0 := by
  simp [freshUnit]

theorem shutUnit_stage (t : Tables) (u : UnitIx) (at0 now : Nat) (i : Slot) : (shutUnit t u at0 now).stages[i] =
    if t.units[u].bound i then { freshStage t u i at0 with state := .trippedAuto } else freshStage t u i at0 := by
  refine (UnitRec.mapStages_stages _ _ i).trans ?_
  rw [freshUnit_stage]

theorem shutUnit_still (t : Tables) (u : UnitIx) (at0 now : Nat) (i : Slot) :
    (shutUnit t u at0 now).stages[i].state.isStill = true := by
  rw [shutUnit_stage]
  split
  · rfl
  · exact freshStage_still ..

theorem shutUnit_notProven (t : Tables) (u : UnitIx) (at0 now : Nat) (i : Slot) :
    (shutUnit t u at0 now).notProven[i] = 0 := by
  simp [shutUnit, UnitRec.mapStages, freshUnit]

/-- R61, R75: with no slot on and the fan forced off the map is the empty one. -/
theorem scheduledMap_eq_empty {r : UnitRec} (hoff : ∀ i : Slot, r.stages[i].state.isOn = false)
    (hfan : fanForcedOff r = true) : scheduledMap r = emptyMap := by
  have hslots : (slotBits fun i => r.stages[i].state.isOn) = 0 := by
    rw [show (fun i : Slot => r.stages[i].state.isOn) = fun _ => false from funext hoff]
    decide
  unfold scheduledMap
  rw [hslots, hfan]
  rfl

theorem shutUnit_target (t : Tables) (u : UnitIx) (at0 now : Nat) :
    (shutUnit t u at0 now).target = scheduledMap (shutUnit t u at0 now) :=
  (scheduledMap_eq_empty (fun _ => ((StageState.isStill_iff _).1 (shutUnit_still ..)).2.2) rfl).symm

/-- The lead/lag condition of a unit whose stages all rest (R78). -/
theorem leadCondition_resting {e : Env} {u : UnitIx} {p : Plant}
    (h : ∀ i : Slot, (p.unit u).stages[i].state.isStill = true) : leadCondition e u p =
      ((e.cfg u).leadLag && decide (2 ≤ (p.unit u).lead.length) && !p.hasEntry u .cool) := by
  have hall : (slotsOf .cool).all (fun i => !(e.cfg u).bound i || (p.unit u).stages[i].state.rests) = true :=
    List.all_eq_true.2 fun _ _ => by rw [((StageState.isStill_iff _).1 (h _)).1, Bool.or_true]
  rw [leadCondition, hall, Bool.and_true]

/-- R145: the unit holds the SHUTDOWN cause, its stages not yet moved. -/
def holdShutdown (e : Env) (u : UnitIx) (r : Roof) : Roof :=
  r.onPlant fun p => p.modUnit u fun x => { x with causes := x.causes ++ [shutdownCause e.now] }

/-- R72: a unit's record with the stages in a cause's scope tripped. -/
def tripRecord (e : Env) (u : UnitIx) (scope : Slot → Bool) (x : UnitRec) : UnitRec :=
  x.mapStages fun i st =>
    if (e.cfg u).bound i && scope i then tripStage e.now (minOffOf e.tables u i) x.causes i st else st

/-- R72, R145: the roof with a unit that was as after a reset shut down. -/
def shutRoof (e : Env) (u : UnitIx) (at0 : Nat) (r : Roof) : Roof :=
  r.onPlant fun p => p.modUnit u fun _ => shutUnit e.tables u at0 e.now

theorem shutRoof_unit_self (e : Env) (u : UnitIx) (at0 : Nat) (r : Roof) :
    (shutRoof e u at0 r).plant.unit u = shutUnit e.tables u at0 e.now := Plant.unit_modUnit_self ..

theorem tripSlots_eq (e : Env) (u : UnitIx) (scope : Slot → Bool) (r : Roof) : tripSlots e u scope r =
    settle e u ((moveUnit e u (fun p => p.modUnit u (tripRecord e u scope)) r).onPlant (refreshTarget true u)) := rfl

theorem enterShutdown_eq {e : Env} {u : UnitIx} {r : Roof} (h : holdsCause (r.plant.unit u) .shutdown none = false) :
    enterShutdown e u r = (tripSlots e u (fun _ => true) (holdShutdown e u r)).onPlant (injectShutdown u) :=
  if_neg (by rw [h]; nofun)

/-- R72: the SHUTDOWN cause trips a bound stage that is as after a reset, for as long as it lasts. -/
theorem tripStage_shutdown (now minOff entered : Nat) (i : Slot) {st : Stage} (h : st.state.isOn = false) :
    tripStage now minOff [shutdownCause entered] i st = { st with state := .trippedAuto } := by
  have hstate : trippedState [shutdownCause entered] i = some .trippedAuto := rfl
  simp only [tripStage, hstate, h]
  rfl

theorem tripRecord_fresh (e : Env) (u : UnitIx) (at0 : Nat) :
    tripRecord e u (fun _ => true) { freshUnit e.tables u at0 with causes := [shutdownCause e.now] } =
      shutUnit e.tables u at0 e.now := by
  refine congrArg (fun x : UnitRec => { x with causes := [shutdownCause e.now] })
    (UnitRec.mapStages_congr (r := freshUnit e.tables u at0) fun i => ?_)
  have hoff : (freshUnit e.tables u at0).stages[i].state.isOn = false :=
    ((StageState.isStill_iff _).1 (freshUnit_still ..)).2.2
  rw [Bool.and_true, tripStage_shutdown _ _ _ _ hoff]
  rfl

/-- R145: the SHUTDOWN cause of a unit that is as after a reset trips its bound slots and does no more. -/
theorem enterShutdown_fresh {e : Env} {u : UnitIx} {r : Roof} {at0 : Nat} (hf : e.tables.units[u].fitted = true)
    (hu : r.plant.unit u = freshUnit e.tables u at0) (hq : ∀ k, r.plant.hasEntry u k = false) :
    enterShutdown e u r = shutRoof e u at0 r := by
  have hstate : (shutUnit e.tables u at0 e.now).state = .unadopted := if_pos hf
  have hheld : (holdShutdown e u r).plant.unit u =
      { freshUnit e.tables u at0 with causes := [shutdownCause e.now] } := by
    rw [holdShutdown, Roof.onPlant_plant, Plant.unit_modUnit_self, hu]
    rfl
  have hshut := shutRoof_unit_self e u at0 r
  have htrip : (holdShutdown e u r).plant.modUnit u (tripRecord e u fun _ => true) = (shutRoof e u at0 r).plant := by
    rw [holdShutdown, Roof.onPlant_plant, Plant.modUnit_modUnit]
    change _ = r.plant.modUnit u fun _ => shutUnit e.tables u at0 e.now
    refine Plant.modUnit_congr ?_
    rw [hu]
    exact tripRecord_fresh ..
  have hmove : moveUnit e u (fun p => p.modUnit u (tripRecord e u fun _ => true)) (holdShutdown e u r) =
      shutRoof e u at0 r := by
    rw [moveUnit_eq_onPlant, Roof.onPlant, htrip]
    · rfl
    · rw [htrip, leadCondition_resting fun i => by rw [hshut]; exact shutUnit_still .., hshut,
        leadCondition_resting fun i => by rw [hheld]; exact freshUnit_still .., hheld]
      rfl
  have hrefresh : (shutRoof e u at0 r).onPlant (refreshTarget true u) = shutRoof e u at0 r := by
    rw [Roof.onPlant, refreshTarget_eq_self (by rw [hshut]; exact shutUnit_target ..)]
  have hsettle : settle e u (shutRoof e u at0 r) = shutRoof e u at0 r :=
    settle_still (by rw [hshut, hstate]) (fun i => by rw [hshut]; exact shutUnit_still ..)
      (fun i => by rw [hshut]; exact shutUnit_notProven ..) (by rw [hshut]; exact shutUnit_target ..) hq
  have hinject : injectShutdown u (shutRoof e u at0 r).plant = (shutRoof e u at0 r).plant :=
    if_neg (by rw [hshut, hstate]; nofun)
  rw [enterShutdown_eq (by rw [hu]; rfl), tripSlots_eq, hmove, hrefresh, hsettle, Roof.onPlant, hinject]

/-- R145: the fitted units that are as after a reset are shut down one after the other, and nothing else of the roof
moves. -/
theorem foldl_enterShutdown_fresh {e : Env} {at0 : Nat} {l : List UnitIx} (hn : l.Nodup) (r : Roof)
    (hf : ∀ u ∈ l, e.tables.units[u].fitted = true) (hu : ∀ u ∈ l, r.plant.unit u = freshUnit e.tables u at0)
    (hq : r.plant.queue = []) :
    let q := l.foldl (fun q u => enterShutdown e u q) r
    q = r.onPlant (fun p => { p with units := q.plant.units }) ∧
    ∀ v, q.plant.unit v = if v ∈ l then shutUnit e.tables v at0 e.now else r.plant.unit v := by
  induction l generalizing r with
  | nil => exact ⟨rfl, fun v => by simp⟩
  | cons u l ih =>
    obtain ⟨hul, hn⟩ := List.nodup_cons.1 hn
    have hfirst : enterShutdown e u r = shutRoof e u at0 r :=
      enterShutdown_fresh (hf u (List.mem_cons_self ..)) (hu u (List.mem_cons_self ..)) fun k => by
        rw [Plant.hasEntry, hq]
        rfl
    have hother (v : UnitIx) (hv : v ≠ u) : (shutRoof e u at0 r).plant.unit v = r.plant.unit v :=
      Plant.unit_modUnit_other _ _ _ _ hv
    obtain ⟨hframe, hunits⟩ := ih hn (shutRoof e u at0 r) (fun v hv => hf v (List.mem_cons_of_mem _ hv))
      (fun v hv => (hother v fun h => hul (h ▸ hv)).trans (hu v (List.mem_cons_of_mem _ hv))) hq
    rw [List.foldl_cons, hfirst]
    refine ⟨hframe, fun v => (hunits v).trans ?_⟩
    by_cases hv : v = u
    · rw [hv, if_neg hul, if_pos (List.mem_cons_self ..), shutRoof_unit_self]
    · simp only [List.mem_cons, hv, false_or, hother v hv]

theorem mem_fittedUnits (t : Tables) (u : UnitIx) : u ∈ fittedUnits t ↔ t.units[u].fitted = true := by
  simp [fittedUnits, mem_allUnits]

theorem fittedUnits_nodup (t : Tables) : (fittedUnits t).Nodup := allUnits_nodup.filter _

theorem Roof.addCapture_empty {e : Env} {c : Capture} {r : Roof} (h : r.captures = []) :
    r.addCapture e c = { r with captures := [c] } := by
  unfold Roof.addCapture
  rw [h]
  rfl

/-- R146: the one capture of a roof shutdown. -/
def shutdownCapture (e : Env) : Capture := ⟨e.now, 0, .shutdown, none, none, none, e.meter.forecast, e.shed.level⟩

/-- R145, R174: the assertion of the roof shutdown at a reset. -/
theorem shutdownAssert_fresh {e : Env} {r : Roof} (hp : r.plant = freshPlant e.tables) (hc : r.captures = []) :
    let q := shutdownAssert e r
    q.plant = { freshPlant e.tables with units := q.plant.units } ∧
    q.notices = raiseNotice e.tables e.now .trip 0 none (some 8) r.notices ∧
    q.captures = [shutdownCapture e] ∧
    ∀ u, q.plant.unit u = if e.tables.units[u].fitted then shutUnit e.tables u 0 e.now else freshUnit e.tables u 0 := by
  have hdef : shutdownAssert e r = (fittedUnits e.tables).foldl (fun q u => enterShutdown e u q)
      ((r.addCapture e (shutdownCapture e)).raise e .trip 0 none (some 8)) := rfl
  rw [hdef, Roof.addCapture_empty hc]
  obtain ⟨hframe, hunits⟩ := foldl_enterShutdown_fresh (e := e) (at0 := 0) (fittedUnits_nodup e.tables)
    (Roof.raise e .trip 0 none (some 8) { r with captures := [shutdownCapture e] })
    (fun u hu => (mem_fittedUnits _ _).1 hu) (fun u _ => by rw [Roof.raise_plant, hp, freshPlant_unit])
    (by rw [Roof.raise_plant, hp]; rfl)
  refine ⟨?_, ?_, ?_, fun u => (hunits u).trans ?_⟩
  · refine (congrArg Roof.plant hframe).trans ?_
    rw [Roof.onPlant_plant, Roof.raise_plant, hp]
  · exact congrArg Roof.notices hframe
  · exact congrArg Roof.captures hframe
  · rw [Roof.raise_plant, hp, freshPlant_unit]
    simp only [mem_fittedUnits]

/-! ## What a reset leaves (R9, R166, R174) -/

/-- R174: the start-up notices of a reset but for the trip of a shutdown. -/
def startUpNotices (cause : ResetCause) (s : State) : List Notice :=
  let t := s.tables
  let n1 := raiseNotice t 0 .powerUp 0 none (some (cause.code : Int)) []
  let n2 := if s.jobs.image = none then raiseNotice t 0 .configDefaulted 0 none none n1 else n1
  if s.lines.drContact.debounced then
    raiseNotice t 0 .drBegin 0 (some 1) (some (t.roof.drDefaultCeiling : Int)) n2
  else n2

/-- R174: the start-up notices touch the notice list alone; a closed ROOF_SHUTDOWN line asserts the shutdown behind. -/
theorem startUp_eq (cause : ResetCause) {s : State} (hs : s.seconds = 0) (hn : s.notices = []) :
    startUp cause s = if s.lines.roofShutdown.debounced
      then ({ s with notices := startUpNotices cause s } : State).onRoof shutdownAssert
      else { s with notices := startUpNotices cause s } := by
  unfold startUp startUpNotices State.raise
  cases s.jobs.image <;> cases s.lines.drContact.debounced <;> simp [hs, hn]

/-- R166: the tables a reset loads. -/
def tablesAtReset (s : State) : Tables := (imageAtReset s).getD factoryTables

/-- R9: every block after a reset, with the notices that stand before a shutdown's. -/
theorem resetState_open {cause : ResetCause} {s : State} (h : s.lines.roofShutdown.line = false) :
    resetState cause s = driveOutputs { blankState s with notices := startUpNotices cause (blankState s) } := by
  rw [resetState, startUp_eq cause rfl rfl]
  exact congrArg driveOutputs (if_neg (by rw [show (blankState s).lines.roofShutdown.debounced = false from h]; nofun))

theorem resetState_shut {cause : ResetCause} {s : State} (h : s.lines.roofShutdown.line = true) :
    resetState cause s =
      driveOutputs (({ blankState s with notices := startUpNotices cause (blankState s) } : State).onRoof shutdownAssert) := by
  rw [resetState, startUp_eq cause rfl rfl]
  exact congrArg driveOutputs (if_pos h)

/-- R41, R60, R145: a unit's record after a reset. -/
def unitAtReset (t : Tables) (u : UnitIx) (shut : Bool) : UnitRec :=
  if t.units[u].fitted = true ∧ shut = true then shutUnit t u 0 0 else freshUnit t u 0

/-- R9, R145, R174: what a reset leaves, block by block. -/
theorem resetState_blocks (cause : ResetCause) (s : State) :
    let t := resetState cause s
    let shut := s.lines.roofShutdown.line
    t = { blankState s with
      plant := { freshPlant (tablesAtReset s) with units := t.plant.units }
      notices := if shut then raiseNotice (tablesAtReset s) 0 .trip 0 none (some 8) (startUpNotices cause (blankState s))
        else startUpNotices cause (blankState s)
      captures := if shut then [⟨0, 0, .shutdown, none, none, none, 0, 0⟩] else []
      lines := t.lines } ∧
    t.lines = { (blankState s).lines with outputs := t.lines.outputs } ∧
    ∀ u, t.plant.unit u = unitAtReset (tablesAtReset s) u shut := by
  cases h : s.lines.roofShutdown.line with
  | false =>
    rw [resetState_open h]
    refine ⟨rfl, rfl, fun u => ?_⟩
    rw [unitAtReset, if_neg fun hc => nomatch hc.2]
    exact freshPlant_unit ..
  | true =>
    rw [resetState_shut h]
    have hshut := shutdownAssert_fresh
      (e := ({ blankState s with notices := startUpNotices cause (blankState s) } : State).env)
      (r := ({ blankState s with notices := startUpNotices cause (blankState s) } : State).roof) rfl rfl
    unfold State.onRoof
    generalize shutdownAssert _ _ = q at hshut
    obtain ⟨hplant, hnotices, hcaptures, hunits⟩ := hshut
    refine ⟨?_, rfl, fun u => (hunits u).trans ?_⟩
    · unfold driveOutputs State.withRoof
      rw [State.mk.injEq]
      exact ⟨rfl, rfl, rfl, rfl, rfl, rfl, rfl, rfl, hplant, hnotices, hcaptures, rfl, rfl, rfl⟩
    · unfold unitAtReset
      simp only [and_true]
      rfl

/-- R60, R72: a stage after a reset; a bound slot's is tripped while the roof is shut down. -/
theorem unitAtReset_stage (t : Tables) (u : UnitIx) (shut : Bool) (i : Slot) : (unitAtReset t u shut).stages[i] =
    if t.units[u].bound i then
      ⟨if shut then .trippedAuto else .offLocked, false, none, some 0, none, some (minOffOf t u i), none, .none⟩
    else ⟨.notFitted, false, none, none, none, none, none, .none⟩ := by
  have hfresh : freshStage t u i 0 = if t.units[u].bound i then
      ⟨.offLocked, false, none, some 0, none, some (minOffOf t u i), none, .none⟩ else blankStage := by
    rw [freshStage, Nat.zero_add]
  unfold unitAtReset
  by_cases hb : t.units[u].bound i = true
  · have hf : t.units[u].fitted = true := (Bool.and_eq_true_iff.1 hb).1
    cases shut with
    | false => rw [if_neg (fun h => nomatch h.2), freshUnit_stage, hfresh]; rfl
    | true => rw [if_pos ⟨hf, rfl⟩, shutUnit_stage, hfresh, if_pos hb, if_pos hb, if_pos hb]; rfl
  · rw [if_neg hb]
    split
    · rw [shutUnit_stage, if_neg hb, hfresh, if_neg hb]; rfl
    · rw [freshUnit_stage, hfresh, if_neg hb]; rfl

/-- R41, R60, R137, R145, R149: the fields of a unit's record after a reset. -/
theorem unitAtReset_fields (t : Tables) (u : UnitIx) (shut : Bool) :
    let r := unitAtReset t u shut
    let cfg := t.units[u]
    r.state = (if cfg.fitted then .unadopted else .absent) ∧ r.isolated = false ∧ r.failures = 0 ∧
    r.call = emptyCall ∧ r.target = emptyMap ∧ r.ack = emptyMap ∧ r.status = none ∧ r.fresh = false ∧
    (∀ i : Slot, r.notProven[i] = 0) ∧ r.lead = ([0, 1, 2, 3] : List Slot).filter cfg.bound ∧
    (∀ j : Fin 4, r.runHours[j] = 0) ∧ r.window = none ∧ r.fanForce = false ∧ r.strikes = [] ∧
    r.causes = (if cfg.fitted ∧ shut = true then [⟨.shutdown, none, .any, false, true, 0⟩] else []) ∧
    (∀ b : Fin 16, r.pairs[b] = ⟨.notApplicable, none⟩) ∧ r.gateClosed = false := by
  have hhours (j : Fin 4) : (freshUnit t u 0).runHours[j] = 0 := by simp [freshUnit]
  have hpairs (b : Fin 16) : (freshUnit t u 0).pairs[b] = ⟨.notApplicable, none⟩ := by simp [freshUnit, blankPair]
  intro r cfg
  by_cases h : t.units[u].fitted = true ∧ shut = true
  · rw [show r = shutUnit t u 0 0 from if_pos h, if_pos h]
    exact ⟨rfl, rfl, rfl, rfl, rfl, rfl, rfl, rfl, shutUnit_notProven t u 0 0, rfl, hhours, rfl, rfl, rfl, rfl, hpairs, rfl⟩
  · rw [show r = freshUnit t u 0 from if_neg h, if_neg h]
    exact ⟨rfl, rfl, rfl, rfl, rfl, rfl, rfl, rfl, freshUnit_notProven t u 0, rfl, hhours, rfl, rfl, rfl, rfl, hpairs, rfl⟩

/-- R177: the output relays after a reset. -/
theorem resetState_outputs (cause : ResetCause) (s : State) : OutputsTrue (resetState cause s) := by
  obtain ⟨hblocks, -, -⟩ := resetState_blocks cause s
  have hpow : (resetState cause s).powered = true := congrArg State.powered hblocks
  rw [OutputsTrue, if_pos hpow]
  rfl

/-- A reset that begins with the frame in transmission ended, or without, finds the same image and lines. -/
theorem exec_reset {s : State} {c : Instr} {cause : Int}
    (h : (c = .powerUp ∧ cause = 0) ∨ (c = .resetLine ∧ s.powered = true ∧ cause = 1) ∨
      (c = .replyTransmitEnd ∧ s.powered = true ∧ s.link.transmitting.isSome ∧ cause = 2 ∧
        ∃ f rest, s.link.replies = ⟨f, true⟩ :: rest)) :
    ∃ (why : ResetCause) (l : Link), (why.code : Int) = cause ∧
      exec c s = .next (resetState why { s with link := l }) := by
  rcases h with ⟨rfl, rfl⟩ | ⟨rfl, hp, rfl⟩ | ⟨rfl, hp, hs, rfl, f, rest, hr⟩
  · exact ⟨.power, s.link, rfl, rfl⟩
  · exact ⟨.line, s.link, rfl, whilePowered_on _ hp⟩
  · refine ⟨.restart, { s.link with transmitting := none, replies := rest }, rfl, ?_⟩
    rw [exec_replyTransmitEnd hp, endReply_sending hr hs]
    rfl

/-- Settles O8: the three commands end in the same reset, whose blocks are read off one after the other. -/
theorem resetLoadsImageAndClearsEveryBlock : Obligations.ResetLoadsImageAndClearsEveryBlock := by
  intro s c cause hc
  obtain ⟨why, l, rfl, hexec⟩ := exec_reset hc
  obtain ⟨hblocks, hlines, hunits⟩ := resetState_blocks why { s with link := l }
  have houtputs := resetState_outputs why { s with link := l }
  generalize resetState why { s with link := l } = t at *
  have hplant := congrArg State.plant hblocks
  have hunit (u : UnitIx) := unitAtReset_fields (tablesAtReset s) u s.lines.roofShutdown.line
  refine ⟨t, hexec, congrArg State.powered hblocks, (congrArg State.pending hblocks :),
    (congrArg State.draws hblocks :),
    congrArg State.seconds hblocks, congrArg State.tables hblocks, congrArg State.meter hblocks,
    congrArg State.shed hblocks, fun g => ?_, congrArg Plant.queue hplant, congrArg Plant.sequence hplant,
    congrArg Plant.passDue hplant, congrArg Plant.staggerEnd hplant, congrArg Plant.grantSum hplant,
    congrArg Plant.injections hplant, congrArg Plant.protection hplant, fun u => ?_, congrArg State.notices hblocks,
    congrArg State.captures hblocks, congrArg State.link hblocks, ?_, congrArg Lines.syncMissing hlines,
    congrArg Lines.intervalSync hlines, congrArg Lines.drContact hlines, congrArg Lines.roofShutdown hlines, houtputs⟩
  · rw [congrArg State.rotation hblocks]
    exact tabulate_getElem _ _ g.isLt
  · rw [hunits u]
    obtain ⟨h1, h2, h3, h4, h5, h6, h7, h8, h9, h10, h11, h12, h13, h14, h15, h16, h17⟩ := hunit u
    exact ⟨h1, h2, h3, h4, h5, h6, h7, h8, h9, h10, h11, h12, h13, h14, h15, h16, h17,
      unitAtReset_stage (tablesAtReset s) u s.lines.roofShutdown.line⟩
  · refine (congrArg State.jobs hblocks).trans ?_
    change freshJobs (imageAtReset s) = ⟨closedSession, [], none, imageAtReset s,
      if imageAtReset s = none then .defaulted else .stored, false⟩
    unfold freshJobs
    cases imageAtReset s <;> rfl

end Sys2Proof.Machine

namespace Sys2Proof.Machine

/-! ## The candidate tables (R161, R163, R164) -/

theorem recordBytes_copyTable_self (id : TableId) (src dst : Tables) (k : Nat) :
    recordBytes (copyTable id src dst) id k = recordBytes src id k := by
  cases id <;> rfl

theorem recordBytes_copyTable_other {id other : TableId} (h : other ≠ id) (src dst : Tables) (k : Nat) :
    recordBytes (copyTable id src dst) other k = recordBytes dst other k := by
  cases id <;> cases other <;> simp only [ne_eq, reduceCtorEq, not_true_eq_false] at h <;> rfl

/-- R161, R164: a selected table is the shadow's, every other the live one. -/
theorem recordBytes_candidate (sel : List TableId) (src live : Tables) (id : TableId) (k : Nat) :
    recordBytes (sel.foldl (fun t i => copyTable i src t) live) id k =
      if id ∈ sel then recordBytes src id k else recordBytes live id k := by
  induction sel generalizing live with
  | nil => rfl
  | cons i sel ih =>
    rw [List.foldl_cons, ih]
    by_cases hsel : id ∈ sel
    · rw [if_pos hsel, if_pos (List.mem_cons_of_mem _ hsel)]
    · by_cases hi : id = i
      · rw [if_neg hsel, hi, if_pos (List.mem_cons_self ..), recordBytes_copyTable_self]
      · rw [if_neg hsel, if_neg (by simp [hi, hsel]), recordBytes_copyTable_other hi]

/-! ## Rates at an installation (R2) -/

theorem takeControllerRate_eq (r : RoofRec) (l : Link) : takeControllerRate r l = { l with
    controllerRate := r.controllerRate
    controllerRx := if l.controllerRate = r.controllerRate then l.controllerRx else .hunt } := by
  unfold takeControllerRate
  split
  · next h => rw [← h]
  · rfl

/-- R2: the controller port takes an installed rate at once, the trunk port where no transaction is in flight. -/
theorem takeRates_eq (r : RoofRec) (l : Link) : takeRates r l = { l with
    controllerRate := r.controllerRate
    controllerRx := if l.controllerRate = r.controllerRate then l.controllerRx else .hunt
    trunkRate := if l.trunk = .free then r.trunkRate else l.trunkRate
    trunkRx := if l.trunk = .free ∧ l.trunkRate ≠ r.trunkRate then .hunt else l.trunkRx } := by
  unfold takeRates
  rw [takeTrunkRate_eq, takeControllerRate_eq]
  by_cases hf : l.trunk = .free
  · by_cases hr : l.trunkRate = r.trunkRate <;> simp [hf, hr]
  · simp [hf]

theorem loseUnits_trunk_free_iff (t : Tables) (l : Link) : (loseUnits t l).trunk = .free ↔ l.trunk = .free := by
  unfold loseUnits
  cases l.trunk <;> simp

/-! ## Stages and gates moved -/

/-- A unit record before and after moves of its stages and of its rotation gate. -/
def UnitRec.SequencedTo (a b : UnitRec) : Prop := UnitRec.MovesTo { a with gateClosed := b.gateClosed } b

theorem UnitRec.SequencedTo.refl (a : UnitRec) : a.SequencedTo a := UnitRec.MovesTo.refl a

theorem UnitRec.SequencedTo.trans {a b c : UnitRec} (h : a.SequencedTo b) (k : b.SequencedTo c) : a.SequencedTo c where
  state := k.state.trans h.state
  isolated := k.isolated.trans h.isolated
  failures := k.failures.trans h.failures
  call := k.call.trans h.call
  ack := k.ack.trans h.ack
  status := k.status.trans h.status
  runHours := k.runHours.trans h.runHours
  fanForce := k.fanForce.trans h.fanForce
  causes := k.causes.trans h.causes
  strikes := k.strikes.trans h.strikes
  pairs := k.pairs.trans h.pairs
  gateClosed := rfl

theorem UnitRec.MovesTo.sequenced {a b : UnitRec} (h : a.MovesTo b) : a.SequencedTo b where
  state := h.state
  isolated := h.isolated
  failures := h.failures
  call := h.call
  ack := h.ack
  status := h.status
  runHours := h.runHours
  fanForce := h.fanForce
  causes := h.causes
  strikes := h.strikes
  pairs := h.pairs
  gateClosed := rfl

/-- R132: the plant with every gate as the rotation unit evaluates it. -/
def withGates (e : Env) (p : Plant) : Plant :=
  { p with units := tabulate fun u => { p.units[u] with gateClosed := gateEval e.tables e.rotation e.now u } }

theorem withGates_unit (e : Env) (p : Plant) (u : UnitIx) :
    (withGates e p).unit u = { p.unit u with gateClosed := gateEval e.tables e.rotation e.now u } := by
  simp [withGates, Plant.unit]

/-- R132: the gates evaluated, and the units settled for them. -/
theorem evaluateGates_sequenced (e : Env) (also : UnitIx → Bool) (r : Roof) (u : UnitIx) :
    (r.plant.unit u).SequencedTo ((evaluateGates e also r).plant.unit u) := by
  have hgate : (r.plant.unit u).SequencedTo ((r.onPlant (withGates e)).plant.unit u) := by
    rw [Roof.onPlant_plant, withGates_unit]
    exact ⟨rfl, rfl, rfl, rfl, rfl, rfl, rfl, rfl, rfl, rfl, rfl, rfl⟩
  exact hgate.trans ((settleAll_moves e _ (r.onPlant (withGates e))).unit u).sequenced

/-! ## What a band's pair and causes keep -/

/-- R135: the causes of a band. -/
def bandCauses (b : Fin 16) (cs : List Cause) : List Cause := cs.filter (·.isOf .band (some b.val))

/-- A unit record before and after what touches neither a band's pair nor its causes, nor the unit's strikes, state,
isolation and status. -/
structure UnitRec.KeepsBand (b : Fin 16) (x y : UnitRec) : Prop where
  state : y.state = x.state
  isolated : y.isolated = x.isolated
  status : y.status = x.status
  strikes : y.strikes = x.strikes
  pair : y.pairs[b] = x.pairs[b]
  causes : bandCauses b y.causes = bandCauses b x.causes

theorem UnitRec.KeepsBand.refl (b : Fin 16) (x : UnitRec) : x.KeepsBand b x := ⟨rfl, rfl, rfl, rfl, rfl, rfl⟩

theorem UnitRec.KeepsBand.trans {b : Fin 16} {x y z : UnitRec} (h : x.KeepsBand b y) (k : y.KeepsBand b z) :
    x.KeepsBand b z where
  state := k.state.trans h.state
  isolated := k.isolated.trans h.isolated
  status := k.status.trans h.status
  strikes := k.strikes.trans h.strikes
  pair := k.pair.trans h.pair
  causes := k.causes.trans h.causes

theorem UnitRec.SequencedTo.keepsBand {x y : UnitRec} (h : x.SequencedTo y) (b : Fin 16) : x.KeepsBand b y where
  state := h.state
  isolated := h.isolated
  status := h.status
  strikes := h.strikes
  pair := by rw [h.pairs]
  causes := by rw [h.causes]

theorem UnitRec.MovesTo.keepsBand {x y : UnitRec} (h : x.MovesTo y) (b : Fin 16) : x.KeepsBand b y :=
  h.sequenced.keepsBand b

/-! ### The reset of a pair (R152) -/

/-- R138: a cause whose condition is set aside as absent, where it is the band's. -/
def setAbsent (b : Fin 16) (c : Cause) : Cause := if c.isOf .band (some b.val) then { c with present := false } else c

/-- R152: a cause list after the reset of a band's pair: an automatic cause of the band leaves, a latched one stays with
its condition absent. -/
def resetCauses (b : Fin 16) (cs : List Cause) : List Cause :=
  match (cs.map (setAbsent b)).find? (·.isOf .band (some b.val)) with
  | none => cs.map (setAbsent b)
  | some c =>
    if c.latched then cs.map (setAbsent b)
    else (cs.map (setAbsent b)).filter fun d => !d.isOf c.tripClass c.position

theorem setAbsent_isOf (b : Fin 16) (c : Cause) (cls : TripClass) (pos : Option Nat) :
    (setAbsent b c).isOf cls pos = c.isOf cls pos := by
  unfold setAbsent
  split <;> rfl

theorem Cause.isOf_iff (c : Cause) (cls : TripClass) (pos : Option Nat) :
    c.isOf cls pos = true ↔ c.tripClass = cls ∧ c.position = pos := by
  simp [Cause.isOf]

/-- A cause of one band is of no other. -/
theorem Cause.isOf_band_other {b b' : Fin 16} (h : b' ≠ b) {c : Cause} (hc : c.isOf .band (some b'.val) = true) :
    c.isOf .band (some b.val) = false := by
  obtain ⟨-, hpos⟩ := (c.isOf_iff _ _).1 hc
  refine Bool.eq_false_iff.2 fun hb => h (Fin.ext ?_)
  exact Option.some.inj (hpos.symm.trans ((c.isOf_iff _ _).1 hb).2)

theorem bandCauses_map_setAbsent (b b' : Fin 16) (cs : List Cause) :
    bandCauses b' (cs.map (setAbsent b)) = (bandCauses b' cs).map (setAbsent b) := by
  rw [bandCauses, List.filter_map]
  congr 1
  exact List.filter_congr fun c _ => setAbsent_isOf ..

/-- R152: the reset of a band's pair leaves the causes of the other bands. -/
theorem bandCauses_resetCauses_other {b b' : Fin 16} (h : b' ≠ b) (cs : List Cause) :
    bandCauses b' (resetCauses b cs) = bandCauses b' cs := by
  have hmap : bandCauses b' (cs.map (setAbsent b)) = bandCauses b' cs := by
    rw [bandCauses_map_setAbsent]
    refine (List.map_congr_left fun c hc => ?_).trans (List.map_id _)
    rw [setAbsent, Cause.isOf_band_other h (List.mem_filter.1 hc).2]
    rfl
  unfold resetCauses
  split
  · exact hmap
  · next c hfind =>
    split
    · exact hmap
    · have hc : c.isOf .band (some b.val) = true := List.find?_some (p := fun d : Cause => d.isOf .band (some b.val)) hfind
      obtain ⟨hcls, hpos⟩ := (c.isOf_iff _ _).1 hc
      rw [← hmap, hcls, hpos, bandCauses, List.filter_filter]
      refine List.filter_congr fun d _ => ?_
      have hother (hd : d.isOf .band (some b'.val) = true) := Cause.isOf_band_other h hd
      revert hother
      cases d.isOf .band (some b'.val) <;> simp

/-- R152: the one cause of a reset band leaves, or stays latched with its condition absent. -/
theorem bandCauses_resetCauses_self {b : Fin 16} {cs : List Cause} {c : Cause} (h : bandCauses b cs = [c]) :
    bandCauses b (resetCauses b cs) = if c.latched then [{ c with present := false }] else [] := by
  have hmem : c ∈ bandCauses b cs := h ▸ List.mem_singleton_self c
  have hc : c.isOf .band (some b.val) = true := (List.mem_filter.1 hmem).2
  have hmap : bandCauses b (cs.map (setAbsent b)) = [{ c with present := false }] := by
    rw [bandCauses_map_setAbsent, h, List.map_singleton, setAbsent, if_pos hc]
  have hfind : (cs.map (setAbsent b)).find? (·.isOf .band (some b.val)) = some { c with present := false } := by
    rw [← List.head?_filter]
    exact congrArg List.head? hmap
  obtain ⟨hcls, hpos⟩ := (c.isOf_iff _ _).1 hc
  unfold resetCauses
  rw [hfind]
  dsimp only
  split
  · exact hmap
  · rw [hcls, hpos, bandCauses, List.filter_filter]
    exact List.filter_eq_nil_iff.2 fun d _ => by cases d.isOf .band (some b.val) <;> simp

/-- R137: a sound cause list holds at most one cause of a band. -/
theorem bandCauses_eq_singleton {b : Fin 16} {r : UnitRec} (hs : CausesSound r) {c : Cause} (hc : c ∈ r.causes)
    (hcls : c.tripClass = .band) (hpos : c.position = some b.val) : bandCauses b r.causes = [c] := by
  have hmem : c ∈ bandCauses b r.causes := List.mem_filter.2 ⟨hc, (c.isOf_iff _ _).2 ⟨hcls, hpos⟩⟩
  have hall : ∀ d ∈ bandCauses b r.causes, d.tripClass = .band ∧ d.position = some b.val := fun d hd =>
    (d.isOf_iff _ _).1 (List.mem_filter.1 hd).2
  have hpair : (bandCauses b r.causes).Pairwise fun x y => ¬(x.tripClass = y.tripClass ∧ x.position = y.position) :=
    hs.1.filter _
  match hl : bandCauses b r.causes with
  | [] => rw [hl] at hmem; cases hmem
  | [d] => rw [hl] at hmem; rw [List.mem_singleton.1 hmem]
  | d :: d' :: rest =>
    rw [hl] at hall hpair
    have hd := hall d (by simp)
    have hd' := hall d' (by simp)
    exact absurd ⟨hd.1.trans hd'.1.symm, hd.2.trans hd'.2.symm⟩ ((List.pairwise_cons.1 hpair).1 d' (by simp))

end Sys2Proof.Machine

namespace Sys2Proof.Machine

theorem Plant.unit_congr {p q : Plant} (h : q.units = p.units) (u : UnitIx) : q.unit u = p.unit u := by
  unfold Plant.unit
  rw [h]

/-! ## Causes removed and pairs reset, unit by unit (R141, R152) -/

/-- R141: another unit's cause removed moves at most the stages of this one's plant. -/
theorem removeCause_unit_other (e : Env) {u v : UnitIx} (h : u ≠ v) (c : Cause) (r : Roof) :
    (r.plant.unit u).MovesTo ((removeCause e v c r).plant.unit u) := by
  refine UnitRec.MovesTo.trans ?_ ((releaseSlots_moves e v c.covers _).unit u)
  rw [Roof.raise_plant, Plant.unit_modUnit_other _ _ _ _ h]

theorem removeCause_unit_self (e : Env) (u : UnitIx) (c : Cause) (r : Roof) :
    UnitRec.MovesTo { r.plant.unit u with
        causes := (r.plant.unit u).causes.filter fun d => !d.isOf c.tripClass c.position }
      ((removeCause e u c r).plant.unit u) := by
  refine UnitRec.MovesTo.trans ?_ ((releaseSlots_moves e u c.covers _).unit u)
  rw [Roof.raise_plant, Plant.unit_modUnit_self]

/-- R152: the roof with a band's pair reset and the band's causes shown absent, before an automatic one leaves. -/
def blankPairOf (e : Env) (u : UnitIx) (b : Fin 16) (r : Roof) : Roof :=
  let r1 : Roof := { r with plant := r.plant.modUnit u fun x => { x with pairs := x.pairs.set b blankPair } }
  let r2 := if (r.plant.unit u).pairs[b].state = .outside then r1.raise e .bandIn (unitAddr u) (some b.val) none else r1
  { r2 with plant := setPresent u .band (some b.val) false r2.plant }

theorem resetPair_eq (e : Env) (u : UnitIx) (b : Fin 16) (r : Roof) : resetPair e u b r =
    match ((blankPairOf e u b r).plant.unit u).causes.find? (·.isOf .band (some b.val)) with
    | none => blankPairOf e u b r
    | some c => if c.latched then blankPairOf e u b r else removeCause e u c (blankPairOf e u b r) := rfl

theorem blankPairOf_plant (e : Env) (u : UnitIx) (b : Fin 16) (r : Roof) : (blankPairOf e u b r).plant =
    setPresent u .band (some b.val) false (r.plant.modUnit u fun x => { x with pairs := x.pairs.set b blankPair }) := by
  unfold blankPairOf
  dsimp only
  split <;> rfl

theorem blankPairOf_unit_other (e : Env) {u v : UnitIx} (h : u ≠ v) (b : Fin 16) (r : Roof) :
    (blankPairOf e v b r).plant.unit u = r.plant.unit u := by
  rw [blankPairOf_plant, setPresent, Plant.unit_modUnit_other _ _ _ _ h, Plant.unit_modUnit_other _ _ _ _ h]

theorem blankPairOf_unit_self (e : Env) (u : UnitIx) (b : Fin 16) (r : Roof) :
    (blankPairOf e u b r).plant.unit u = { r.plant.unit u with
      pairs := (r.plant.unit u).pairs.set b blankPair
      causes := (r.plant.unit u).causes.map (setAbsent b) } := by
  rw [blankPairOf_plant, setPresent, Plant.unit_modUnit_self, Plant.unit_modUnit_self]
  rfl

theorem resetPair_unit_other (e : Env) {u v : UnitIx} (h : u ≠ v) (b : Fin 16) (r : Roof) :
    (r.plant.unit u).MovesTo ((resetPair e v b r).plant.unit u) := by
  have hblank := blankPairOf_unit_other e h b r
  rw [resetPair_eq]
  split
  · rw [hblank]
  · split
    · rw [hblank]
    · next c _ _ => exact hblank ▸ removeCause_unit_other e h c (blankPairOf e v b r)

/-- R152: the unit's record after the reset of a pair: the pair and the band's causes, and moves of stages. -/
theorem resetPair_unit_self (e : Env) (u : UnitIx) (b : Fin 16) (r : Roof) :
    UnitRec.MovesTo { r.plant.unit u with
        pairs := (r.plant.unit u).pairs.set b blankPair
        causes := resetCauses b (r.plant.unit u).causes }
      ((resetPair e u b r).plant.unit u) := by
  have hblank := blankPairOf_unit_self e u b r
  have hcauses : ((blankPairOf e u b r).plant.unit u).causes = (r.plant.unit u).causes.map (setAbsent b) := by
    rw [hblank]
  rw [resetPair_eq, hcauses, resetCauses]
  cases ((r.plant.unit u).causes.map (setAbsent b)).find? (·.isOf .band (some b.val)) with
  | none =>
    dsimp only
    rw [hblank]
  | some c =>
    dsimp only
    split
    · rw [hblank]
    · have hremove := removeCause_unit_self e u c (blankPairOf e u b r)
      rw [hblank] at hremove
      exact hremove

/-- R152: the reset of one band's pair keeps every other band's, in every unit. -/
theorem resetPair_keepsBand (e : Env) (u v : UnitIx) {b b' : Fin 16} (h : b' ≠ b) (r : Roof) :
    (r.plant.unit u).KeepsBand b ((resetPair e v b' r).plant.unit u) := by
  by_cases hu : u = v
  · rw [hu]
    refine UnitRec.KeepsBand.trans ?_ ((resetPair_unit_self e v b' r).keepsBand b)
    refine ⟨rfl, rfl, rfl, rfl, ?_, bandCauses_resetCauses_other h.symm _⟩
    exact Vector.getElem_set_ne b'.isLt b.isLt fun hb => h (Fin.ext hb)
  · exact (resetPair_unit_other e hu b' r).keepsBand b

/-! ## Installations, unit by unit (R42, R43, R60, R137, R145) -/

theorem injectShutdown_units (u : UnitIx) (p : Plant) : (injectShutdown u p).units = p.units := by
  unfold injectShutdown
  split <;> rfl

/-- R145: another unit's shutdown moves at most stages. -/
theorem enterShutdown_unit_other (e : Env) {u v : UnitIx} (h : u ≠ v) (r : Roof) :
    (r.plant.unit u).MovesTo ((enterShutdown e v r).plant.unit u) := by
  cases hc : holdsCause (r.plant.unit v) .shutdown none with
  | true => rw [enterShutdown, if_pos hc]
  | false =>
    rw [enterShutdown_eq hc, Roof.onPlant_plant, Plant.unit_congr (injectShutdown_units ..)]
    refine UnitRec.MovesTo.trans ?_ ((tripSlots_moves e v _ (holdShutdown e v r)).unit u)
    rw [holdShutdown, Roof.onPlant_plant, Plant.unit_modUnit_other _ _ _ _ h]

theorem enterShutdown_state (e : Env) (u : UnitIx) (r : Roof) :
    ((enterShutdown e u r).plant.unit u).state = (r.plant.unit u).state := by
  cases hc : holdsCause (r.plant.unit u) .shutdown none with
  | true => rw [enterShutdown, if_pos hc]
  | false =>
    rw [enterShutdown_eq hc, Roof.onPlant_plant, Plant.unit_congr (injectShutdown_units ..)]
    refine ((tripSlots_moves e u _ (holdShutdown e u r)).unit u).state.trans ?_
    rw [holdShutdown, Roof.onPlant_plant, Plant.unit_modUnit_self]

theorem renewUnit_unit_other (e : Env) {u v : UnitIx} (h : u ≠ v) (p : Plant) :
    (renewUnit e v p).unit u = p.unit u := by
  rw [renewUnit, Plant.dropInjection_unit, Plant.dropEntry_unit, Plant.dropEntry_unit,
    Plant.unit_modUnit_other _ _ _ _ h]

/-- R43, R60: the record of a unit whose fitted flag an installation changes. -/
theorem renewUnit_unit_self (e : Env) (u : UnitIx) (p : Plant) : (renewUnit e u p).unit u =
    { (freshUnit e.tables u e.now).mapStages (fun _ st => passOn e.now st) with isolated := (p.unit u).isolated } := by
  rw [renewUnit, Plant.dropInjection_unit, Plant.dropEntry_unit, Plant.dropEntry_unit, Plant.unit_modUnit_self]

theorem refitUnit_unit_other (e : Env) (old : Tables) (shutdown : Bool) {u v : UnitIx} (h : u ≠ v) (r : Roof) :
    (r.plant.unit u).MovesTo ((refitUnit e old shutdown r v).plant.unit u) := by
  have hrenew : (r.onPlant (renewUnit e v)).plant.unit u = r.plant.unit u := renewUnit_unit_other e h _
  unfold refitUnit
  split
  · rfl
  · split
    · exact hrenew ▸ enterShutdown_unit_other e h (r.onPlant (renewUnit e v))
    · rw [hrenew]

/-- R43: a unit whose fitted flag stays is not refitted. -/
theorem refitUnit_same {e : Env} {old : Tables} {u : UnitIx} (shutdown : Bool) (r : Roof)
    (h : old.units[u].fitted = (e.cfg u).fitted) : refitUnit e old shutdown r u = r := if_pos h

/-- R43: a unit that becomes unfitted is renewed as ABSENT. -/
theorem refitUnit_unfitted {e : Env} {old : Tables} {u : UnitIx} (shutdown : Bool) (r : Roof)
    (ho : old.units[u].fitted = true) (hn : (e.cfg u).fitted = false) :
    refitUnit e old shutdown r u = r.onPlant (renewUnit e u) := by
  rw [refitUnit, if_neg (by rw [ho, hn]; nofun), if_neg (by rw [hn]; nofun)]

theorem refitUnit_fitted_state {e : Env} {old : Tables} {u : UnitIx} (shutdown : Bool) (r : Roof)
    (ho : old.units[u].fitted = false) (hn : (e.cfg u).fitted = true) :
    ((refitUnit e old shutdown r u).plant.unit u).state = .unadopted := by
  have hrenew : ((r.onPlant (renewUnit e u)).plant.unit u).state = .unadopted := by
    rw [Roof.onPlant_plant, renewUnit_unit_self]
    exact if_pos hn
  unfold refitUnit
  rw [if_neg (by rw [ho, hn]; nofun)]
  split
  · exact (enterShutdown_state ..).trans hrenew
  · exact hrenew

/-- R59, R137: unbound slots take no band cause with them. -/
theorem bandCauses_causesWithout (b : Fin 16) (gone : Slot → Bool) (cs : List Cause) :
    bandCauses b (causesWithout gone cs) = bandCauses b cs := by
  unfold bandCauses causesWithout
  rw [List.filter_filter]
  refine List.filter_congr fun c _ => ?_
  cases hc : c.isOf .band (some b.val) with
  | false => rfl
  | true => rw [((c.isOf_iff _ _).1 hc).1]; rfl

theorem rebindRecord_keepsBand (e : Env) (old : UnitCfg) (u : UnitIx) (r : UnitRec) (b : Fin 16) :
    r.KeepsBand b (rebindRecord e old u r) :=
  ⟨rfl, rfl, rfl, rfl, rfl, bandCauses_causesWithout ..⟩

theorem moveUnit_unit_other (e : Env) {u v : UnitIx} (h : u ≠ v) (f : Plant → Plant) (r : Roof) :
    (moveUnit e v f r).plant.unit u = (f r.plant).unit u := by
  rcases moveUnit_plant e v f r with hp | ⟨order, hp⟩
  · rw [hp]
  · rw [hp, Plant.unit_modUnit_other _ _ _ _ h]

/-- R42, R87: a unit that is reconfigured has its entries' classes changed, and its record where its bindings change. -/
theorem reconfigureUnit_cases (e : Env) (old : Tables) (r : Roof) (v : UnitIx) :
    ∃ r1 : Roof, r1.plant.units = r.plant.units ∧ (reconfigureUnit e old r v = r1 ∨ reconfigureUnit e old r v =
      settle e v (moveUnit e v (fun p => p.modUnit v (rebindRecord e old.units[v] v)) r1)) := by
  unfold reconfigureUnit
  split
  · refine ⟨if old.units[v].priority = (e.cfg v).priority then r
      else r.onPlant (reclassEntries v (e.cfg v).priority.val), ?_, ?_⟩
    · split <;> rfl
    · by_cases hb : old.units[v].bind = (e.cfg v).bind
      · exact .inl (if_pos hb)
      · exact .inr (if_neg hb)
  · exact ⟨r, rfl, .inl rfl⟩

theorem reconfigureUnit_unit_other (e : Env) (old : Tables) (r : Roof) {u v : UnitIx} (h : u ≠ v) :
    (r.plant.unit u).MovesTo ((reconfigureUnit e old r v).plant.unit u) := by
  obtain ⟨r1, hunits, hr | hr⟩ := reconfigureUnit_cases e old r v
  · rw [hr, Plant.unit_congr hunits]
  · rw [hr]
    refine UnitRec.MovesTo.trans ?_ ((settle_moves e v _).unit u)
    rw [moveUnit_unit_other e h, Plant.unit_modUnit_other _ _ _ _ h, Plant.unit_congr hunits]

/-- R42, R87, R137: a reconfigured unit keeps what no binding decides. -/
theorem reconfigureUnit_keepsBand (e : Env) (old : Tables) (r : Roof) (u v : UnitIx) (b : Fin 16) :
    (r.plant.unit u).KeepsBand b ((reconfigureUnit e old r v).plant.unit u) := by
  by_cases hu : u = v
  · rw [hu]
    obtain ⟨r1, hunits, hr | hr⟩ := reconfigureUnit_cases e old r v
    · rw [hr, Plant.unit_congr hunits]
      exact .refl ..
    · rw [hr]
      refine UnitRec.KeepsBand.trans ?_ (((settle_moves e v _).unit v).keepsBand b)
      obtain ⟨order, hmove⟩ := moveUnit_unit_self e v (fun p => p.modUnit v (rebindRecord e old.units[v] v)) r1
      rw [hmove, Plant.unit_modUnit_self, Plant.unit_congr hunits]
      exact (rebindRecord_keepsBand ..).trans ((UnitRec.movesTo_lead _ order).keepsBand b)
  · exact (reconfigureUnit_unit_other e old r hu).keepsBand b

/-- R42: only a unit that stays fitted is reconfigured. -/
theorem reconfigureUnit_unfitted {e : Env} {old : Tables} (r : Roof) {u : UnitIx}
    (h : ¬(old.units[u].fitted = true ∧ (e.cfg u).fitted = true)) : reconfigureUnit e old r u = r :=
  if_neg fun hc => h (Bool.and_eq_true_iff.1 hc)

end Sys2Proof.Machine

namespace Sys2Proof.Machine

/-! ## The bands reset at an installation (R152) -/

/-- R152: one band at an installation: where its record changed, its pairs of all fitted units are reset. -/
def resetBand (e : Env) (old : Tables) (r : Roof) (b : Fin 16) : Roof :=
  if old.bands[b] = e.tables.bands[b] then r else (fittedUnits e.tables).foldl (fun q u => resetPair e u b q) r

theorem installBands_eq (old : Tables) (s : State) :
    installBands old s = s.onRoof fun e r => (List.finRange 16).foldl (resetBand e old) r := rfl

/-- A unit record before and after the reset of a band's pair. -/
structure UnitRec.BandReset (b : Fin 16) (x y : UnitRec) : Prop where
  pair : y.pairs[b] = blankPair
  strikes : y.strikes = x.strikes
  causes : ∀ c, bandCauses b x.causes = [c] →
    bandCauses b y.causes = if c.latched then [{ c with present := false }] else []

theorem UnitRec.KeepsBand.bandReset {b : Fin 16} {x x' y y' : UnitRec} (hx : x.KeepsBand b x') (h : x'.BandReset b y')
    (hy : y'.KeepsBand b y) : x.BandReset b y where
  pair := hy.pair.trans h.pair
  strikes := hy.strikes.trans (h.strikes.trans hx.strikes)
  causes c hc := hy.causes.trans (h.causes c (hx.causes.trans hc))

theorem resetPair_bandReset (e : Env) (u : UnitIx) (b : Fin 16) (r : Roof) :
    (r.plant.unit u).BandReset b ((resetPair e u b r).plant.unit u) := by
  have hmoves := resetPair_unit_self e u b r
  refine ⟨?_, hmoves.strikes, fun c hc => ?_⟩
  · rw [hmoves.pairs]
    exact Vector.getElem_set_self b.isLt
  · rw [hmoves.causes]
    exact bandCauses_resetCauses_self hc

/-- R152: the bands do not touch a unit that is not fitted. -/
theorem resetBand_unfitted {e : Env} {u : UnitIx} (h : e.tables.units[u].fitted = false) (old : Tables) (r : Roof)
    (b : Fin 16) : (r.plant.unit u).MovesTo ((resetBand e old r b).plant.unit u) := by
  unfold resetBand
  split
  · rfl
  · refine foldl_related (R := fun p q : Roof => (p.plant.unit u).MovesTo (q.plant.unit u)) (fun _ => .refl _)
      (fun _ _ _ => .trans) _ _ (fun q v hv => resetPair_unit_other e (fun huv => ?_) b q) r
    have hfit := (mem_fittedUnits _ _).1 hv
    rw [← huv, h] at hfit
    cases hfit

theorem resetPair_state (e : Env) (u v : UnitIx) (b : Fin 16) (r : Roof) :
    ((resetPair e v b r).plant.unit u).state = (r.plant.unit u).state := by
  by_cases h : u = v
  · rw [h]
    exact (resetPair_unit_self e v b r).state
  · exact (resetPair_unit_other e h b r).state

theorem resetBand_state (e : Env) (old : Tables) (r : Roof) (b : Fin 16) (u : UnitIx) :
    ((resetBand e old r b).plant.unit u).state = (r.plant.unit u).state := by
  unfold resetBand
  split
  · rfl
  · exact foldl_related (R := fun p q : Roof => (q.plant.unit u).state = (p.plant.unit u).state) (fun _ => rfl)
      (fun _ _ _ h k => k.trans h) _ _ (fun q v _ => resetPair_state e u v b q) r

/-- R152: a band is left by the reset of another, and by its own where its record stays. -/
theorem resetBand_keepsBand (e : Env) (old : Tables) (r : Roof) (u : UnitIx) {b b' : Fin 16}
    (h : b' ≠ b ∨ old.bands[b] = e.tables.bands[b]) :
    (r.plant.unit u).KeepsBand b ((resetBand e old r b').plant.unit u) := by
  unfold resetBand
  split
  · exact .refl ..
  · next hchanged =>
    have hne : b' ≠ b := h.elim id fun hsame hb => hchanged (hb ▸ hsame)
    exact foldl_related (R := fun p q : Roof => (p.plant.unit u).KeepsBand b (q.plant.unit u)) (fun _ => .refl ..)
      (fun _ _ _ => .trans) _ _ (fun q v _ => resetPair_keepsBand e u v hne q) r

theorem resetBand_bandReset {e : Env} {old : Tables} (r : Roof) {u : UnitIx} {b : Fin 16}
    (hf : e.tables.units[u].fitted = true) (h : old.bands[b] ≠ e.tables.bands[b]) :
    (r.plant.unit u).BandReset b ((resetBand e old r b).plant.unit u) := by
  obtain ⟨m, hbefore, hbehind⟩ := foldl_through
    (R := fun p q : Roof => (p.plant.unit u).KeepsBand b (q.plant.unit u)) (fun _ => .refl ..) (fun _ _ _ => .trans)
    (fun q v => resetPair e v b q) (fittedUnits_nodup e.tables) ((mem_fittedUnits _ _).2 hf)
    (fun q v _ hv => (resetPair_unit_other e (Ne.symm hv) b q).keepsBand b) r
  rw [resetBand, if_neg h]
  exact hbefore.bandReset (resetPair_bandReset e u b m) hbehind

/-- R152: all bands at an installation, for the band of one number. -/
theorem resetBands_keepsBand {e : Env} {old : Tables} (r : Roof) (u : UnitIx) {b : Fin 16}
    (h : old.bands[b] = e.tables.bands[b]) :
    (r.plant.unit u).KeepsBand b (((List.finRange 16).foldl (resetBand e old) r).plant.unit u) :=
  foldl_related (R := fun p q : Roof => (p.plant.unit u).KeepsBand b (q.plant.unit u)) (fun _ => .refl ..)
    (fun _ _ _ => .trans) _ _ (fun q _ _ => resetBand_keepsBand e old q u (.inr h)) r

theorem resetBands_bandReset {e : Env} {old : Tables} (r : Roof) {u : UnitIx} {b : Fin 16}
    (hf : e.tables.units[u].fitted = true) (h : old.bands[b] ≠ e.tables.bands[b]) :
    (r.plant.unit u).BandReset b (((List.finRange 16).foldl (resetBand e old) r).plant.unit u) := by
  obtain ⟨m, hbefore, hbehind⟩ := foldl_through
    (R := fun p q : Roof => (p.plant.unit u).KeepsBand b (q.plant.unit u)) (fun _ => .refl ..) (fun _ _ _ => .trans)
    (resetBand e old) (List.nodup_finRange 16) (List.mem_finRange b)
    (fun q _ _ hb => resetBand_keepsBand e old q u (.inl hb)) r
  exact hbefore.bandReset (resetBand_bandReset m hf h) hbehind

/-! ## The units at an installation (R42, R43) -/

/-- R42, R43: fitted flags, then bindings and classes, on the roof. -/
def installUnitsRoof (e : Env) (old : Tables) (shutdown : Bool) (r : Roof) : Roof :=
  allUnits.foldl (reconfigureUnit e old) (allUnits.foldl (refitUnit e old shutdown) r)

theorem installUnits_eq (old : Tables) (s : State) : installUnits old s =
    (s.onRoof fun e r => installUnitsRoof e old s.lines.roofShutdown.debounced r).onLink (loseUnits s.tables) := rfl

/-- The refitting of the units does at one unit what its own step does, up to moves of stages. -/
theorem refitAll_through (e : Env) (old : Tables) (shutdown : Bool) (r : Roof) (u : UnitIx) : ∃ m : Roof,
    (r.plant.unit u).MovesTo (m.plant.unit u) ∧
    ((refitUnit e old shutdown m u).plant.unit u).MovesTo
      ((allUnits.foldl (refitUnit e old shutdown) r).plant.unit u) :=
  foldl_through (R := fun p q : Roof => (p.plant.unit u).MovesTo (q.plant.unit u)) (fun _ => .refl _)
    (fun _ _ _ => .trans) (refitUnit e old shutdown) allUnits_nodup (mem_allUnits u)
    (fun q _ _ hv => refitUnit_unit_other e old shutdown (Ne.symm hv) q) r

/-- R42, R43: a unit that stays fitted keeps its bands. -/
theorem installUnitsRoof_keepsBand {e : Env} {old : Tables} (shutdown : Bool) (r : Roof) {u : UnitIx}
    (h : old.units[u].fitted = (e.cfg u).fitted) (b : Fin 16) :
    (r.plant.unit u).KeepsBand b ((installUnitsRoof e old shutdown r).plant.unit u) := by
  obtain ⟨m, hbefore, hbehind⟩ := refitAll_through e old shutdown r u
  rw [refitUnit_same shutdown m h] at hbehind
  refine ((hbefore.trans hbehind).keepsBand b).trans ?_
  exact foldl_related (R := fun p q : Roof => (p.plant.unit u).KeepsBand b (q.plant.unit u)) (fun _ => .refl ..)
    (fun _ _ _ => .trans) _ _ (fun q v _ => reconfigureUnit_keepsBand e old q u v b) _

/-- R42: the reconfiguration of the other units moves at most the stages of one that does not stay fitted. -/
theorem reconfigureAll_unfitted {e : Env} {old : Tables} (r : Roof) {u : UnitIx}
    (h : ¬(old.units[u].fitted = true ∧ (e.cfg u).fitted = true)) :
    (r.plant.unit u).MovesTo ((allUnits.foldl (reconfigureUnit e old) r).plant.unit u) := by
  refine foldl_related (R := fun p q : Roof => (p.plant.unit u).MovesTo (q.plant.unit u)) (fun _ => .refl _)
    (fun _ _ _ => .trans) _ _ (fun q v _ => ?_) r
  by_cases hv : u = v
  · rw [← hv, reconfigureUnit_unfitted q h]
  · exact reconfigureUnit_unit_other e old q hv

/-- R43: a unit that an installation unfits is ABSENT, without causes and status, and keeps its isolation flag. -/
theorem installUnitsRoof_unfitted {e : Env} {old : Tables} (shutdown : Bool) (r : Roof) {u : UnitIx}
    (ho : old.units[u].fitted = true) (hn : (e.cfg u).fitted = false) :
    let y := (installUnitsRoof e old shutdown r).plant.unit u
    y.state = .absent ∧ y.causes = [] ∧ y.status = none ∧ y.isolated = (r.plant.unit u).isolated := by
  obtain ⟨m, hbefore, hbehind⟩ := refitAll_through e old shutdown r u
  rw [refitUnit_unfitted shutdown m ho hn, Roof.onPlant_plant, renewUnit_unit_self] at hbehind
  have hmoves := hbehind.trans (reconfigureAll_unfitted (e := e) (old := old) _ fun h => by rw [hn] at h; exact nomatch h.2)
  have habsent : (freshUnit e.tables u e.now).state = .absent := (freshUnit_state_absent_iff ..).2 hn
  exact ⟨hmoves.state.trans habsent, hmoves.causes, hmoves.status, hmoves.isolated.trans hbefore.isolated⟩

/-- R43: a unit that an installation fits is UNADOPTED. -/
theorem installUnitsRoof_fitted {e : Env} {old : Tables} (shutdown : Bool) (r : Roof) {u : UnitIx}
    (ho : old.units[u].fitted = false) (hn : (e.cfg u).fitted = true) :
    ((installUnitsRoof e old shutdown r).plant.unit u).state = .unadopted := by
  obtain ⟨m, -, hbehind⟩ := refitAll_through e old shutdown r u
  have hmoves := hbehind.trans (reconfigureAll_unfitted (e := e) (old := old) _ fun h => by rw [ho] at h; exact nomatch h.1)
  exact hmoves.state.trans (refitUnit_fitted_state shutdown m ho hn)

end Sys2Proof.Machine

namespace Sys2Proof.Machine

/-! ## The demand sample's own steps (R98 to R107) -/

/-- What a sample's steps leave: tables, jobs, seconds, ports and plant. -/
structure State.SampledTo (s t : State) : Prop where
  tables : t.tables = s.tables
  jobs : t.jobs = s.jobs
  seconds : t.seconds = s.seconds
  link : t.link = s.link
  units : t.plant.units = s.plant.units

theorem closeInterval_sampledTo (cause : CloseCause) (s : State) : s.SampledTo (closeInterval cause s) := by
  unfold closeInterval
  dsimp only
  split <;> exact ⟨rfl, rfl, rfl, rfl, rfl⟩

theorem closeMissing_sampledTo (s : State) : s.SampledTo (closeMissing s) := by
  have h := closeInterval_sampledTo .syncMissing
    { s.raise .syncMissing 0 none (some (s.meter.clock : Int)) with
      lines := { s.lines with syncMissing := true } }
  exact ⟨h.tables, h.jobs, h.seconds, h.link, h.units⟩

theorem testClose_sampledTo (s : State) : s.SampledTo (testClose s) := by
  unfold testClose
  split
  · exact ⟨rfl, rfl, rfl, rfl, rfl⟩
  · exact closeMissing_sampledTo s
  · exact closeInterval_sampledTo _ s

theorem takeSample_sampledTo (s : State) : s.SampledTo (takeSample s) := by
  have h := testClose_sampledTo { s with
    meter := sampleMeter s.tables.roof.intervalLength (roofPower s.env s.plant) s.meter
    plant := { s.plant with grantSum := 0 } }
  exact ⟨h.tables, h.jobs, h.seconds, h.link, h.units⟩

/-- The command of a demand sample: the pending apply, the sample, the end of the command. -/
theorem exec_demandSample {s : State} (h : s.powered = true) :
    exec .demandSample s = .next (conclude (takeSample (installPending s))) :=
  roofCommand_on (fun s => takeSample (installPending s)) h

/-- What a demand sample leaves beside the installation: stages moved by the pass that may follow. -/
theorem sample_after (s : State) :
    let t := conclude (takeSample s)
    t.tables = s.tables ∧ t.jobs = s.jobs ∧ t.seconds = s.seconds ∧ t.link = s.link ∧
    ∀ u, (s.plant.unit u).MovesTo (t.plant.unit u) := by
  have hsample := takeSample_sampledTo s
  obtain ⟨-, -, -, hsec, htab, -, -, -, -, hlink, hjobs, -⟩ := conclude_frame (takeSample s)
  refine ⟨htab.trans hsample.tables, hjobs.trans hsample.jobs, hsec.trans hsample.seconds, hlink.trans hsample.link,
    fun u => ?_⟩
  have hmoves := (conclude_moves (takeSample s)).unit u
  rw [Plant.unit_congr hsample.units] at hmoves
  exact hmoves

/-! ## The installation as a whole (R164) -/

/-- R164: the session closed and the candidate tables live, before the owners take them. -/
def tablesTaken (new : Tables) (s : State) : State :=
  ({ s with
    tables := new
    jobs := { s.jobs with
      session := closedSession
      config := .modified
      store := s.jobs.store.map fun st => { st with installedSince := true } } } : State).raise .applyDone 0 none (some 0)

/-- R164: the units, the curtailment and the bands after an installation. -/
def bandsTaken (new : Tables) (s : State) : State :=
  installBands s.tables (installCurtailment s.tables (installUnits s.tables (tablesTaken new s)))

theorem installTables_eq (new : Tables) (selected : List TableId) (s : State) : installTables new selected s =
    let s4 := if .roof ∈ selected then installRoof (bandsTaken new s) else bandsTaken new s
    if .unit ∈ selected ∨ .roof ∈ selected then installLead s4 else s4 := rfl

theorem leadCheck_moves (e : Env) (u : UnitIx) (r : Roof) : r.plant.Moves (leadCheck e u r).plant := by
  unfold leadCheck
  split
  · rfl
  · next order _ =>
    rw [Roof.raise_plant]
    exact Plant.moves_modUnit (f := fun x => { x with lead := order }) (UnitRec.movesTo_lead ..)

/-- R78: the lead/lag checks at an installation touch the plant and its two lists alone. -/
theorem installLead_frame (s : State) : ∃ r : Roof, installLead s = s.withRoof r ∧ s.plant.Moves r.plant := by
  refine foldl_related (R := fun a b : State => ∃ r : Roof, b = a.withRoof r ∧ a.plant.Moves r.plant)
    (fun a => ⟨a.roof, rfl, .refl _⟩) (fun a b c h k => ?_) _ _ (fun a u _ => ?_) s
  · obtain ⟨r, rfl, hr⟩ := h
    obtain ⟨q, rfl, hq⟩ := k
    exact ⟨q, rfl, hr.trans hq⟩
  · split
    · exact ⟨leadCheck a.env u a.roof, rfl, leadCheck_moves a.env u a.roof⟩
    · exact ⟨a.roof, rfl, .refl _⟩

theorem installRoof_frame (s : State) : (installRoof s).tables = s.tables ∧ (installRoof s).jobs = s.jobs ∧
    (installRoof s).seconds = s.seconds ∧ (installRoof s).plant = s.plant ∧
    (installRoof s).link = takeRates s.tables.roof s.link := by
  unfold installRoof
  dsimp only
  split <;> exact ⟨rfl, rfl, rfl, rfl, rfl⟩

/-! ### The ports -/

/-- R2, R43: what an installation makes of the ports. -/
def portsTaken (new : Tables) (selected : List TableId) (l : Link) : Link :=
  if .roof ∈ selected then takeRates new.roof (loseUnits new l) else loseUnits new l

theorem portsTaken_queues (new : Tables) (selected : List TableId) (l : Link) :
    (portsTaken new selected l).relay = l.relay ∧ (portsTaken new selected l).jobs = l.jobs ∧
    (portsTaken new selected l).transmitting = l.transmitting := by
  unfold portsTaken
  split
  · rw [takeRates_eq]
    exact ⟨rfl, rfl, rfl⟩
  · exact ⟨rfl, rfl, rfl⟩

/-- R2: the rates of an installation of the ROOF table. -/
theorem portsTaken_roof {new : Tables} {selected : List TableId} (h : .roof ∈ selected) (l : Link) :
    let m := portsTaken new selected l
    m.controllerRate = new.roof.controllerRate ∧
    m.controllerRx = (if l.controllerRate = new.roof.controllerRate then l.controllerRx else .hunt) ∧
    (l.trunk = .free → m.trunkRate = new.roof.trunkRate ∧
      m.trunkRx = if l.trunkRate = new.roof.trunkRate then l.trunkRx else .hunt) ∧
    (l.trunk ≠ .free → m.trunkRate = l.trunkRate ∧ m.trunkRx = l.trunkRx) := by
  intro m
  have hm : m = takeRates new.roof (loseUnits new l) := if_pos h
  have hfree := loseUnits_trunk_free_iff new l
  rw [hm, takeRates_eq]
  refine ⟨rfl, rfl, fun h => ⟨if_pos (hfree.2 h), ?_⟩,
    fun h => ⟨if_neg (mt hfree.1 h), if_neg fun hf => h (hfree.1 hf.1)⟩⟩
  by_cases hrate : l.trunkRate = new.roof.trunkRate
  · exact (if_neg fun hf => hf.2 hrate).trans (if_pos hrate).symm
  · exact (if_pos ⟨hfree.2 h, hrate⟩).trans (if_neg hrate).symm

/-! ### The owners of the tables -/

/-- R164: the state before the lead/lag checks of an installation. -/
def ownersTaken (new : Tables) (selected : List TableId) (s : State) : State :=
  if .roof ∈ selected then installRoof (bandsTaken new s) else bandsTaken new s

theorem ownersTaken_frame (new : Tables) (selected : List TableId) (s : State) :
    let t := ownersTaken new selected s
    t.tables = new ∧ t.jobs = (tablesTaken new s).jobs ∧ t.seconds = s.seconds ∧ t.plant = (bandsTaken new s).plant ∧
    t.link = portsTaken new selected s.link := by
  unfold ownersTaken portsTaken
  split
  · exact installRoof_frame (bandsTaken new s)
  · exact ⟨rfl, rfl, rfl, rfl, rfl⟩

/-- R2, R164: what an installation leaves beside the plant and the lists. -/
theorem installTables_frame (new : Tables) (selected : List TableId) (s : State) :
    let t := installTables new selected s
    t.tables = new ∧ t.jobs = (tablesTaken new s).jobs ∧ t.seconds = s.seconds ∧
    t.link = portsTaken new selected s.link ∧
    (bandsTaken new s).plant.Moves t.plant := by
  obtain ⟨htab, hjobs, hsec, hplant, hlink⟩ := ownersTaken_frame new selected s
  obtain ⟨r, hlead, hmoves⟩ := installLead_frame (ownersTaken new selected s)
  have hcases : installTables new selected s = ownersTaken new selected s ∨
      installTables new selected s = installLead (ownersTaken new selected s) := by
    rw [installTables_eq]
    by_cases h : .unit ∈ selected ∨ .roof ∈ selected
    · exact .inr (if_pos h)
    · exact .inl (if_neg h)
  rcases hcases with h | h
  · rw [h]
    exact ⟨htab, hjobs, hsec, hlink, by rw [hplant]⟩
  · rw [h, hlead]
    exact ⟨htab, hjobs, hsec, hlink, by rw [← hplant]; exact hmoves⟩

/-! ### The units -/

/-- R126, R132: the curtailment derived again moves stages and gates. -/
theorem installCurtailment_sequenced (old : Tables) (s : State) (u : UnitIx) :
    (s.plant.unit u).SequencedTo ((installCurtailment old s).plant.unit u) :=
  evaluateGates_sequenced _ _ s.roof u

/-- R42, R43, R126: the state whose bands an installation resets. -/
def curtailmentTaken (new : Tables) (s : State) : State :=
  installCurtailment s.tables (installUnits s.tables (tablesTaken new s))

/-- R42, R43: the units' part of an installation, as the curtailment finds it. -/
theorem curtailmentTaken_sequenced (new : Tables) (s : State) (u : UnitIx) :
    UnitRec.SequencedTo ((installUnitsRoof (tablesTaken new s).env s.tables s.lines.roofShutdown.debounced
      (tablesTaken new s).roof).plant.unit u) ((curtailmentTaken new s).plant.unit u) :=
  installCurtailment_sequenced s.tables (installUnits s.tables (tablesTaken new s)) u

theorem bandsTaken_eq (new : Tables) (s : State) : bandsTaken new s =
    (curtailmentTaken new s).onRoof fun e r => (List.finRange 16).foldl (resetBand e s.tables) r := rfl

/-- R43: a unit that an installation unfits. -/
theorem bandsTaken_unfitted {new : Tables} {s : State} {u : UnitIx} (ho : s.tables.units[u].fitted = true)
    (hn : new.units[u].fitted = false) :
    let y := (bandsTaken new s).plant.unit u
    y.state = .absent ∧ y.causes = [] ∧ y.status = none ∧ y.isolated = (s.plant.unit u).isolated := by
  obtain ⟨hstate, hcauses, hstatus, hiso⟩ := installUnitsRoof_unfitted (e := (tablesTaken new s).env)
    s.lines.roofShutdown.debounced (tablesTaken new s).roof ho hn
  have hcurtailed := curtailmentTaken_sequenced new s u
  have hbands : ((curtailmentTaken new s).plant.unit u).MovesTo ((bandsTaken new s).plant.unit u) :=
    foldl_related (R := fun p q : Roof => (p.plant.unit u).MovesTo (q.plant.unit u)) (fun _ => .refl _)
      (fun _ _ _ => .trans) _ _ (fun q b _ => resetBand_unfitted (e := (curtailmentTaken new s).env) hn s.tables q b)
      (curtailmentTaken new s).roof
  have hall := hcurtailed.trans hbands.sequenced
  exact ⟨hall.state.trans hstate, hall.causes.trans hcauses, hall.status.trans hstatus, hall.isolated.trans hiso⟩

/-- R43: a unit that an installation fits. -/
theorem bandsTaken_fitted {new : Tables} {s : State} {u : UnitIx} (ho : s.tables.units[u].fitted = false)
    (hn : new.units[u].fitted = true) : ((bandsTaken new s).plant.unit u).state = .unadopted := by
  have hstate := installUnitsRoof_fitted (e := (tablesTaken new s).env) s.lines.roofShutdown.debounced
    (tablesTaken new s).roof ho hn
  have hbands : ((bandsTaken new s).plant.unit u).state = ((curtailmentTaken new s).plant.unit u).state :=
    foldl_related (R := fun p q : Roof => (q.plant.unit u).state = (p.plant.unit u).state) (fun _ => rfl)
      (fun _ _ _ h k => k.trans h) _ _ (fun q b _ => resetBand_state (curtailmentTaken new s).env s.tables q b u)
      (curtailmentTaken new s).roof
  exact hbands.trans ((curtailmentTaken_sequenced new s u).state.trans hstate)

/-- R42, R126: a unit that stays fitted keeps its bands up to their own reset. -/
theorem curtailmentTaken_keepsBand {new : Tables} {s : State} {u : UnitIx} (ho : s.tables.units[u].fitted = true)
    (hn : new.units[u].fitted = true) (b : Fin 16) :
    (s.plant.unit u).KeepsBand b ((curtailmentTaken new s).plant.unit u) :=
  (installUnitsRoof_keepsBand (e := (tablesTaken new s).env) s.lines.roofShutdown.debounced (tablesTaken new s).roof
    (ho.trans hn.symm) b).trans ((curtailmentTaken_sequenced new s u).keepsBand b)

/-- R152: the band of a unit that stays fitted, where its record stays and where it changes. -/
theorem bandsTaken_bands {new : Tables} {s : State} {u : UnitIx} (ho : s.tables.units[u].fitted = true)
    (hn : new.units[u].fitted = true) (b : Fin 16) :
    (s.tables.bands[b] = new.bands[b] → (s.plant.unit u).KeepsBand b ((bandsTaken new s).plant.unit u)) ∧
    (s.tables.bands[b] ≠ new.bands[b] → (s.plant.unit u).BandReset b ((bandsTaken new s).plant.unit u)) := by
  have hkept := curtailmentTaken_keepsBand ho hn b
  refine ⟨fun hb => hkept.trans ?_, fun hb => hkept.bandReset ?_ (.refl ..)⟩
  · exact resetBands_keepsBand (e := (curtailmentTaken new s).env) (curtailmentTaken new s).roof u hb
  · exact resetBands_bandReset (e := (curtailmentTaken new s).env) (curtailmentTaken new s).roof hn hb

/-- R152: what the reset of a band leaves of the band's one cause. -/
theorem UnitRec.BandReset.cause {b : Fin 16} {x y : UnitRec} (h : x.BandReset b y) (hs : CausesSound x) {c : Cause}
    (hc : c ∈ x.causes) (hcls : c.tripClass = .band) (hpos : c.position = some b.val) :
    (c.latched = true → { c with present := false } ∈ y.causes) ∧
    (c.latched = false → ∀ d ∈ y.causes, ¬(d.tripClass = .band ∧ d.position = some b.val)) := by
  have hafter := h.causes c (bandCauses_eq_singleton hs hc hcls hpos)
  refine ⟨fun hlatched => ?_, fun hauto d hd hof => ?_⟩
  · rw [if_pos hlatched] at hafter
    have hmem : { c with present := false } ∈ bandCauses b y.causes := hafter ▸ List.mem_singleton_self _
    exact (List.mem_filter.1 hmem).1
  · rw [if_neg (by simp [hauto])] at hafter
    have hmem : d ∈ bandCauses b y.causes := List.mem_filter.2 ⟨hd, (d.isOf_iff _ _).2 hof⟩
    rw [hafter] at hmem
    cases hmem

theorem strikesOf_congr {x y : UnitRec} (h : y.strikes = x.strikes) (cls : TripClass) (pos : Option Nat) :
    strikesOf y cls pos = strikesOf x cls pos := by
  unfold strikesOf
  rw [h]

/-! ## The state behind the sample -/

/-- R98, R164: the state behind a demand sample that installs the pending apply. -/
theorem installation_after (new : Tables) (selected : List TableId) (s : State) :
    let t := conclude (takeSample (installTables new selected s))
    t.tables = new ∧ t.jobs = (tablesTaken new s).jobs ∧ t.seconds = s.seconds ∧
    t.link = portsTaken new selected s.link ∧ ∀ u, ((bandsTaken new s).plant.unit u).MovesTo (t.plant.unit u) := by
  obtain ⟨htab, hjobs, hsec, hlink, hplant⟩ := installTables_frame new selected s
  obtain ⟨htab', hjobs', hsec', hlink', hplant'⟩ := sample_after (installTables new selected s)
  exact ⟨htab'.trans htab, hjobs'.trans hjobs, hsec'.trans hsec, hlink'.trans hlink,
    fun u => (hplant.unit u).trans (hplant' u)⟩

theorem installPending_clear {s : State} (happly : s.jobs.session.state = .applying)
    (h : unitInUse s.tables (candidateTables s.tables s.jobs.session) s.plant = none) :
    installPending s = installTables (candidateTables s.tables s.jobs.session) s.jobs.session.selected s := by
  rw [installPending, if_pos happly]
  dsimp only
  rw [h]

theorem installPending_inUse {s : State} (happly : s.jobs.session.state = .applying) {u : UnitIx}
    (h : unitInUse s.tables (candidateTables s.tables s.jobs.session) s.plant = some u) :
    installPending s = failInstallation u s := by
  rw [installPending, if_pos happly]
  dsimp only
  rw [h]

/-- R43: fitted and unfitted units behind an installation. -/
theorem installation_units {new : Tables} {s t : State} {u : UnitIx}
    (h : ((bandsTaken new s).plant.unit u).MovesTo (t.plant.unit u)) :
    (s.tables.units[u].fitted = true → new.units[u].fitted = false →
      (t.plant.unit u).state = .absent ∧ (t.plant.unit u).causes = [] ∧ (t.plant.unit u).status = none ∧
      (t.plant.unit u).isolated = (s.plant.unit u).isolated) ∧
    (s.tables.units[u].fitted = false → new.units[u].fitted = true → (t.plant.unit u).state = .unadopted) := by
  refine ⟨fun ho hn => ?_, fun ho hn => h.state.trans (bandsTaken_fitted ho hn)⟩
  obtain ⟨hstate, hcauses, hstatus, hiso⟩ := bandsTaken_unfitted ho hn
  exact ⟨h.state.trans hstate, h.causes.trans hcauses, h.status.trans hstatus, h.isolated.trans hiso⟩

/-- R152: the bands behind an installation. -/
theorem installation_bands {new : Tables} {s t : State} {u : UnitIx}
    (h : ((bandsTaken new s).plant.unit u).MovesTo (t.plant.unit u)) (b : Fin 16)
    (ho : s.tables.units[u].fitted = true) (hn : new.units[u].fitted = true) :
    (s.tables.bands[b] = new.bands[b] → (s.plant.unit u).KeepsBand b (t.plant.unit u)) ∧
    (s.tables.bands[b] ≠ new.bands[b] → (s.plant.unit u).BandReset b (t.plant.unit u)) := by
  obtain ⟨hkept, hreset⟩ := bandsTaken_bands ho hn b
  exact ⟨fun hb => (hkept hb).trans (h.keepsBand b), fun hb => (UnitRec.KeepsBand.refl ..).bandReset (hreset hb)
    (h.keepsBand b)⟩

/-- Settles O53: the installation is followed through the owners of the tables, each of which leaves a band either as it
was or reset, and then through the sample, which moves at most stages. -/
theorem sampleInstallsThePendingApply : Obligations.SampleInstallsThePendingApply := by
  intro s hready happly
  refine ⟨fun hclear => ?_, fun u hused => ?_⟩
  · refine ⟨_, exec_demandSample hready.1, ?_⟩
    rw [installPending_clear happly hclear]
    obtain ⟨htab, hjobs, hsec, hlink, hmoves⟩ := installation_after (candidateTables s.tables s.jobs.session)
      s.jobs.session.selected s
    obtain ⟨hrelay, hqueue, hsending⟩ := portsTaken_queues (candidateTables s.tables s.jobs.session)
      s.jobs.session.selected s.link
    rw [htab, hjobs, hsec, hlink]
    refine ⟨rfl, rfl, rfl, rfl, rfl, rfl, hrelay, hqueue, hsending, fun id hid k => ?_, fun id hid k => ?_,
      fun hroof => ?_, fun hroof => portsTaken_roof hroof s.link, fun u => installation_units (hmoves u),
      fun u b ho hn hs => ?_⟩
    · exact (recordBytes_candidate ..).trans (if_pos hid)
    · exact (recordBytes_candidate ..).trans (if_neg hid)
    · rw [portsTaken, if_neg hroof]
      exact ⟨rfl, rfl, rfl, rfl⟩
    · obtain ⟨hkept, hreset⟩ := installation_bands (hmoves u) b ho hn
      refine ⟨fun hb => (hkept hb).pair, fun hb => ⟨(hreset hb).pair, strikesOf_congr (hreset hb).strikes _ _, ?_⟩⟩
      exact fun c hc hcls hpos => (hreset hb).cause hs hc hcls hpos
  · obtain ⟨htab, hjobs, -⟩ := sample_after (failInstallation u s)
    refine ⟨_, exec_demandSample hready.1, ?_⟩
    rw [installPending_inUse happly hused]
    exact ⟨htab, hjobs⟩

end Sys2Proof.Machine

namespace Sys2Proof.Machine

/-! ## The start queue in its order (R81, R82) -/

/-- R82: two entries of one queue stand in one of the two orders: they differ in unit or kind. -/
def Entry.Apart (a b : Entry) : Prop := ¬(a.unit = b.unit ∧ a.kind = b.kind)

theorem Entry.Apart.symm {a b : Entry} (h : a.Apart b) : b.Apart a := fun hb => h ⟨hb.1.symm, hb.2.symm⟩

theorem Entry.ahead_iff (a b : Entry) : a.ahead b = true ↔ a.currentClass < b.currentClass ∨
    (a.currentClass = b.currentClass ∧ (a.sequence < b.sequence ∨
      (a.sequence = b.sequence ∧ (a.unit.val < b.unit.val ∨
        (a.unit.val = b.unit.val ∧ a.kind.code < b.kind.code))))) := by
  simp [Entry.ahead, Fin.ext_iff]

theorem Entry.ahead_trans {a b c : Entry} (h : a.ahead b = true) (k : b.ahead c = true) : a.ahead c = true := by
  rw [Entry.ahead_iff] at *
  omega

theorem Kind.code_injective {a b : Kind} (h : a.code = b.code) : a = b :=
  match a, b, h with
  | .cool, .cool, _ => rfl
  | .heat, .heat, _ => rfl

theorem Entry.ahead_total {a b : Entry} (h : a.Apart b) : a.ahead b = true ∨ b.ahead a = true := by
  have hne : a.unit.val = b.unit.val → a.kind.code ≠ b.kind.code := fun hu hk =>
    h ⟨Fin.ext hu, Kind.code_injective hk⟩
  rw [Entry.ahead_iff, Entry.ahead_iff]
  omega

/-- R82: an entry put at its place leaves the queue in its order. -/
theorem insertEntry_ordered {n : Entry} {q : List Entry} (hq : StartQueueOrdered q) (hn : ∀ m ∈ q, n.Apart m) :
    StartQueueOrdered (insertEntry n q) := by
  obtain ⟨hahead, hapart⟩ := hq
  refine ⟨?_, ((insertEntry_perm n q).pairwise_iff fun h => Entry.Apart.symm h).2
    (List.pairwise_cons.2 ⟨hn, hapart⟩)⟩
  induction q with
  | nil => exact List.pairwise_singleton _ _
  | cons m rest ih =>
    obtain ⟨hm, hrest⟩ := List.pairwise_cons.1 hahead
    obtain ⟨hnm, hnrest⟩ := List.forall_mem_cons.1 hn
    unfold insertEntry
    split
    · next h =>
      refine List.pairwise_cons.2 ⟨List.forall_mem_cons.2 ⟨h, fun x hx => ?_⟩, hahead⟩
      exact Entry.ahead_trans h (hm x hx)
    · next h =>
      have hmn := (Entry.ahead_total hnm).resolve_left h
      refine List.pairwise_cons.2 ⟨fun x hx => ?_, ih hnrest hrest (List.pairwise_cons.1 hapart).2⟩
      rcases List.mem_cons.1 ((insertEntry_perm n rest).mem_iff.1 hx) with rfl | hx
      · exact hmn
      · exact hm x hx

/-- R82: entries of different units or kinds are put in order. -/
theorem orderQueue_ordered {q : List Entry} (hq : q.Pairwise Entry.Apart) : StartQueueOrdered (orderQueue q) := by
  induction q with
  | nil => exact ⟨List.Pairwise.nil, List.Pairwise.nil⟩
  | cons n rest ih =>
    obtain ⟨hn, hrest⟩ := List.pairwise_cons.1 hq
    exact insertEntry_ordered (ih hrest) fun m hm => hn m ((orderQueue_perm rest).mem_iff.1 hm)

theorem StartQueueOrdered.filter {q : List Entry} (h : StartQueueOrdered q) (p : Entry → Bool) :
    StartQueueOrdered (q.filter p) := ⟨h.1.filter p, h.2.filter p⟩

/-- A change of every entry that keeps its unit and kind keeps the entries apart. -/
theorem StartQueueOrdered.map_apart {q : List Entry} (h : StartQueueOrdered q) {f : Entry → Entry}
    (hf : ∀ n, (f n).unit = n.unit ∧ (f n).kind = n.kind) : (q.map f).Pairwise Entry.Apart := by
  refine List.pairwise_map.2 (h.2.imp fun hab hfab => hab ?_)
  rwa [(hf _).1, (hf _).1, (hf _).2, (hf _).2] at hfab

theorem Entry.isOf_iff (n : Entry) (u : UnitIx) (k : Kind) : n.isOf u k = true ↔ n.unit = u ∧ n.kind = k := by
  simp [Entry.isOf]

/-- R81: an entry without its skip reason, which has no part in the order. -/
def Entry.unskipped (n : Entry) : Entry := { n with skip := .none }

theorem StartQueueOrdered.of_unskipped {q r : List Entry} (h : StartQueueOrdered q)
    (hr : r.map Entry.unskipped = q.map Entry.unskipped) : StartQueueOrdered r := by
  have hq : StartQueueOrdered (q.map Entry.unskipped) :=
    ⟨List.pairwise_map.2 (h.1.imp id), List.pairwise_map.2 (h.2.imp id)⟩
  rw [← hr] at hq
  exact ⟨(List.pairwise_map.1 hq.1).imp id, (List.pairwise_map.1 hq.2).imp id⟩

/-- R89: the walk records skip reasons and nothing else. -/
theorem walkQueue_unskipped (e : Env) (p : Plant) (q : List Entry) :
    (walkQueue e p q).1.map Entry.unskipped = q.map Entry.unskipped := by
  induction q with
  | nil => rfl
  | cons n rest ih =>
    unfold walkQueue
    split
    · rfl
    · exact congrArg (n.unskipped :: ·) ih

/-! ## The injection set (R31, R32) -/

theorem nodup_append_single {α : Type} {l : List α} {a : α} (h : l.Nodup) (ha : a ∉ l) : (l ++ [a]).Nodup :=
  List.nodup_append.2 ⟨h, List.nodup_singleton a, fun x hx y hy hxy => ha (by
    rw [← List.mem_singleton.1 hy, ← hxy]
    exact hx)⟩

theorem InjectionsSound.inject {p : Plant} (h : InjectionsSound p) (u : UnitIx) (prot : Bool) :
    InjectionsSound (p.inject u prot) := by
  obtain ⟨hinj, hprot, hsub⟩ := h
  have hkept : ∀ v ∈ p.injections, v ∈ (p.inject u prot).injections := fun v hv => by
    unfold Plant.inject
    dsimp only
    split
    · exact hv
    · exact List.mem_append_left _ hv
  refine ⟨?_, ?_, fun v hv => ?_⟩
  · unfold Plant.inject
    dsimp only
    split
    · exact hinj
    · next hu => exact nodup_append_single hinj hu
  · unfold Plant.inject
    dsimp only
    split
    · next hu => exact nodup_append_single hprot hu.2
    · exact hprot
  · by_cases hvu : v = u
    · rw [hvu]
      exact Plant.mem_inject ..
    · refine hkept v (hsub v ?_)
      unfold Plant.inject at hv
      dsimp only at hv
      split at hv
      · exact (List.mem_append.1 hv).resolve_right fun h => hvu (List.mem_singleton.1 h)
      · exact hv

theorem InjectionsSound.dropInjection {p : Plant} (h : InjectionsSound p) (u : UnitIx) :
    InjectionsSound (p.dropInjection u) := by
  obtain ⟨hinj, hprot, hsub⟩ := h
  refine ⟨hinj.filter _, hprot.filter _, fun v hv => ?_⟩
  obtain ⟨hmem, hne⟩ := List.mem_filter.1 hv
  exact List.mem_filter.2 ⟨hsub v hmem, hne⟩

/-! ## Causes and strikes (R137, R142) -/

theorem CausesSound.congr {x y : UnitRec} (h : CausesSound x) (hc : y.causes = x.causes) (hs : y.strikes = x.strikes) :
    CausesSound y := by
  unfold CausesSound
  rw [hc, hs]
  exact h

theorem holdsCause_eq_false_iff (x : UnitRec) (cls : TripClass) (pos : Option Nat) :
    holdsCause x cls pos = false ↔ ∀ c ∈ x.causes, ¬(c.tripClass = cls ∧ c.position = pos) := by
  simp only [holdsCause, List.any_eq_false, Cause.isOf_iff]

/-- R140: a cause joins that is not held. -/
theorem CausesSound.enter {x y : UnitRec} (h : CausesSound x) {c : Cause}
    (hc : holdsCause x c.tripClass c.position = false) (hy : y.causes = x.causes ++ [c]) (hs : y.strikes = x.strikes) :
    CausesSound y := by
  refine ⟨?_, hs ▸ h.2⟩
  rw [hy]
  refine List.pairwise_append.2 ⟨h.1, List.pairwise_singleton _ _, fun a ha b hb => ?_⟩
  rw [List.mem_singleton.1 hb]
  exact (holdsCause_eq_false_iff ..).1 hc a ha

/-- R141, R144: causes leave. -/
theorem CausesSound.thin {x y : UnitRec} (h : CausesSound x) {p : Cause → Bool} (hy : y.causes = x.causes.filter p)
    (hs : y.strikes = x.strikes) : CausesSound y :=
  ⟨hy ▸ h.1.filter p, hs ▸ h.2⟩

/-- R138, R141: marks and flags of causes change. -/
theorem CausesSound.mark {x y : UnitRec} (h : CausesSound x) {f : Cause → Cause}
    (hf : ∀ c, (f c).tripClass = c.tripClass ∧ (f c).position = c.position) (hy : y.causes = x.causes.map f)
    (hs : y.strikes = x.strikes) : CausesSound y := by
  refine ⟨hy ▸ List.pairwise_map.2 (h.1.imp fun hab hfab => hab ?_), hs ▸ h.2⟩
  rwa [(hf _).1, (hf _).1, (hf _).2, (hf _).2] at hfab

theorem CausesSound.setStrikes {x : UnitRec} (h : CausesSound x) (cls : TripClass) (pos : Option Nat) {times : List Nat}
    (ht : times.length ≤ 7) : CausesSound (setStrikes cls pos times x) := by
  refine ⟨h.1, fun l hl => ?_⟩
  have hothers (l : StrikeList) (p : StrikeList → Bool) (hl : l ∈ x.strikes.filter p) : l.times.length ≤ 7 :=
    h.2 l (List.mem_filter.1 hl).1
  unfold Machine.setStrikes at hl
  dsimp only at hl
  split at hl
  · exact hothers l _ hl
  · rcases List.mem_append.1 hl with hl | hl
    · exact hothers l _ hl
    · rw [List.mem_singleton.1 hl]
      exact ht

/-- R142: a strike keeps at most 7 times. -/
theorem strike_length {times : List Nat} (now window : Nat) (h : times.length ≤ 7) :
    (strike now window times).length ≤ 7 := by
  have hdrop := (List.dropWhile_suffix (l := times) fun t => decide (window < now - t)).length_le
  unfold strike
  dsimp only
  split
  · simp only [List.length_drop, List.length_append, List.length_singleton]
    omega
  · next hl => exact Nat.not_lt.1 hl

theorem CausesSound.strikesOf_length {x : UnitRec} (h : CausesSound x) (cls : TripClass) (pos : Option Nat) :
    (strikesOf x cls pos).length ≤ 7 := by
  unfold strikesOf
  split
  · next l hl => exact h.2 l (List.mem_of_find?_eq_some hl)
  · exact Nat.zero_le 7

end Sys2Proof.Machine

namespace Sys2Proof.Machine

/-! ## What the work on the plant keeps -/

/-- A unit record before and after work on the plant that stores no new status: its causes and strikes stay sound
(R137, R142), it enters and leaves ABSENT nowhere (R43), the status record stays, the failures do not begin, and a
target map that changes clears the fresh-since-change flag (R49). -/
structure UnitRec.WorksTo (a b : UnitRec) : Prop where
  causes : CausesSound a → CausesSound b
  absent : b.state = .absent ↔ a.state = .absent
  status : b.status = a.status
  failures : a.failures = 0 → b.failures = 0
  fresh : b.fresh = false ∨ (b.target = a.target ∧ b.fresh = a.fresh)

theorem UnitRec.WorksTo.refl (a : UnitRec) : a.WorksTo a := ⟨id, Iff.rfl, rfl, id, .inr ⟨rfl, rfl⟩⟩

theorem UnitRec.WorksTo.trans {a b c : UnitRec} (h : a.WorksTo b) (k : b.WorksTo c) : a.WorksTo c where
  causes := k.causes ∘ h.causes
  absent := k.absent.trans h.absent
  status := k.status.trans h.status
  failures := k.failures ∘ h.failures
  fresh := by
    rcases k.fresh with hc | ⟨ht, hc⟩
    · exact .inl hc
    · rcases h.fresh with hb | ⟨ht', hb⟩
      · exact .inl (hc.trans hb)
      · exact .inr ⟨ht.trans ht', hc.trans hb⟩

/-- Moves of stages that write no target map are such work. -/
theorem UnitRec.MovesTo.worksTo {a b : UnitRec} (h : a.MovesTo b) (ht : b.target = a.target) (hf : b.fresh = a.fresh) :
    a.WorksTo b where
  causes hs := hs.congr h.causes h.strikes
  absent := by rw [h.state]
  status := h.status
  failures ha := h.failures.trans ha
  fresh := .inr ⟨ht, hf⟩

/-- Work that changes the unit state, between the states of a fitted unit, beside what no invariant speaks of. -/
theorem UnitRec.WorksTo.of_state {a b : UnitRec} (ha : a.state ≠ .absent) (hb : b.state ≠ .absent)
    (hcauses : b.causes = a.causes := by rfl) (hstrikes : b.strikes = a.strikes := by rfl)
    (hstatus : b.status = a.status := by rfl)
    (hfailures : b.failures = a.failures ∨ b.failures = 0 := by exact .inl rfl)
    (htarget : b.target = a.target := by rfl) (hfresh : b.fresh = a.fresh := by rfl) : a.WorksTo b where
  causes h := h.congr hcauses hstrikes
  absent := iff_of_false hb ha
  status := hstatus
  failures h := hfailures.elim (·.trans h) id
  fresh := .inr ⟨htarget, hfresh⟩

/-- Work on a field that no invariant speaks of. -/
theorem UnitRec.WorksTo.of_fields {a b : UnitRec} (hstate : b.state = a.state := by rfl)
    (hcauses : b.causes = a.causes := by rfl) (hstrikes : b.strikes = a.strikes := by rfl)
    (hstatus : b.status = a.status := by rfl)
    (hfailures : b.failures = a.failures ∨ b.failures = 0 := by exact .inl rfl)
    (htarget : b.target = a.target := by rfl) (hfresh : b.fresh = a.fresh := by rfl) : a.WorksTo b where
  causes h := h.congr hcauses hstrikes
  absent := by rw [hstate]
  status := hstatus
  failures h := hfailures.elim (·.trans h) id
  fresh := .inr ⟨htarget, hfresh⟩

/-- Work on the cause list or the strikes alone. -/
theorem UnitRec.WorksTo.of_causes {a b : UnitRec} (h : CausesSound a → CausesSound b)
    (hstate : b.state = a.state := by rfl) (hstatus : b.status = a.status := by rfl)
    (hfailures : b.failures = a.failures := by rfl) (htarget : b.target = a.target := by rfl)
    (hfresh : b.fresh = a.fresh := by rfl) : a.WorksTo b where
  causes := h
  absent := by rw [hstate]
  status := hstatus
  failures h := hfailures.trans h
  fresh := .inr ⟨htarget, hfresh⟩

/-- The plant before and after such work: the start queue stays in its order, the injection set sound. -/
structure Plant.Works (p q : Plant) : Prop where
  queue : StartQueueOrdered p.queue → StartQueueOrdered q.queue
  injections : InjectionsSound p → InjectionsSound q
  unit : ∀ v : UnitIx, (p.unit v).WorksTo (q.unit v)

theorem Plant.Works.refl (p : Plant) : p.Works p := ⟨id, id, fun _ => .refl _⟩

theorem Plant.Works.trans {p q r : Plant} (h : p.Works q) (k : q.Works r) : p.Works r :=
  ⟨k.queue ∘ h.queue, k.injections ∘ h.injections, fun v => (h.unit v).trans (k.unit v)⟩

/-- The roof before and after such work: the capture list keeps its bound. -/
structure Roof.Works (r q : Roof) : Prop where
  plant : r.plant.Works q.plant
  captures : r.captures.length ≤ 16 → q.captures.length ≤ 16

theorem Roof.Works.refl (r : Roof) : r.Works r := ⟨.refl _, id⟩

theorem Roof.Works.trans {r q t : Roof} (h : r.Works q) (k : q.Works t) : r.Works t :=
  ⟨h.plant.trans k.plant, k.captures ∘ h.captures⟩

theorem Roof.works_onPlant {r : Roof} {f : Plant → Plant} (h : r.plant.Works (f r.plant)) : r.Works (r.onPlant f) :=
  ⟨h, id⟩

theorem Roof.works_withPlant {r : Roof} {p : Plant} (h : r.plant.Works p) : r.Works { r with plant := p } := ⟨h, id⟩

theorem Roof.works_raise (e : Env) (k : NoticeKind) (u : Nat) (i : Option Nat) (v : Option Int) (r : Roof) :
    r.Works (r.raise e k u i v) := ⟨.refl _, id⟩

theorem Roof.works_foldl {α : Type} {f : Roof → α → Roof} {l : List α} (h : ∀ q, ∀ x ∈ l, Roof.Works q (f q x))
    (r : Roof) : r.Works (l.foldl f r) :=
  foldl_related Roof.Works.refl (fun _ _ _ => .trans) f l h r

/-! ### Single changes of the plant -/

theorem Plant.works_modUnit {p : Plant} {u : UnitIx} {f : UnitRec → UnitRec} (h : (p.unit u).WorksTo (f (p.unit u))) :
    p.Works (p.modUnit u f) where
  queue := id
  injections := id
  unit v := by
    rw [Plant.unit_modUnit]
    split
    · next hv => rw [hv]; exact h
    · exact .refl _

theorem Plant.works_mapStages (p : Plant) (u : UnitIx) (f : UnitRec → Slot → Stage → Stage) :
    p.Works (p.modUnit u fun x => x.mapStages (f x)) :=
  Plant.works_modUnit ((UnitRec.movesTo_mapStages _ _).worksTo rfl rfl)

theorem Plant.works_inject (p : Plant) (u : UnitIx) (prot : Bool) : p.Works (p.inject u prot) :=
  ⟨id, fun h => h.inject u prot, fun _ => .refl _⟩

theorem Plant.works_dropInjection (p : Plant) (u : UnitIx) : p.Works (p.dropInjection u) :=
  ⟨id, fun h => h.dropInjection u, fun _ => .refl _⟩

theorem Plant.works_dropEntry (p : Plant) (u : UnitIx) (k : Kind) : p.Works (p.dropEntry u k) :=
  ⟨fun h => h.filter _, id, fun _ => .refl _⟩

/-- A change of the start queue, and of what no invariant of the plant speaks of. -/
theorem Plant.works_queue {p q : Plant} (h : StartQueueOrdered p.queue → StartQueueOrdered q.queue)
    (hunits : q.units = p.units := by rfl) (hinj : q.injections = p.injections := by rfl)
    (hprot : q.protection = p.protection := by rfl) : p.Works q where
  queue := h
  injections hs := by
    unfold InjectionsSound
    rw [hinj, hprot]
    exact hs
  unit v := by
    rw [Plant.unit_congr hunits]
    exact .refl _

/-! ### The sequencer -/

theorem reselect_works (u : UnitIx) (p : Plant) : p.Works (reselect u p) :=
  Plant.works_modUnit ((UnitRec.movesTo_mapStages _ _).worksTo rfl rfl)

theorem writeTarget_works (prot : Bool) (u : UnitIx) (m : StageMap) (p : Plant) :
    p.Works (writeTarget prot u m p) := by
  unfold writeTarget
  split
  · exact .refl _
  · have hwrite : p.Works (p.modUnit u fun r => { r with target := m, fresh := false }) :=
      Plant.works_modUnit ⟨fun h => h.congr rfl rfl, Iff.rfl, rfl, id, .inl rfl⟩
    dsimp only
    split
    · exact hwrite.trans (Plant.works_inject ..)
    · exact hwrite

theorem refreshTarget_works (prot : Bool) (u : UnitIx) (p : Plant) : p.Works (refreshTarget prot u p) := by
  unfold refreshTarget
  split
  · exact writeTarget_works ..
  · exact writeTarget_works ..
  · exact writeTarget_works ..
  · exact .refl _
  · exact .refl _

theorem leadCheck_works (e : Env) (u : UnitIx) (r : Roof) : r.Works (leadCheck e u r) := by
  unfold leadCheck
  split
  · exact .refl _
  · next order _ =>
    exact ⟨Plant.works_modUnit (f := fun x => { x with lead := order }) .of_fields, id⟩

theorem moveUnit_works (e : Env) (u : UnitIx) {f : Plant → Plant} {r : Roof} (h : r.plant.Works (f r.plant)) :
    r.Works (moveUnit e u f r) := by
  unfold moveUnit
  split
  · exact (Roof.works_onPlant h).trans (leadCheck_works ..)
  · exact Roof.works_onPlant h

/-- R81, R83: an entry of a unit and kind that has none joins. -/
theorem Plant.works_join (e : Env) {u : UnitIx} {k : Kind} {p : Plant} (h : p.hasEntry u k = false) :
    p.Works (p.join e u k) :=
  Plant.works_queue fun hq => insertEntry_ordered hq fun m hm hum => by
    have hm' := List.any_eq_false.1 h m hm
    exact hm' ((Entry.isOf_iff ..).2 ⟨hum.1.symm, hum.2.symm⟩)

theorem examine_works (e : Env) (u : UnitIx) (k : Kind) (p : Plant) : p.Works (examine e u k p) := by
  unfold examine
  dsimp only
  split
  · split
    · exact Plant.works_dropEntry ..
    · exact .refl _
  · next hnone =>
    split
    · exact Plant.works_join e (Bool.eq_false_iff.2 hnone)
    · exact .refl _

theorem examineUnit_works (e : Env) (u : UnitIx) (r : Roof) : r.Works (examineUnit e u r) :=
  moveUnit_works e u (((examine_works ..).trans (examine_works ..)).trans (reselect_works ..))

theorem withdrawEntries_works (e : Env) (u : UnitIx) (r : Roof) : r.Works (withdrawEntries e u r) :=
  moveUnit_works e u
    (((Plant.works_dropEntry ..).trans (Plant.works_dropEntry ..)).trans (reselect_works ..))

theorem settle_works (e : Env) (u : UnitIx) (r : Roof) : r.Works (settle e u r) := by
  unfold settle
  split
  · have hmarks := moveUnit_works e u (f := fun p => p.modUnit u (settleMarks e u)) (r := r)
      (Plant.works_mapStages r.plant u fun x => settleStage e u x)
    exact (hmarks.trans (Roof.works_onPlant (refreshTarget_works ..))).trans (examineUnit_works ..)
  · exact .refl _

theorem settleAll_works (e : Env) (due : UnitIx → Bool) (r : Roof) : r.Works (settleAll e due r) := by
  refine Roof.works_foldl (fun q u _ => ?_) r
  split
  · exact settle_works ..
  · exact .refl _

theorem evaluateGates_works (e : Env) (also : UnitIx → Bool) (r : Roof) : r.Works (evaluateGates e also r) := by
  have hgates : r.plant.Works (withGates e r.plant) := ⟨id, id, fun v => by
    rw [withGates_unit]
    exact .of_fields⟩
  exact (Roof.works_onPlant hgates).trans (settleAll_works e _ (r.onPlant (withGates e)))

theorem startSlot_works (e : Env) (u : UnitIx) (i : Slot) (pr : Profile) (r : Roof) :
    r.Works (startSlot e u i pr r) := by
  have hstart : r.plant.Works (r.plant.modUnit u (startRecord e.now pr i)) :=
    Plant.works_modUnit ((startRecord_movesTo ..).worksTo rfl rfl)
  exact (Roof.works_onPlant (hstart.trans (refreshTarget_works ..))).trans (settle_works ..)

theorem offWindowsEnd_works (e : Env) (u : UnitIx) (i : Slot) (p : Plant) : p.Works (offWindowsEnd e u i p) :=
  (Plant.works_modUnit ((UnitRec.movesTo_mapStages _ _).worksTo rfl rfl)).trans (reselect_works ..)

theorem minimumOnEnds_works (e : Env) (u : UnitIx) (i : Slot) (r : Roof) : r.Works (minimumOnEnds e u i r) :=
  (moveUnit_works e u (Plant.works_modUnit ((UnitRec.movesTo_mapStages _ _).worksTo rfl rfl))).trans
    (Roof.works_onPlant ((refreshTarget_works ..).trans (reselect_works ..)))

theorem blankingEnds_works (e : Env) (u : UnitIx) (r : Roof) : r.Works (blankingEnds e u r) := by
  unfold blankingEnds
  split
  · exact (moveUnit_works e u (Plant.works_modUnit .of_fields)).trans
      (Roof.works_onPlant ((refreshTarget_works ..).trans (reselect_works ..)))
  · exact .refl _

theorem tripSlots_works (e : Env) (u : UnitIx) (scope : Slot → Bool) (r : Roof) : r.Works (tripSlots e u scope r) :=
  ((moveUnit_works e u (Plant.works_mapStages ..)).trans (Roof.works_onPlant (refreshTarget_works ..))).trans
    (settle_works ..)

theorem releaseSlots_works (e : Env) (u : UnitIx) (scope : Slot → Bool) (r : Roof) :
    r.Works (releaseSlots e u scope r) :=
  ((moveUnit_works e u (Plant.works_mapStages ..)).trans (Roof.works_onPlant (refreshTarget_works ..))).trans
    (settle_works ..)

/-! ### The admission unit -/

theorem grantSlot_works (e : Env) (u : UnitIx) (i : Slot) (pr : Profile) (r : Roof) :
    r.Works (grantSlot e u i pr r) :=
  (Roof.works_onPlant (Plant.works_queue id)).trans (startSlot_works e u i pr _)

theorem requeue_works (e : Env) (u : UnitIx) (k : Kind) (p : Plant) : p.Works (requeue e u k p) := by
  unfold requeue
  split
  · exact .refl _
  · next n hn =>
    obtain ⟨hu, hk⟩ := (n.isOf_iff u k).1 (List.find?_some (p := fun m : Entry => m.isOf u k) hn)
    refine (Plant.works_queue fun hq => ?_).trans (reselect_works u _)
    refine insertEntry_ordered (hq.filter _) fun m hm hnm => ?_
    have hother := (List.mem_filter.1 hm).2
    rw [(m.isOf_iff u k).2 ⟨hnm.1.symm.trans hu, hnm.2.symm.trans hk⟩] at hother
    cases hother

theorem grantEntry_works (e : Env) (n : Entry) (r : Roof) : r.Works (grantEntry e n r) := by
  unfold grantEntry
  split
  · exact .refl _
  · split
    · exact .refl _
    · exact (grantSlot_works ..).trans (Roof.works_onPlant (requeue_works ..))

theorem admissionPass_works (e : Env) (r : Roof) : r.Works (admissionPass e r) := by
  have hwalk : r.plant.Works { r.plant with queue := (walkQueue e r.plant r.plant.queue).1 } :=
    Plant.works_queue fun hq => hq.of_unskipped (walkQueue_unskipped ..)
  unfold admissionPass
  split
  · exact grantSlot_works ..
  · dsimp only
    split
    · exact Roof.works_onPlant hwalk
    · exact (Roof.works_onPlant hwalk).trans (grantEntry_works ..)

theorem runPasses_works (e : Env) (n : Nat) (r : Roof) : r.Works (runPasses e n r) := by
  induction n generalizing r with
  | zero => exact Roof.works_onPlant (Plant.works_queue id)
  | succ n ih =>
    unfold runPasses
    split
    · exact ((Roof.works_onPlant (Plant.works_queue id)).trans (admissionPass_works ..)).trans (ih _)
    · exact .refl _

theorem ageQueue_works (e : Env) (p : Plant) : p.Works (ageQueue e p) := by
  refine Plant.works_queue fun hq => orderQueue_ordered (hq.map_apart fun n => ?_)
  unfold ageEntry
  split <;> exact ⟨rfl, rfl⟩

theorem reclassEntries_works (u : UnitIx) (cls : Nat) (p : Plant) : p.Works (reclassEntries u cls p) := by
  refine Plant.works_queue fun hq => orderQueue_ordered (hq.map_apart fun n => ?_)
  split <;> exact ⟨rfl, rfl⟩

/-! ### The protection unit -/

theorem Roof.works_addCapture (e : Env) (c : Capture) (r : Roof) : r.Works (r.addCapture e c) := by
  refine ⟨?_, addCapture_length e c r⟩
  unfold Roof.addCapture
  split
  · exact .refl _
  · split <;> exact .refl _

/-- R140: a cause that is not held is entered. -/
theorem enterCause_works (e : Env) {u : UnitIx} {cls : TripClass} {pos : Option Nat} (ap : AppliesWhen) {r : Roof}
    (h : holdsCause (r.plant.unit u) cls pos = false) : r.Works (enterCause e u cls pos ap r) := by
  have hlist : r.Works { r with plant := r.plant.modUnit u fun x =>
      { x with causes := x.causes ++ [⟨cls, pos, ap, latchedAtEntry e.tables cls, true, e.now⟩] } } :=
    Roof.works_withPlant (Plant.works_modUnit (.of_causes fun hs => hs.enter h rfl rfl))
  exact ((hlist.trans (Roof.works_addCapture ..)).trans (Roof.works_raise ..)).trans (tripSlots_works ..)

theorem removeCause_works (e : Env) (u : UnitIx) (c : Cause) (r : Roof) : r.Works (removeCause e u c r) := by
  have hlist : r.Works { r with plant := r.plant.modUnit u fun x =>
      { x with causes := x.causes.filter fun d => !d.isOf c.tripClass c.position } } :=
    Roof.works_withPlant (Plant.works_modUnit (.of_causes fun hs => hs.thin rfl rfl))
  exact (hlist.trans (Roof.works_raise ..)).trans (releaseSlots_works ..)

theorem escalateCause_works (e : Env) (u : UnitIx) (c : Cause) (held : Nat) (r : Roof) :
    r.Works (escalateCause e u c held r) := by
  have hlist : r.plant.Works (r.plant.modUnit u fun x => { x with
      causes := x.causes.map fun d =>
        if d.isOf c.tripClass c.position then { d with latched := true, present := false } else d }) :=
    Plant.works_modUnit (.of_causes fun hs => hs.mark (fun d => by split <;> exact ⟨rfl, rfl⟩) rfl rfl)
  exact ((Roof.works_onPlant hlist).trans (tripSlots_works ..)).trans (Roof.works_raise ..)

theorem releaseCause_works (e : Env) (u : UnitIx) (c : Cause) (r : Roof) : r.Works (releaseCause e u c r) := by
  unfold releaseCause
  split
  · exact removeCause_works ..
  · have hstrike : r.Works { r with plant := r.plant.modUnit u (setStrikes c.tripClass c.position
        (strike e.now e.tables.roof.strikeWindow (strikesOf (r.plant.unit u) c.tripClass c.position))) } :=
      Roof.works_withPlant (Plant.works_modUnit
        (.of_causes fun hs => hs.setStrikes _ _ (strike_length _ _ (hs.strikesOf_length ..))))
    dsimp only
    split
    · exact hstrike.trans (escalateCause_works ..)
    · exact hstrike.trans (removeCause_works ..)

theorem enterIfShown_works (e : Env) (u : UnitIx) (shown : Bool) (cls : TripClass) (pos : Option Nat)
    (ap : AppliesWhen) (r : Roof) : r.Works (enterIfShown e u shown cls pos ap r) := by
  unfold enterIfShown
  dsimp only
  split
  · next h => exact enterCause_works e ap (by simpa using h.2.1)
  · exact .refl _

theorem setPresent_works (u : UnitIx) (cls : TripClass) (pos : Option Nat) (shown : Bool) (p : Plant) :
    p.Works (setPresent u cls pos shown p) :=
  Plant.works_modUnit (.of_causes fun hs => hs.mark (fun c => by split <;> exact ⟨rfl, rfl⟩) rfl rfl)

theorem followCondition_works (e : Env) (u : UnitIx) (shown : Bool) (cls : TripClass) (pos : Option Nat) (r : Roof) :
    r.Works (followCondition e u shown cls pos r) := by
  have hflag : r.Works { r with plant := setPresent u cls pos shown r.plant } :=
    Roof.works_onPlant (setPresent_works ..)
  unfold followCondition
  dsimp only
  split
  · exact hflag
  · split
    · exact hflag
    · exact hflag.trans (releaseCause_works ..)

theorem foldFaults_works (e : Env) (u : UnitIx) (st : Status) (r : Roof) : r.Works (foldFaults e u st r) :=
  (Roof.works_foldl (fun _ _ _ => enterIfShown_works ..) r).trans
    (Roof.works_foldl (fun _ _ _ => followCondition_works ..) _)

theorem crossingNotice_works (e : Env) (u : UnitIx) (b : Fin 16) (v : Option Int) (was now : PairState) (r : Roof) :
    r.Works (crossingNotice e u b v was now r) := by
  unfold crossingNotice
  split
  · exact Roof.works_raise ..
  · exact Roof.works_raise ..
  · exact Roof.works_raise ..
  · exact Roof.works_raise ..
  · exact .refl _

theorem evaluateBand_works (e : Env) (u : UnitIx) (st : Status) (b : Fin 16) (r : Roof) :
    r.Works (evaluateBand e u st b r) :=
  Roof.Works.trans (q := r.onPlant fun p => p.modUnit u fun x =>
      { x with pairs := x.pairs.set b (evaluatePair e.now u e.tables.bands[b] st (r.plant.unit u).pairs[b]) })
    (Roof.works_onPlant (Plant.works_modUnit .of_fields)) (crossingNotice_works ..)

theorem foldBands_works (e : Env) (u : UnitIx) (st : Status) (r : Roof) : r.Works (foldBands e u st r) :=
  ((Roof.works_foldl (fun _ _ _ => evaluateBand_works ..) r).trans
    (Roof.works_foldl (fun _ _ _ => enterIfShown_works ..) _)).trans
    (Roof.works_foldl (fun _ _ _ => followCondition_works ..) _)

theorem resetPair_works (e : Env) (u : UnitIx) (b : Fin 16) (r : Roof) : r.Works (resetPair e u b r) := by
  have hblank : r.Works (blankPairOf e u b r) := by
    refine ⟨?_, ?_⟩
    · rw [blankPairOf_plant]
      exact (Plant.works_modUnit .of_fields).trans (setPresent_works ..)
    · unfold blankPairOf
      dsimp only
      split <;> exact id
  rw [resetPair_eq]
  split
  · exact hblank
  · split
    · exact hblank
    · exact hblank.trans (removeCause_works ..)

theorem clearCause_works (e : Env) (u : UnitIx) (r : Roof) (c : Cause) : r.Works (clearCause e u r c) := by
  refine Roof.Works.trans (q := r.onPlant fun p => p.modUnit u (forgetCause c)) (Roof.works_onPlant ?_)
    (Roof.works_raise ..)
  refine Plant.works_modUnit (.of_causes fun hs => ?_)
  exact (hs.thin (y := { r.plant.unit u with
    causes := (r.plant.unit u).causes.filter fun d => !d.isOf c.tripClass c.position }) rfl rfl).setStrikes _ _
    (Nat.zero_le 7)

theorem clearCauses_works (e : Env) (u : UnitIx) (sel : List Cause) (r : Roof) :
    r.Works (clearCauses e u sel r) := by
  unfold clearCauses
  split
  · exact .refl _
  · exact (Roof.works_foldl (fun _ _ _ => clearCause_works ..) r).trans (releaseSlots_works ..)

theorem injectShutdown_works (u : UnitIx) (p : Plant) : p.Works (injectShutdown u p) := by
  unfold injectShutdown
  split
  · exact Plant.works_inject ..
  · exact .refl _

theorem enterShutdown_works (e : Env) (u : UnitIx) (r : Roof) : r.Works (enterShutdown e u r) := by
  cases hc : holdsCause (r.plant.unit u) .shutdown none with
  | true => rw [enterShutdown, if_pos hc]; exact .refl _
  | false =>
    have hlist : r.Works (holdShutdown e u r) :=
      Roof.works_onPlant (Plant.works_modUnit (.of_causes fun hs => hs.enter hc rfl rfl))
    rw [enterShutdown_eq hc]
    exact (hlist.trans (tripSlots_works ..)).trans (Roof.works_onPlant (injectShutdown_works ..))

theorem shutdownAssert_works (e : Env) (r : Roof) : r.Works (shutdownAssert e r) :=
  ((Roof.works_addCapture ..).trans (Roof.works_raise ..)).trans
    (Roof.works_foldl (fun _ _ _ => enterShutdown_works ..) _)

theorem leaveShutdown_works (e : Env) (u : UnitIx) (r : Roof) : r.Works (leaveShutdown e u r) := by
  unfold leaveShutdown
  split
  · have hlist : r.plant.Works (r.plant.modUnit u fun x =>
        { x with causes := x.causes.filter fun c => !c.isOf .shutdown none }) :=
      Plant.works_modUnit (.of_causes fun hs => hs.thin rfl rfl)
    exact (Roof.works_onPlant hlist).trans (releaseSlots_works ..)
  · exact .refl _

theorem shutdownRelease_works (e : Env) (r : Roof) : r.Works (shutdownRelease e r) :=
  (Roof.works_raise ..).trans (Roof.works_foldl (fun _ _ _ => leaveShutdown_works ..) _)

/-! ### The unit table -/

theorem takeCall_works (e : Env) (u : UnitIx) (payload : List Byte) (r : Roof) :
    r.Works (takeCall e u payload r) :=
  (Roof.works_onPlant (Plant.works_modUnit .of_fields)).trans (settle_works ..)

theorem repetition_works (u : UnitIx) (p : Plant) : p.Works (repetition u p) := by
  unfold repetition
  dsimp only
  split
  · exact Plant.works_inject ..
  · exact .refl _

theorem followReport_works (u : UnitIx) (run : StageMap) (p : Plant) : p.Works (followReport u run p) :=
  (writeTarget_works ..).trans (Plant.works_modUnit .of_fields)

/-- R55: a unit that is not ABSENT enters LOCAL. -/
theorem enterLocal_works (e : Env) {u : UnitIx} {r : Roof} (h : (r.plant.unit u).state ≠ .absent) :
    r.Works (enterLocal e u r) :=
  ((Roof.works_onPlant (Plant.works_modUnit (.of_state h (by simp)))).trans (withdrawEntries_works ..)).trans
    (Roof.works_onPlant (Plant.works_dropInjection ..))

/-- R56: a unit that is not ABSENT leaves LOCAL for another such state. -/
theorem leaveLocal_works (e : Env) {u : UnitIx} {next : UnitState} {r : Roof} (h : (r.plant.unit u).state ≠ .absent)
    (hn : next ≠ .absent) : r.Works (leaveLocal e u next r) :=
  (moveUnit_works e u (Plant.works_modUnit (.of_state h hn))).trans (Roof.works_onPlant (refreshTarget_works ..))

theorem enterOffline_works (e : Env) {u : UnitIx} {r : Roof} (h : (r.plant.unit u).state ≠ .absent) :
    r.Works (enterOffline e u r) := by
  have hstart : r.Works (offlineStart e u r) := by
    unfold offlineStart
    split
    · exact leaveLocal_works e h nofun
    · exact Roof.works_onPlant (Plant.works_modUnit (.of_state h nofun))
  rw [enterOffline_eq]
  exact (hstart.trans (withdrawEntries_works ..)).trans (Roof.works_onPlant (Plant.works_dropInjection ..))

theorem reportAnswered_works (u : UnitIx) (p : Plant) : p.Works (reportAnswered u p) := by
  refine Plant.works_modUnit ⟨fun h => h.congr rfl rfl, ?_, rfl, fun _ => rfl, .inr ⟨rfl, rfl⟩⟩
  dsimp only
  split
  · next h => simp [h]
  · rfl

theorem acknowledge_works (e : Env) (u : UnitIx) (b : Byte) (p : Plant) : p.Works (acknowledge e u b p) :=
  Plant.works_modUnit .of_fields

/-- R50, R51: a unit that is not ABSENT is adopted into ONLINE. -/
theorem adoptOnline_works (e : Env) {u : UnitIx} (run : StageMap) {r : Roof} (h : (r.plant.unit u).state ≠ .absent) :
    r.Works (adoptOnline e u run r) := by
  have hcompare : r.Works (moveUnit e u (fun p => p.modUnit u (adoptStages e u run)) r) :=
    moveUnit_works e u (Plant.works_modUnit .of_fields)
  refine Roof.Works.trans ?_ (Roof.works_onPlant (repetition_works ..))
  refine Roof.Works.trans ?_ (settle_works ..)
  refine Roof.Works.trans (hcompare.trans (Roof.works_onPlant ?_)) (Roof.works_raise ..)
  have hwrite := writeTarget_works false u
    (adoptedMap run ((moveUnit e u (fun p => p.modUnit u (adoptStages e u run)) r).plant.unit u))
    (moveUnit e u (fun p => p.modUnit u (adoptStages e u run)) r).plant
  have hstate := mt (((hcompare.plant.trans hwrite).unit u).absent).1 h
  exact hwrite.trans (Plant.works_modUnit (.of_state hstate (by simp) (hfailures := .inr rfl)))

/-- R52: a unit that is not ABSENT is adopted into LOCAL. -/
theorem adoptLocal_works (e : Env) {u : UnitIx} {r : Roof} (h : (r.plant.unit u).state ≠ .absent) :
    r.Works (adoptLocal e u r) := by
  have hclear : r.Works (r.onPlant fun p => p.modUnit u fun x =>
      { x with failures := 0, notProven := tabulate fun _ => 0 }) :=
    Roof.works_onPlant (Plant.works_modUnit (.of_fields (hfailures := .inr rfl)))
  exact ((hclear.trans (enterLocal_works e (mt ((hclear.plant.unit u).absent).1 h))).trans
    (Roof.works_raise ..)).trans (Roof.works_raise ..)

theorem foldState_works (e : Env) (u : UnitIx) (st : Status) (r : Roof) : r.Works (foldState e u st r) := by
  unfold foldState
  split
  · next h _ => exact adoptOnline_works e st.run (r := r) (by simp [h])
  · next h _ => exact adoptOnline_works e st.run (r := r) (by simp [h])
  · next h _ => exact adoptLocal_works e (r := r) (by simp [h])
  · next h _ => exact adoptLocal_works e (r := r) (by simp [h])
  · next h _ => exact (enterLocal_works e (r := r) (by simp [h])).trans (Roof.works_raise ..)
  · next h _ =>
    exact ((leaveLocal_works e (r := r) (next := .online) (by simp [h]) (by simp)).trans (settle_works ..)).trans
      (Roof.works_raise ..)
  · exact .refl _
  · exact .refl _
  · exact .refl _

theorem proveSlot_works (e : Env) (u : UnitIx) (st : Status) (r : Roof) (i : Slot) :
    r.Works (proveSlot e u st r i) := by
  have hcount (n : Nat) : r.Works { r with plant := r.plant.modUnit u fun y =>
      { y with notProven := y.notProven.set i n } } := Roof.works_withPlant (Plant.works_modUnit .of_fields)
  unfold proveSlot
  dsimp only
  generalize (if unproven (e.cfg u) st (r.plant.unit u) i then satAdd 255 (r.plant.unit u).notProven[i] 1 else 0) = n
  split
  · exact (hcount _).trans (Roof.works_raise ..)
  · exact hcount _

theorem foldProving_works (e : Env) (u : UnitIx) (st : Status) (r : Roof) : r.Works (foldProving e u st r) := by
  unfold foldProving
  split
  · exact Roof.works_foldl (fun _ _ _ => proveSlot_works ..) r
  · exact .refl _

theorem foldLocalMaps_works (u : UnitIx) (st : Status) (r : Roof) : r.Works (foldLocalMaps u st r) := by
  unfold foldLocalMaps
  split
  · exact Roof.works_onPlant (followReport_works ..)
  · exact .refl _

/-- R48: what a fold does behind the record stored. -/
def foldEffects (e : Env) (u : UnitIx) (st : Status) (r : Roof) : Roof :=
  foldBands e u st (foldFaults e u st (foldProving e u st (foldLocalMaps u st (foldState e u st r))))

theorem foldEffects_works (e : Env) (u : UnitIx) (st : Status) (r : Roof) : r.Works (foldEffects e u st r) :=
  ((((foldState_works ..).trans (foldLocalMaps_works ..)).trans (foldProving_works ..)).trans
    (foldFaults_works ..)).trans (foldBands_works ..)

theorem isolateUnit_works (e : Env) (u : UnitIx) (r : Roof) : r.Works (isolateUnit e u r) := by
  unfold isolateUnit
  split
  · exact .refl _
  · exact (Roof.works_onPlant (Plant.works_modUnit .of_fields)).trans (withdrawEntries_works ..)

theorem restoreUnit_works (e : Env) (u : UnitIx) (r : Roof) : r.Works (restoreUnit e u r) := by
  unfold restoreUnit
  split
  · exact (Roof.works_onPlant (Plant.works_modUnit .of_fields)).trans (settle_works ..)
  · exact .refl _

/-! ### Forces and bindings -/

theorem setForce_works (e : Env) (u : UnitIx) (i : Slot) (f : Force) (r : Roof) : r.Works (setForce e u i f r) :=
  (Roof.works_onPlant (Plant.works_modUnit .of_fields)).trans (settle_works ..)

theorem setFanForce_works (u : UnitIx) (on : Bool) (p : Plant) : p.Works (setFanForce u on p) :=
  (Plant.works_modUnit .of_fields).trans (refreshTarget_works ..)

theorem rebindRecord_worksTo (e : Env) (old : UnitCfg) (u : UnitIx) (r : UnitRec) :
    r.WorksTo (rebindRecord e old u r) := .of_causes fun h => h.thin rfl rfl

theorem reconfigureUnit_works (e : Env) (old : Tables) (r : Roof) (u : UnitIx) :
    r.Works (reconfigureUnit e old r u) := by
  unfold reconfigureUnit
  split
  · have hclass : r.Works (if old.units[u].priority = (e.cfg u).priority then r
        else r.onPlant (reclassEntries u (e.cfg u).priority.val)) := by
      split
      · exact .refl _
      · exact Roof.works_onPlant (reclassEntries_works ..)
    dsimp only
    by_cases hb : old.units[u].bind = (e.cfg u).bind
    · rw [if_pos hb]
      exact hclass
    · rw [if_neg hb]
      exact (hclass.trans (moveUnit_works e u (Plant.works_modUnit (rebindRecord_worksTo ..)))).trans
        (settle_works ..)
  · exact .refl _

end Sys2Proof.Machine

namespace Sys2Proof.Machine

/-! ## What every part of a command keeps -/

/-- A roof before and after what a command does to it under the tables `t`: the lists of the plant stay sound, the
capture list keeps its bound, and a unit that is ABSENT exactly while it is not fitted stays so. -/
structure Roof.Keeps (t : Tables) (r q : Roof) : Prop where
  queue : StartQueueOrdered r.plant.queue → StartQueueOrdered q.plant.queue
  injections : InjectionsSound r.plant → InjectionsSound q.plant
  causes : ∀ v : UnitIx, CausesSound (r.plant.unit v) → CausesSound (q.plant.unit v)
  absent : ∀ v : UnitIx, ((r.plant.unit v).state = .absent ↔ t.units[v].fitted = false) →
    ((q.plant.unit v).state = .absent ↔ t.units[v].fitted = false)
  captures : r.captures.length ≤ 16 → q.captures.length ≤ 16

theorem Roof.Keeps.refl (t : Tables) (r : Roof) : r.Keeps t r := ⟨id, id, fun _ => id, fun _ => id, id⟩

theorem Roof.Keeps.trans {t : Tables} {r q p : Roof} (h : r.Keeps t q) (k : q.Keeps t p) : r.Keeps t p :=
  ⟨k.queue ∘ h.queue, k.injections ∘ h.injections, fun v => k.causes v ∘ h.causes v, fun v => k.absent v ∘ h.absent v,
    k.captures ∘ h.captures⟩

theorem Roof.Works.keeps {r q : Roof} (h : r.Works q) (t : Tables) : r.Keeps t q where
  queue := h.plant.queue
  injections := h.plant.injections
  causes v := (h.plant.unit v).causes
  absent v := ((h.plant.unit v).absent).trans
  captures := h.captures

/-- A change of the notice list alone. -/
theorem Roof.keeps_notices (t : Tables) (r : Roof) (ns : List Notice) : r.Keeps t { r with notices := ns } :=
  ⟨id, id, fun _ => id, fun _ => id, id⟩

/-- A change of unit records that writes neither states nor causes nor strikes. -/
theorem Roof.keeps_units (t : Tables) {r q : Roof} (hstate : ∀ v, (q.plant.unit v).state = (r.plant.unit v).state)
    (hcauses : ∀ v, (q.plant.unit v).causes = (r.plant.unit v).causes)
    (hstrikes : ∀ v, (q.plant.unit v).strikes = (r.plant.unit v).strikes)
    (hqueue : q.plant.queue = r.plant.queue := by rfl) (hinj : q.plant.injections = r.plant.injections := by rfl)
    (hprot : q.plant.protection = r.plant.protection := by rfl) (hcap : q.captures = r.captures := by rfl) :
    r.Keeps t q where
  queue := by rw [hqueue]; exact id
  injections := by unfold InjectionsSound; rw [hinj, hprot]; exact id
  causes v h := h.congr (hcauses v) (hstrikes v)
  absent v := by rw [hstate v]; exact id
  captures := by rw [hcap]; exact id

/-! ### A status record stored, a failure counted, a second passed -/

theorem storeStatus_plant (e : Env) (u : UnitIx) (l : List Byte) (r : Roof) : (storeStatus e u l r).plant =
    r.plant.modUnit u fun x => { x with status := some (statusOf (e.cfg u) l), fresh := true } := by
  unfold storeStatus
  dsimp only
  split <;> rfl

theorem storeStatus_keeps (t : Tables) (e : Env) (u : UnitIx) (l : List Byte) (r : Roof) :
    r.Keeps t (storeStatus e u l r) := by
  have hplant := storeStatus_plant e u l r
  have hcap : (storeStatus e u l r).captures = r.captures := by
    unfold storeStatus
    dsimp only
    split <;> rfl
  refine Roof.keeps_units t (fun v => ?_) (fun v => ?_) (fun v => ?_) (by rw [hplant]; rfl) (by rw [hplant]; rfl)
    (by rw [hplant]; rfl) hcap
  all_goals
    rw [hplant, Plant.unit_modUnit]
    split <;> rfl

/-- R48: a fold clears the failures, stores the status record and has its effects. -/
theorem fold_eq (e : Env) (u : UnitIx) (l : List Byte) (r : Roof) : fold e u l r =
    foldEffects e u (statusOf (e.cfg u) l)
      (storeStatus e u l (r.onPlant fun p => p.modUnit u fun x => { x with failures := 0 })) := rfl

theorem fold_keeps (t : Tables) (e : Env) (u : UnitIx) (l : List Byte) (r : Roof) : r.Keeps t (fold e u l r) := by
  have hclear : r.Works (r.onPlant fun p => p.modUnit u fun x => { x with failures := 0 }) :=
    Roof.works_onPlant (Plant.works_modUnit (.of_fields (hfailures := .inr rfl)))
  rw [fold_eq]
  exact ((hclear.keeps t).trans (storeStatus_keeps ..)).trans ((foldEffects_works ..).keeps t)

theorem countFailure_keeps (t : Tables) (u : UnitIx) (n : Nat) (r : Roof) : r.Keeps t (countFailure u n r) := by
  refine Roof.keeps_units t (fun v => ?_) (fun v => ?_) (fun v => ?_)
  all_goals
    rw [countFailure, Roof.onPlant_plant, Plant.unit_modUnit]
    split <;> rfl

theorem reportUnanswered_keeps (t : Tables) (e : Env) (u : UnitIx) (r : Roof) :
    r.Keeps t (reportUnanswered e u r) := by
  have hcount := countFailure_keeps t u (min 255 ((r.plant.unit u).failures + 1)) r
  by_cases hgoes : GoesOffline e (r.plant.unit u).state (min 255 ((r.plant.unit u).failures + 1))
  · by_cases habsent : (r.plant.unit u).state = .absent
    · have hstays : reportUnanswered e u r = countFailure u (min 255 ((r.plant.unit u).failures + 1)) r := by
        unfold reportUnanswered
        rw [habsent]
        rfl
      rw [hstays]
      exact hcount
    · rw [reportUnanswered_goes habsent hgoes]
      refine hcount.trans (((enterOffline_works e ?_).trans (Roof.works_raise ..)).keeps t)
      rw [countFailure_unit]
      exact habsent
  · rw [reportUnanswered_stays hgoes]
    exact hcount

/-! ### Units renewed at an installation (R43, R60) -/

theorem renewUnit_keeps (e : Env) (u : UnitIx) (r : Roof) : r.Keeps e.tables (r.onPlant (renewUnit e u)) where
  queue h := (h.filter _).filter _
  injections h := InjectionsSound.dropInjection (p := r.plant) h u
  causes v h := by
    rw [Roof.onPlant_plant]
    by_cases hv : v = u
    · rw [hv, renewUnit_unit_self]
      exact ⟨List.Pairwise.nil, nofun⟩
    · rw [renewUnit_unit_other e hv]
      exact h
  absent v h := by
    rw [Roof.onPlant_plant]
    by_cases hv : v = u
    · rw [hv, renewUnit_unit_self]
      exact freshUnit_state_absent_iff e.tables u e.now
    · rw [renewUnit_unit_other e hv]
      exact h
  captures := id

theorem refitUnit_keeps (e : Env) (old : Tables) (shutdown : Bool) (r : Roof) (u : UnitIx) :
    r.Keeps e.tables (refitUnit e old shutdown r u) := by
  unfold refitUnit
  split
  · exact .refl ..
  · split
    · exact (renewUnit_keeps ..).trans ((enterShutdown_works ..).keeps _)
    · exact renewUnit_keeps ..

theorem installUnitsRoof_keeps (e : Env) (old : Tables) (shutdown : Bool) (r : Roof) :
    r.Keeps e.tables (installUnitsRoof e old shutdown r) :=
  (foldl_related (Roof.Keeps.refl e.tables) (fun _ _ _ => .trans) _ allUnits
    (fun q u _ => refitUnit_keeps e old shutdown q u) r).trans
    ((Roof.works_foldl (fun q u _ => reconfigureUnit_works e old q u) _).keeps _)

/-! ### The whole state -/

/-- R26: the transaction the trunk port carries. -/
def TrunkPort.transaction : TrunkPort → Option Transaction
  | .free => none
  | .ready x | .sending x _ | .awaiting x => some x

/-- R29, R43: a transaction that reports to a unit record reports to a fitted unit's. -/
def Transaction.ReportsFitted (t : Tables) (x : Transaction) : Prop :=
  ∀ u : UnitIx, x.unit = some u → x.unreported = false → t.units[u].fitted = true

theorem reportsToFitted_iff (s : State) :
    ReportsToFitted s ↔ ∀ x, s.link.trunk.transaction = some x → x.ReportsFitted s.tables := by
  constructor
  · intro h x hx u
    refine h x u ?_
    cases htrunk : s.link.trunk <;> rw [htrunk] at hx <;> simp_all [TrunkPort.transaction]
  · intro h x u hx
    refine h x ?_ u
    rcases hx with hx | ⟨o, hx⟩ | hx <;> rw [hx] <;> rfl

/-- A state before and after a part of a command: each invariant stays that held before. -/
structure State.Keeps (s t : State) : Prop where
  queues : QueuesBounded s.link → QueuesBounded t.link
  lists : ListsBounded s → ListsBounded t
  queue : StartQueueOrdered s.plant.queue → StartQueueOrdered t.plant.queue
  injections : InjectionsSound s.plant → InjectionsSound t.plant
  causes : ∀ v : UnitIx, CausesSound (s.plant.unit v) → CausesSound (t.plant.unit v)
  absent : FittedNotAbsent s → FittedNotAbsent t
  reports : FittedNotAbsent s → ReportsToFitted s → ReportsToFitted t

theorem State.Keeps.refl (s : State) : s.Keeps s := ⟨id, id, id, id, fun _ => id, id, fun _ => id⟩

theorem State.Keeps.trans {s t r : State} (h : s.Keeps t) (k : t.Keeps r) : s.Keeps r :=
  ⟨k.queues ∘ h.queues, k.lists ∘ h.lists, k.queue ∘ h.queue, k.injections ∘ h.injections,
    fun v => k.causes v ∘ h.causes v, k.absent ∘ h.absent, fun ha hr => k.reports (h.absent ha) (h.reports ha hr)⟩

/-- A part of a command that installs no tables: what it does block by block. -/
theorem State.Keeps.of_blocks {s t : State} (roof : s.roof.Keeps s.tables t.roof)
    (tables : t.tables = s.tables := by rfl)
    (queues : QueuesBounded s.link → QueuesBounded t.link := by exact id)
    (reports : FittedNotAbsent s → ReportsToFitted s → ReportsToFitted t := by exact fun _ => id)
    (history : s.meter.history.length ≤ 8 → t.meter.history.length ≤ 8 := by exact id)
    (errors : s.jobs.errors.length ≤ 3 → t.jobs.errors.length ≤ 3 := by exact id)
    (level : s.shed.level ≤ 7 → t.shed.level ≤ 7 := by exact id) : s.Keeps t where
  queues := queues
  lists := fun ⟨hcap, hhist, herr, hlevel⟩ => ⟨roof.captures hcap, history hhist, errors herr, level hlevel⟩
  queue := roof.queue
  injections := roof.injections
  causes := roof.causes
  absent h u := by
    rw [tables]
    exact roof.absent u (h u)
  reports := reports

theorem State.keeps_onRoof {s : State} {f : Env → Roof → Roof} (h : s.roof.Keeps s.tables (f s.env s.roof)) :
    s.Keeps (s.onRoof f) := .of_blocks h

theorem State.keeps_onPlant {s : State} {f : Env → Plant → Plant} (h : s.plant.Works (f s.env s.plant)) :
    s.Keeps (s.onPlant f) := .of_blocks ((Roof.works_onPlant (r := s.roof) h).keeps s.tables)

theorem State.keeps_raise (s : State) (k : NoticeKind) (u : Nat) (i : Option Nat) (v : Option Int) :
    s.Keeps (s.raise k u i v) := .of_blocks (Roof.keeps_notices s.tables s.roof _)

/-- The ports and queues before and after what leaves the transaction in flight as it is. -/
structure Link.Keeps (l m : Link) : Prop where
  queues : QueuesBounded l → QueuesBounded m
  trunk : m.trunk = l.trunk

theorem ReportsToFitted.congr {s t : State} (h : ReportsToFitted s) (htrunk : t.link.trunk = s.link.trunk)
    (htables : t.tables = s.tables) : ReportsToFitted t := by
  unfold ReportsToFitted
  rw [htrunk, htables]
  exact h

theorem State.keeps_onLink {s : State} {f : Link → Link} (h : s.link.Keeps (f s.link)) : s.Keeps (s.onLink f) :=
  .of_blocks (.refl ..) (queues := h.queues) (reports := fun _ hr => hr.congr h.trunk rfl)

/-- The ports and queues with the trunk FREE or with a transaction that reports to fitted units. -/
theorem State.keeps_trunk {s : State} {f : Link → Link} (hq : QueuesBounded s.link → QueuesBounded (f s.link))
    (h : FittedNotAbsent s → ReportsToFitted s →
      ∀ x, (f s.link).trunk.transaction = some x → x.ReportsFitted s.tables) : s.Keeps (s.onLink f) :=
  .of_blocks (.refl ..) (queues := hq) (reports := fun ha hr => (reportsToFitted_iff _).2 (h ha hr))

/-! ### The ends of a command -/

theorem conclude_keeps (s : State) : s.Keeps (conclude s) := by
  have hpass : s.Keeps (passAfterJoin s) := by
    unfold passAfterJoin
    split
    · exact State.keeps_onRoof ((runPasses_works ..).keeps _)
    · exact .refl _
  exact hpass.trans (.of_blocks (.refl ..))

theorem whilePowered_keeps {s t : State} {f : State → State} (hf : s.Keeps (f s)) (h : whilePowered s f = .next t) :
    s.Keeps t := by
  rw [whilePowered_next] at h
  obtain rfl := Host.Outcome.next.inj h
  split
  · exact hf
  · exact .refl _

theorem roofCommand_keeps {s t : State} {f : State → State} (hf : s.Keeps (f s)) (h : roofCommand s f = .next t) :
    s.Keeps t := whilePowered_keeps (f := fun s => conclude (f s)) (hf.trans (conclude_keeps _)) h

/-! ### The controller port -/

theorem Link.refuse_keeps (l : Link) (f : Frame) : l.Keeps (l.refuse f) := by
  by_cases hroom : l.replies.length + (l.relay.length + l.jobs.length) < 8
  · rw [Link.refuse_room f hroom]
    refine ⟨fun ⟨hrelay, hjobs, _⟩ => ⟨hrelay, hjobs, ?_⟩, rfl⟩
    simp only [List.length_append, List.length_singleton]
    omega
  · rw [Link.refuse_no_room f hroom]
    exact ⟨id, rfl⟩

theorem Link.offerRelay_keeps (l : Link) (f : Frame) : l.Keeps (l.offerRelay f) := by
  by_cases hplace : l.relay.length < 4
  · by_cases hroom : l.replies.length + (l.relay.length + l.jobs.length) < 8
    · rw [Link.offerRelay_room f hplace hroom]
      refine ⟨fun ⟨hrelay, hjobs, _⟩ => ⟨?_, hjobs, ?_⟩, rfl⟩ <;>
        simp only [List.length_append, List.length_singleton] <;> omega
    · rw [Link.offerRelay_no_room f hplace hroom]
      exact ⟨id, rfl⟩
  · have hfull : l.offerRelay f = l.refuse (errorReply f eBusy [1]) := if_neg hplace
    rw [hfull]
    exact l.refuse_keeps _

theorem Link.offerJob_keeps (l : Link) (f : Frame) : l.Keeps (l.offerJob f) := by
  by_cases hplace : l.jobs.length < 2
  · by_cases hroom : l.replies.length + (l.relay.length + l.jobs.length) < 8
    · rw [Link.offerJob_room f hplace hroom]
      refine ⟨fun ⟨hrelay, hjobs, _⟩ => ⟨hrelay, ?_, ?_⟩, rfl⟩ <;>
        simp only [List.length_append, List.length_singleton] <;> omega
    · rw [Link.offerJob_no_room f hplace hroom]
      exact ⟨id, rfl⟩
  · have hfull : l.offerJob f = l.refuse (errorReply f eBusy [2]) := if_neg hplace
    rw [hfull]
    exact l.refuse_keeps _

theorem Link.takeIn_keeps (l : Link) (f : Frame) : l.Keeps (l.takeIn f) := by
  unfold Link.takeIn
  split
  · exact ⟨id, rfl⟩
  · exact l.refuse_keeps _
  · exact l.offerJob_keeps f
  · split
    · exact l.refuse_keeps _
    · exact l.offerRelay_keeps f

theorem dropAssembly_keeps (p : Port) (l : Link) : l.Keeps (dropAssembly p l) := by
  cases p <;> exact ⟨id, rfl⟩

theorem controllerChar_keeps (c : LinkChar) (l : Link) : l.Keeps (controllerChar c l) := by
  unfold controllerChar
  dsimp only
  split
  · next f _ =>
    obtain ⟨hq, htrunk⟩ := ({ l with controllerRx := (l.controllerRx.char c).1 } : Link).takeIn_keeps f
    exact ⟨hq, htrunk⟩
  · exact ⟨id, rfl⟩

theorem Link.answerHead_keeps (l : Link) (answer : Frame → Frame) : l.Keeps (l.answerHead answer) := by
  unfold Link.answerHead
  split
  · exact ⟨id, rfl⟩
  · next head rest hrelay =>
    refine ⟨fun ⟨h4, h2, h8⟩ => ⟨?_, h2, ?_⟩, rfl⟩ <;> rw [hrelay] at h4 h8 <;>
      simp only [List.length_append, List.length_cons, List.length_nil] at * <;> omega

theorem Link.answerJob_keeps (l : Link) (f : Frame) (restart : Bool) (h : l.jobs ≠ []) :
    l.Keeps (l.answerJob f restart) := by
  have hpos := List.length_pos_iff.2 h
  refine ⟨fun ⟨h4, h2, h8⟩ => ⟨h4, ?_, ?_⟩, rfl⟩ <;>
    simp only [Link.answerJob, List.length_append, List.length_drop, List.length_singleton] <;> omega

/-! ### Resets and the supply -/

/-- R9: a reset leaves every list empty or with the records of a roof shutdown. -/
theorem resetState_keeps (cause : ResetCause) (s : State) : s.Keeps (resetState cause s) := by
  obtain ⟨hblocks, -, hunits⟩ := resetState_blocks cause s
  generalize resetState cause s = t at *
  have hlink : t.link = freshLink (tablesAtReset s) := congrArg State.link hblocks
  have htables : t.tables = tablesAtReset s := congrArg State.tables hblocks
  have hplant := congrArg State.plant hblocks
  have hinj : t.plant.injections = [] := congrArg Plant.injections hplant
  have hprot : t.plant.protection = [] := congrArg Plant.protection hplant
  have hqueue : t.plant.queue = [] := congrArg Plant.queue hplant
  have hmeter : t.meter = freshMeter := congrArg State.meter hblocks
  have hshed : t.shed.level = 0 := congrArg (fun x : State => x.shed.level) hblocks
  have herrors : t.jobs.errors = [] := congrArg (fun x : State => x.jobs.errors) hblocks
  have hcaptures : t.captures.length ≤ 16 := by
    rw [hblocks]
    dsimp only
    split <;> simp
  refine ⟨fun _ => ?_, fun _ => ⟨hcaptures, ?_, ?_, ?_⟩, fun _ => ?_, fun _ => ?_, fun u _ => ?_, fun _ u => ?_,
    fun _ _ => (reportsToFitted_iff t).2 ?_⟩
  · rw [hlink]
    exact ⟨Nat.zero_le 4, Nat.zero_le 2, Nat.zero_le 8⟩
  · rw [hmeter]
    exact Nat.zero_le 8
  · rw [herrors]
    exact Nat.zero_le 3
  · rw [hshed]
    exact Nat.zero_le 7
  · rw [hqueue]
    exact ⟨List.Pairwise.nil, List.Pairwise.nil⟩
  · unfold InjectionsSound
    rw [hinj, hprot]
    exact ⟨List.nodup_nil, List.nodup_nil, nofun⟩
  · obtain ⟨-, -, -, -, -, -, -, -, -, -, -, -, -, hstrikes, hcauses, -⟩ :=
      unitAtReset_fields (tablesAtReset s) u s.lines.roofShutdown.line
    rw [hunits]
    unfold CausesSound
    rw [hstrikes, hcauses]
    refine ⟨?_, nofun⟩
    split
    · exact List.pairwise_singleton ..
    · exact List.Pairwise.nil
  · obtain ⟨hstate, -⟩ := unitAtReset_fields (tablesAtReset s) u s.lines.roofShutdown.line
    rw [hunits, htables, hstate]
    cases (tablesAtReset s).units[u].fitted <;> simp
  · rw [hlink]
    exact nofun

theorem losePower_keeps (s : State) : s.Keeps (losePower s) :=
  .of_blocks (.refl ..) (reports := fun _ hr => (reportsToFitted_iff _).2 fun x hx => by
    refine (reportsToFitted_iff s).1 hr x ?_
    revert hx
    unfold losePower
    dsimp only
    split
    · exact nofun
    · exact id)

theorem endReply_keeps (s : State) : s.Keeps (endReply s) := by
  unfold endReply
  split
  · next x r rest _ hreplies =>
    have hsent : s.Keeps (s.onLink fun l => { l with transmitting := none, replies := rest }) := by
      refine State.keeps_onLink ⟨fun ⟨h4, h2, h8⟩ => ⟨h4, h2, ?_⟩, rfl⟩
      rw [hreplies, List.length_cons] at h8
      dsimp only
      omega
    dsimp only
    split
    · exact hsent.trans (resetState_keeps ..)
    · exact hsent
  · exact .refl _

theorem beginReply_keeps (s : State) : s.Keeps (beginReply s) := by
  unfold beginReply
  split
  · exact State.keeps_onLink ⟨id, rfl⟩
  · exact .refl _

end Sys2Proof.Machine

namespace Sys2Proof.Machine

/-! ### The trunk -/

theorem attemptPlant_works (x : Transaction) (p : Plant) : p.Works (attemptPlant x p) := by
  unfold attemptPlant
  split
  · exact Plant.works_dropInjection ..
  · exact .refl _

/-- R26: an attempt of a transaction that reports to a fitted unit begins. -/
theorem beginAttempt_keeps {x : Transaction} {s : State}
    (h : FittedNotAbsent s → ReportsToFitted s → x.ReportsFitted s.tables) : s.Keeps (beginAttempt x s) :=
  .of_blocks ((Roof.works_withPlant (r := s.roof) (attemptPlant_works x s.plant)).keeps s.tables)
    (reports := fun ha hr => (reportsToFitted_iff _).2 fun y hy => by
      obtain rfl := Option.some.inj hy
      exact h ha hr)

theorem enterReady_keeps {x : Transaction} {s : State}
    (h : FittedNotAbsent s → ReportsToFitted s → x.ReportsFitted s.tables) : s.Keeps (enterReady x s) := by
  unfold enterReady
  split
  · exact beginAttempt_keeps h
  · exact State.keeps_trunk id fun ha hr y hy => Option.some.inj hy ▸ h ha hr

/-- R29: a transaction that begins reports to no unit that is ABSENT. -/
theorem startTransaction_keeps (origin : Origin) (q : Request) (unit : Option UnitIx) (s : State) :
    s.Keeps (startTransaction origin q unit s) := by
  refine enterReady_keeps fun ha _ u hu hreported => ?_
  obtain rfl : unit = some u := hu
  refine Bool.eq_true_of_not_eq_false fun hfitted => ?_
  have habsent := (ha u).2 hfitted
  simp [habsent] at hreported

theorem freeTrunk_keeps (s : State) : s.Keeps (freeTrunk s) := by
  refine State.keeps_trunk (fun h => ?_) fun _ _ x hx => ?_
  · rw [takeTrunkRate_eq]
    exact h
  · rw [takeTrunkRate_eq] at hx
    cases hx

theorem handRelay_keeps (q : Request) (unit : Option UnitIx) (s : State) : s.Keeps (handRelay q unit s) :=
  (State.keeps_onLink ⟨id, rfl⟩).trans (startTransaction_keeps ..)

theorem takeHeadCall_keeps {u : UnitIx} {f : Frame} {s t : State} (h : takeHeadCall u f s = .ok t) : s.Keeps t := by
  unfold takeHeadCall at h
  split at h
  · cases h
  · obtain rfl := Except.ok.inj h
    exact (State.keeps_onRoof ((takeCall_works ..).keeps _)).trans (handRelay_keeps ..)

theorem arbitrate_keeps (n : Nat) (s : State) : s.Keeps (arbitrate n s) := by
  induction n generalizing s with
  | zero => exact .refl _
  | succ n ih =>
    unfold arbitrate
    split
    · exact .refl _
    · exact startTransaction_keeps ..
    · exact (State.keeps_onLink ⟨id, rfl⟩).trans (startTransaction_keeps ..)
    · exact (State.keeps_onLink ⟨id, rfl⟩).trans (startTransaction_keeps ..)
    · split
      · split
        · split
          · next h => exact takeHeadCall_keeps h
          · exact (State.keeps_onLink (Link.answerHead_keeps ..)).trans (ih _)
        · exact handRelay_keeps ..
      · exact handRelay_keeps ..

theorem arbitrateTrunk_keeps (s : State) : s.Keeps (arbitrateTrunk s) := by
  unfold arbitrateTrunk
  split
  · exact arbitrate_keeps ..
  · exact .refl _

theorem answerRelay_keeps (x : Transaction) (answer : State → Frame → Frame) (s : State) :
    s.Keeps (answerRelay x answer s) := by
  unfold answerRelay
  split
  · exact State.keeps_onLink (Link.answerHead_keeps ..)
  · exact .refl _

theorem repeatMap_keeps (x : Transaction) (s : State) : s.Keeps (repeatMap x s) := by
  unfold repeatMap
  split
  · exact State.keeps_onPlant (repetition_works ..)
  · exact .refl _

theorem reportFailure_keeps (x : Transaction) (s : State) : s.Keeps (reportFailure x s) := by
  unfold reportFailure
  split
  · exact State.keeps_onRoof (reportUnanswered_keeps ..)
  · exact .refl _

theorem endUnanswered_keeps (x : Transaction) (s : State) : s.Keeps (endUnanswered x s) :=
  (((reportFailure_keeps ..).trans (answerRelay_keeps ..)).trans (repeatMap_keeps ..)).trans (freeTrunk_keeps _)

theorem reportReply_keeps (u : UnitIx) (s : State) : s.Keeps (reportReply u s) :=
  State.keeps_onPlant (reportAnswered_works ..)

theorem endStageMap_keeps (x : Transaction) (u : UnitIx) (f : Frame) (s : State) :
    s.Keeps (endStageMap x u f s) := by
  unfold endStageMap
  split
  · refine State.Keeps.trans ?_ (repeatMap_keeps ..)
    exact (reportReply_keeps u s).trans (answerRelay_keeps ..)
  · have hack : s.Keeps (s.onPlant fun e p => acknowledge e u (byteAt f.payload 0) p) :=
      State.keeps_onPlant (acknowledge_works s.env u _ s.plant)
    refine State.Keeps.trans ?_ (repeatMap_keeps ..)
    exact (hack.trans (reportReply_keeps u _)).trans (answerRelay_keeps ..)

theorem endStatusRead_keeps (x : Transaction) (u : UnitIx) (f : Frame) (s : State) :
    s.Keeps (endStatusRead x u f s) := by
  unfold endStatusRead
  split
  · exact (reportReply_keeps ..).trans (answerRelay_keeps ..)
  · have hfold : s.Keeps (s.onRoof fun e r => fold e u f.payload r) :=
      State.keeps_onRoof (fold_keeps s.tables s.env u f.payload s.roof)
    exact hfold.trans (answerRelay_keeps ..)

theorem endAnswered_keeps (x : Transaction) (f : Frame) (s : State) : s.Keeps (endAnswered x f s) := by
  unfold endAnswered
  refine State.Keeps.trans ?_ (freeTrunk_keeps _)
  split
  · exact answerRelay_keeps ..
  · split
    · exact endStageMap_keeps ..
    · exact endStatusRead_keeps ..
    · exact (reportReply_keeps ..).trans (answerRelay_keeps ..)
    · exact (reportReply_keeps ..).trans (answerRelay_keeps ..)

theorem trunkFrame_keeps (f : Frame) (s : State) : s.Keeps (trunkFrame f s) := by
  unfold trunkFrame
  split
  · split
    · exact endAnswered_keeps ..
    · exact .refl _
  · exact .refl _
  · exact .refl _
  · exact .refl _

theorem trunkChar_keeps (c : LinkChar) (s : State) : s.Keeps (trunkChar c s) := by
  have hnext : s.Keeps (s.onLink fun l => { l with trunkRx := (l.trunkRx.char c).1, quiet := false }) :=
    State.keeps_onLink ⟨id, rfl⟩
  unfold trunkChar
  split
  · exact .refl _
  · dsimp only
    split
    · exact hnext.trans (trunkFrame_keeps ..)
    · exact hnext

/-- The transaction the trunk port carries reports to fitted units. -/
theorem ReportsToFitted.carried {s : State} (h : ReportsToFitted s) {x : Transaction}
    (hx : s.link.trunk.transaction = some x) : x.ReportsFitted s.tables := (reportsToFitted_iff s).1 h x hx

theorem replyTimerEnds_keeps (s : State) : s.Keeps (replyTimerEnds s) := by
  unfold replyTimerEnds
  split
  · next x hx =>
    by_cases hbudget : x.attempt < (if x.single then 1 else 1 + x.retryCount)
    · rw [if_pos hbudget]
      exact enterReady_keeps fun _ hr => hr.carried (x := x) (by rw [hx]; rfl)
    · rw [if_neg hbudget]
      exact endUnanswered_keeps ..
  · exact .refl _
  · exact .refl _
  · exact .refl _

theorem attemptEnds_keeps (s : State) : s.Keeps (attemptEnds s) := by
  unfold attemptEnds
  split
  · next x o hx =>
    split
    · exact (State.keeps_onLink (Link.answerHead_keeps ..)).trans (freeTrunk_keeps _)
    · refine State.keeps_trunk id fun _ hr y hy => ?_
      obtain rfl := Option.some.inj hy
      exact hr.carried (by rw [hx]; rfl)
  · exact .refl _
  · exact .refl _
  · exact .refl _

theorem turnaroundEnds_keeps (s : State) : s.Keeps (turnaroundEnds s) := by
  have hquiet : s.Keeps (s.onLink fun l => { l with quiet := true }) := State.keeps_onLink ⟨id, rfl⟩
  unfold turnaroundEnds
  dsimp only
  split
  · next x hx => exact hquiet.trans (beginAttempt_keeps fun _ hr => hr.carried (by
      rw [State.onLink_link, hx]
      rfl))
  · exact hquiet
  · exact hquiet
  · exact hquiet

/-! ### Jobs -/

/-- What a job's body leaves: the ports and queues, and what every part of a command keeps. -/
def Verdict.Leaves (s : State) : Verdict → Prop
  | .accepted _ t => t.link = s.link ∧ s.Keeps t
  | .refused _ _ => True

theorem Verdict.leaves_sized {s : State} {v : Verdict} (n : Nat) (p : List Byte) (h : v.Leaves s) :
    (sized n p v).Leaves s := by
  unfold sized
  split
  · exact h
  · trivial

theorem Verdict.leaves_onUnit {s : State} {v : UnitIx → Verdict} (p : List Byte) (h : ∀ u, (v u).Leaves s) :
    (onUnit p v).Leaves s := by
  unfold onUnit
  split
  · exact h _
  · trivial

theorem Verdict.leaves_inSession {s : State} {v : Verdict} (code : Byte) (h : v.Leaves s) :
    (inSession code s v).Leaves s := by
  unfold inSession
  split
  · trivial
  · trivial
  · exact h

theorem Verdict.leaves_onTable {s : State} {v : TableId → Verdict} (code : Byte) (h : ∀ t, (v t).Leaves s) :
    (onTable code s v).Leaves s := by
  refine leaves_inSession code ?_
  split
  · exact h _
  · trivial

theorem Verdict.leaves_roof {s : State} {f : Env → Roof → Roof} (results : List Byte)
    (h : s.roof.Works (f s.env s.roof)) : Verdict.Leaves s (.accepted results (s.onRoof f)) :=
  ⟨rfl, State.keeps_onRoof (h.keeps _)⟩

theorem Verdict.leaves_plant {s : State} {f : Env → Plant → Plant} (results : List Byte)
    (h : s.plant.Works (f s.env s.plant)) : Verdict.Leaves s (.accepted results (s.onPlant f)) :=
  ⟨rfl, State.keeps_onPlant h⟩

theorem State.keeps_withSession (s : State) (x : Session) : s.Keeps (s.withSession x) := .of_blocks (.refl ..)

theorem Verdict.leaves_session (s : State) (results : List Byte) (x : Session) :
    Verdict.Leaves s (.accepted results (s.withSession x)) := ⟨rfl, s.keeps_withSession x⟩

theorem logError_keeps (job error : Byte) (s : State) : s.Keeps (logError job error s) := by
  refine .of_blocks (.refl ..) (errors := fun h => ?_)
  unfold logError Config.errorPlaces
  dsimp only
  split <;> simp only [List.length_append, List.length_drop, List.length_singleton] <;> omega

theorem finishJob_keeps (restart : Bool) (req : Frame) (code : Byte) {s : State} {v : Verdict}
    (hjobs : s.link.jobs ≠ []) (hv : v.Leaves s) : s.Keeps (finishJob restart req code s v) := by
  cases v with
  | accepted results t =>
    obtain ⟨hlink, hkeeps⟩ := hv
    exact hkeeps.trans (State.keeps_onLink (f := fun l => l.answerJob _ restart)
      (Link.answerJob_keeps _ _ _ (hlink ▸ hjobs)))
  | refused e details =>
    exact (logError_keeps code e s).trans (State.keeps_onLink (f := fun l => l.answerJob _ false)
      (Link.answerJob_keeps _ _ _ hjobs))

/-- R155: the head of the job queue is served. -/
theorem serveWith_keeps {before : State → State} (restart : Bool) (code : Byte) {body : List Byte → State → Verdict}
    {s : State} (hbefore : (before s).link = s.link ∧ s.Keeps (before s)) (hbody : ∀ p t, (body p t).Leaves t) :
    s.Keeps (serveWith before restart code body s) := by
  unfold serveWith
  split
  · exact .refl _
  · next req rest hjobs =>
    split
    · exact .refl _
    · refine hbefore.2.trans (finishJob_keeps _ _ _ ?_ (hbody ..))
      rw [hbefore.1, hjobs]
      exact List.cons_ne_nil _ _

theorem serveJob_keeps (code : Byte) {body : List Byte → State → Verdict} (s : State)
    (hbody : ∀ p t, (body p t).Leaves t) : s.Keeps (serveJob code body s) :=
  serveWith_keeps false code ⟨rfl, .refl _⟩ hbody

theorem serveEdit_keeps (code : Byte) {body : List Byte → State → Verdict} (s : State)
    (hbody : ∀ p t, (body p t).Leaves t) : s.Keeps (serveEdit code body s) := by
  refine serveWith_keeps false code ?_ hbody
  unfold restartIdle
  split
  · exact ⟨rfl, .of_blocks (.refl ..)⟩
  · exact ⟨rfl, .refl _⟩

theorem serveUnnamed_keeps (s : State) : s.Keeps (serveUnnamed s) := by
  unfold serveUnnamed
  split
  · exact .refl _
  · next req rest hjobs =>
    have hne : s.link.jobs ≠ [] := by
      rw [hjobs]
      exact List.cons_ne_nil _ _
    split
    · exact .refl _
    · split
      · exact finishJob_keeps _ _ _ hne trivial
      · split
        · exact .refl _
        · exact finishJob_keeps _ _ _ hne trivial

/-! ### The jobs' bodies -/

theorem reading_leaves (report : State → List Byte) (p : List Byte) (s : State) :
    (reading report p s).Leaves s := Verdict.leaves_sized _ _ ⟨rfl, .refl _⟩

theorem readUnitJob_leaves (p : List Byte) (s : State) : (readUnitJob p s).Leaves s :=
  Verdict.leaves_sized _ _ (Verdict.leaves_onUnit _ fun _ => ⟨rfl, .refl _⟩)

theorem readStageJob_leaves (p : List Byte) (s : State) : (readStageJob p s).Leaves s := by
  refine Verdict.leaves_sized _ _ (Verdict.leaves_onUnit _ fun u => ?_)
  split
  · exact ⟨rfl, .refl _⟩
  · trivial

theorem readHistoryJob_leaves (p : List Byte) (s : State) : (readHistoryJob p s).Leaves s := by
  refine Verdict.leaves_sized _ _ ?_
  split
  · exact ⟨rfl, .refl _⟩
  · trivial

theorem readErrorsJob_leaves (p : List Byte) (s : State) : (readErrorsJob p s).Leaves s :=
  Verdict.leaves_sized _ _ ⟨rfl, .of_blocks (.refl ..) (errors := fun _ => Nat.zero_le 3)⟩

theorem clearPeakJob_leaves (p : List Byte) (s : State) : (clearPeakJob p s).Leaves s :=
  Verdict.leaves_sized _ _ ⟨rfl, .of_blocks (.refl ..)⟩

theorem ackNoticesJob_leaves (p : List Byte) (s : State) : (ackNoticesJob p s).Leaves s :=
  Verdict.leaves_sized _ _ ⟨rfl, .of_blocks (Roof.keeps_notices s.tables s.roof _)⟩

theorem discardCapturesJob_leaves (p : List Byte) (s : State) : (discardCapturesJob p s).Leaves s := by
  refine Verdict.leaves_sized _ _ ⟨rfl, .of_blocks ⟨id, id, fun _ => id, fun _ => id, fun h => ?_⟩⟩
  exact (List.drop_sublist ..).length_le.trans h

theorem clearTripOn_leaves (u : UnitIx) (slot : Option Slot) (s : State) : (clearTripOn u slot s).Leaves s := by
  unfold clearTripOn
  dsimp only
  split
  · trivial
  · exact Verdict.leaves_roof _ (clearCauses_works ..)

theorem clearTripJob_leaves (p : List Byte) (s : State) : (clearTripJob p s).Leaves s := by
  refine Verdict.leaves_sized _ _ (Verdict.leaves_onUnit _ fun u => ?_)
  split
  · trivial
  · split
    · exact clearTripOn_leaves ..
    · split
      · split
        · exact clearTripOn_leaves ..
        · trivial
      · trivial

theorem forceSlot_leaves (u : UnitIx) (i : Slot) (action : Nat) (s : State) : (forceSlot u i action s).Leaves s := by
  unfold forceSlot
  split
  · exact Verdict.leaves_roof _ (setForce_works ..)
  · split
    · trivial
    · exact Verdict.leaves_roof (f := fun e r => (setForce e u i .forceOn r).onPlant callForPass) _
        ((setForce_works ..).trans (Roof.works_onPlant (Plant.works_queue id)))
  · exact Verdict.leaves_roof _ (setForce_works ..)
  · trivial

theorem forceFan_leaves (u : UnitIx) (action : Nat) (s : State) : (forceFan u action s).Leaves s := by
  unfold forceFan
  split
  · exact Verdict.leaves_plant _ (setFanForce_works ..)
  · exact Verdict.leaves_plant _ (setFanForce_works ..)
  · trivial

theorem forceStageJob_leaves (p : List Byte) (s : State) : (forceStageJob p s).Leaves s := by
  refine Verdict.leaves_sized _ _ (Verdict.leaves_onUnit _ fun u => ?_)
  split
  · trivial
  · split
    · exact forceFan_leaves ..
    · split
      · split
        · exact forceSlot_leaves ..
        · trivial
      · trivial

theorem isolateJob_leaves (p : List Byte) (s : State) : (isolateJob p s).Leaves s :=
  Verdict.leaves_sized _ _ (Verdict.leaves_onUnit _ fun _ => Verdict.leaves_roof _ (isolateUnit_works ..))

theorem restoreJob_leaves (p : List Byte) (s : State) : (restoreJob p s).Leaves s :=
  Verdict.leaves_sized _ _ (Verdict.leaves_onUnit _ fun _ => Verdict.leaves_roof _ (restoreUnit_works ..))

theorem openEditJob_leaves (p : List Byte) (s : State) : (openEditJob p s).Leaves s := by
  unfold openEditJob
  split
  · trivial
  · trivial
  · exact Verdict.leaves_sized _ _ (Verdict.leaves_session ..)

theorem selectJob_leaves (p : List Byte) (s : State) : (selectJob p s).Leaves s := by
  refine Verdict.leaves_inSession _ (Verdict.leaves_sized _ _ ?_)
  split
  · exact Verdict.leaves_session ..
  · trivial

theorem seekJob_leaves (p : List Byte) (s : State) : (seekJob p s).Leaves s := by
  refine Verdict.leaves_onTable _ fun t => Verdict.leaves_sized _ _ ?_
  split
  · exact Verdict.leaves_session ..
  · trivial

theorem writing_leaves (code : Byte) (results : TableId → Session → List Byte) (p : List Byte) (s : State) :
    (writing code results p s).Leaves s := by
  refine Verdict.leaves_onTable _ fun t => Verdict.leaves_sized _ _ ?_
  split
  · trivial
  · split
    · trivial
    · exact Verdict.leaves_session ..

theorem readAtJob_leaves (p : List Byte) (s : State) : (readAtJob p s).Leaves s := by
  refine Verdict.leaves_onTable _ fun t => Verdict.leaves_sized _ _ ?_
  split
  · trivial
  · exact Verdict.leaves_session ..

theorem applyJob_leaves (p : List Byte) (s : State) : (applyJob p s).Leaves s := by
  refine Verdict.leaves_inSession _ (Verdict.leaves_sized _ _ ?_)
  split
  · trivial
  · exact Verdict.leaves_session ..

theorem abandonJob_leaves (p : List Byte) (s : State) : (abandonJob p s).Leaves s :=
  Verdict.leaves_inSession _ (Verdict.leaves_sized _ _ (Verdict.leaves_session ..))

theorem storeConfigJob_leaves (p : List Byte) (s : State) : (storeConfigJob p s).Leaves s := by
  unfold storeConfigJob
  split
  · trivial
  · exact Verdict.leaves_sized _ _ ⟨rfl, .of_blocks (.refl ..)⟩

theorem restartJob_leaves (p : List Byte) (s : State) : (restartJob p s).Leaves s := by
  unfold restartJob
  split
  · trivial
  · exact Verdict.leaves_sized _ _ ⟨rfl, .of_blocks (.refl ..)⟩

theorem deriveCeiling_keeps (s : State) : s.Keeps (deriveCeiling s) := .of_blocks (.refl ..)

/-- R117 to R120: an event of the shed controller that keeps its level, with the ceiling derived again and a notice. -/
theorem drEvent_keeps (s : State) (sh : Shed) (k : NoticeKind) (i : Option Nat) (v : Option Int)
    (h : sh.level = s.shed.level) : s.Keeps ((deriveCeiling { s with shed := sh }).raise k 0 i v) := by
  have hshed : s.Keeps { s with shed := sh } := .of_blocks (.refl ..) (level := fun hl => by
    dsimp only
    rw [h]
    exact hl)
  exact (hshed.trans (deriveCeiling_keeps _)).trans (State.keeps_raise ..)

theorem beginJobEvent_keeps (ceiling minutes : Nat) (s : State) : s.Keeps (beginJobEvent ceiling minutes s) :=
  drEvent_keeps s _ _ _ _ rfl

theorem endJobEvent_frame (s : State) : (endJobEvent s).link = s.link ∧ s.Keeps (endJobEvent s) := by
  unfold endJobEvent
  split
  · exact ⟨rfl, .refl _⟩
  · exact ⟨rfl, drEvent_keeps s _ _ _ _ rfl⟩

theorem drBeginJob_leaves (p : List Byte) (s : State) : (drBeginJob p s).Leaves s := by
  refine Verdict.leaves_sized _ _ ?_
  split
  · exact ⟨rfl, beginJobEvent_keeps ..⟩
  · trivial

theorem drEndJob_leaves (p : List Byte) (s : State) : (drEndJob p s).Leaves s :=
  Verdict.leaves_sized _ _ (endJobEvent_frame s)

end Sys2Proof.Machine

namespace Sys2Proof.Machine

/-! ### The seconds counter, the meter and the shed controller -/

theorem tick_keeps (s : State) : s.Keeps (tick s) := by
  have hunit (v : UnitIx) : (advanceSecond s).plant.unit v = tickUnit (s.plant.unit v) := by
    simp [advanceSecond, Plant.unit]
  have hadvance : s.Keeps (advanceSecond s) := by
    refine .of_blocks (Roof.keeps_units s.tables (fun v => ?_) (fun v => ?_) (fun v => ?_))
    all_goals
      rw [State.roof_plant, hunit]
      rfl
  exact hadvance.trans (State.keeps_onRoof ((evaluateGates_works ..).keeps _))

theorem pushHistory_length (r : HistoryRec) (h : List HistoryRec) : (pushHistory r h).length ≤ 8 :=
  List.length_take_le ..

theorem recordClose_history (cause : CloseCause) (now : Nat) (m : Meter) (h : m.history.length ≤ 8) :
    (recordClose cause now m).history.length ≤ 8 := by
  unfold recordClose
  split
  · exact h
  · exact pushHistory_length ..

theorem closeInterval_keeps (cause : CloseCause) (s : State) : s.Keeps (closeInterval cause s) := by
  have hopen : s.Keeps { s with
      meter := openInterval s.shed.level (recordClose cause s.seconds s.meter)
      lines := { s.lines with syncMissing := if cause = .sync then false else s.lines.syncMissing } } :=
    .of_blocks (.refl ..) (history := recordClose_history cause s.seconds s.meter)
  unfold closeInterval
  dsimp only
  split
  · exact hopen
  · exact hopen.trans (State.keeps_raise ..)

theorem closeMissing_keeps (s : State) : s.Keeps (closeMissing s) := by
  have hflag (t : State) : t.Keeps { t with lines := { t.lines with syncMissing := true } } := .of_blocks (.refl ..)
  exact ((State.keeps_raise ..).trans (hflag _)).trans (closeInterval_keeps ..)

theorem testClose_keeps (s : State) : s.Keeps (testClose s) := by
  unfold testClose
  split
  · exact .refl _
  · exact closeMissing_keeps s
  · exact closeInterval_keeps ..

theorem takeSample_keeps (s : State) : s.Keeps (takeSample s) := by
  have hmeter : s.Keeps { s with
      meter := sampleMeter s.tables.roof.intervalLength (roofPower s.env s.plant) s.meter
      plant := { s.plant with grantSum := 0 } } :=
    .of_blocks ((Roof.works_withPlant (r := s.roof) (p := { s.plant with grantSum := 0 })
      (Plant.works_queue id)).keeps s.tables)
  have hleave (t : State) : t.Keeps (leaveForecast t) := .of_blocks (.refl ..)
  exact (hmeter.trans (testClose_keeps _)).trans (hleave _)

theorem syncEdge_keeps (s : State) : s.Keeps (syncEdge s) := by
  unfold syncEdge
  split
  · exact .refl _
  · split
    · exact .refl _
    · exact closeInterval_keeps ..

/-- R124: a change to a level within 0..7. -/
theorem changeLevel_keeps {level : Nat} {s : State} (h : s.shed.level ≤ 7 → level ≤ 7) :
    s.Keeps (changeLevel level s) := by
  have hlevel : s.Keeps { s with shed := { s.shed with level := level } } := .of_blocks (.refl ..) (level := h)
  have hregate (t : State) : t.Keeps { t with
      meter := { t.meter with shedPeak := max t.meter.shedPeak level }
      rotation := regate t.rotation (maskAt t.tables level) t.seconds } := .of_blocks (.refl ..)
  unfold changeLevel
  dsimp only
  refine State.Keeps.trans ?_ (State.keeps_onRoof ((evaluateGates_works ..).keeps _))
  exact (hlevel.trans (State.keeps_raise ..)).trans (hregate _)

/-- R122, R123: a reaction raises the level below 7 and lowers it above 0. -/
theorem react_keeps (s : State) : s.Keeps (react s) := by
  have htimers (hold : HoldTimer) (stepEnd : Option Nat) :
      s.Keeps { s with shed := { s.shed with hold := hold, stepEnd := stepEnd } } := .of_blocks (.refl ..)
  unfold react
  dsimp only
  split
  · next hrises =>
    simp only [rises, Bool.and_eq_true, decide_eq_true_eq] at hrises
    exact (htimers _ _).trans (changeLevel_keeps fun _ => hrises.1.2)
  · split
    · exact (htimers _ _).trans (changeLevel_keeps fun h => (Nat.sub_le ..).trans h)
    · exact htimers _ _

theorem expireJobEvent_keeps (s : State) : s.Keeps (expireJobEvent s) := by
  unfold expireJobEvent
  split
  · split
    · exact (endJobEvent_frame s).2
    · exact .refl _
  · exact .refl _

theorem expireSession_keeps (s : State) : s.Keeps (expireSession s) := by
  unfold expireSession
  split
  · exact .of_blocks (.refl ..)
  · exact .refl _

/-! ### The discrete inputs and the store -/

theorem openContact_keeps (s : State) : s.Keeps (openContact s) := by
  unfold openContact
  split
  · exact .refl _
  · exact drEvent_keeps s _ _ _ _ rfl

theorem deliver_keeps (w : InputLine) (closed : Bool) (s : State) : s.Keeps (deliver w closed s) := by
  unfold deliver
  split
  · exact syncEdge_keeps s
  · exact .refl _
  · exact drEvent_keeps s _ _ _ _ rfl
  · exact openContact_keeps s
  · exact State.keeps_onRoof ((shutdownAssert_works ..).keeps _)
  · exact State.keeps_onRoof ((shutdownRelease_works ..).keeps _)

theorem debounceEnds_keeps (w : InputLine) (s : State) : s.Keeps (debounceEnds w s) := by
  unfold debounceEnds
  split
  · refine State.Keeps.trans ?_ (deliver_keeps ..)
    exact .of_blocks (.refl ..)
  · exact .refl _

theorem storeEnds_keeps (equal : Bool) (s : State) : s.Keeps (storeEnds equal s) := by
  unfold storeEnds
  split
  · exact .refl _
  · split
    · refine State.Keeps.trans ?_ (State.keeps_raise ..)
      exact .of_blocks (.refl ..)
    · refine State.Keeps.trans ?_ (State.keeps_raise ..)
      exact .of_blocks (.refl ..)

/-! ### Installations -/

theorem installCurtailment_works (old : Tables) (s : State) : s.roof.Works (installCurtailment old s).roof :=
  evaluateGates_works
    ({ s with rotation := regate s.rotation (maskAt s.tables s.shed.level) s.seconds } : State).env
    (fun u => (s.env.cfg u).fitted && capAt old s.shed.level old.units[u].priority ≠ coolingCap s.env u) s.roof

/-- A roof before and after the owners of the tables take an installation. -/
theorem bandsTaken_keeps (new : Tables) (s : State) : s.roof.Keeps new (bandsTaken new s).roof := by
  have htaken : s.roof.Keeps new (tablesTaken new s).roof := Roof.keeps_notices new s.roof _
  have hunits : (tablesTaken new s).roof.Keeps new (installUnits s.tables (tablesTaken new s)).roof :=
    installUnitsRoof_keeps (tablesTaken new s).env s.tables s.lines.roofShutdown.debounced (tablesTaken new s).roof
  have hcurtail : (installUnits s.tables (tablesTaken new s)).roof.Works (curtailmentTaken new s).roof :=
    installCurtailment_works ..
  have hbands : (curtailmentTaken new s).roof.Works (bandsTaken new s).roof := by
    refine Roof.works_foldl (fun q b _ => ?_) (curtailmentTaken new s).roof
    split
    · exact .refl _
    · exact Roof.works_foldl (fun _ _ _ => resetPair_works ..) q
  exact ((htaken.trans hunits).trans (hcurtail.keeps new)).trans (hbands.keeps new)

theorem installLead_keeps (s : State) : s.Keeps (installLead s) := by
  refine foldl_related State.Keeps.refl (fun _ _ _ => .trans) _ allUnits (fun a u _ => ?_) s
  split
  · exact State.keeps_onRoof ((leadCheck_works ..).keeps _)
  · exact .refl _

/-- R43: under the candidate tables too a unit is ABSENT exactly while it is not fitted. -/
theorem bandsTaken_fittedNotAbsent {new : Tables} {s : State} (h : FittedNotAbsent s) :
    FittedNotAbsent (bandsTaken new s) := by
  intro u
  have htables : (bandsTaken new s).tables = new := rfl
  rw [htables]
  by_cases hsame : s.tables.units[u].fitted = new.units[u].fitted
  · exact (bandsTaken_keeps new s).absent u (hsame ▸ h u)
  · cases ho : s.tables.units[u].fitted <;> cases hn : new.units[u].fitted
    · exact absurd (ho.trans hn.symm) hsame
    · simp [bandsTaken_fitted ho hn]
    · simp [(bandsTaken_unfitted ho hn).1]
    · exact absurd (ho.trans hn.symm) hsame

/-- R29, R43: a transaction in flight loses the units that the tables do not fit. -/
theorem loseUnits_reportsFitted {t : Tables} {l : Link} {x : Transaction}
    (hx : (loseUnits t l).trunk.transaction = some x) : x.ReportsFitted t := by
  have hlose (y : Transaction) : Transaction.ReportsFitted t (match y.unit with
      | some u => { y with unreported := y.unreported || !t.units[u].fitted }
      | none => y) := by
    intro u
    split
    · next v hv =>
      intro hu hreported
      obtain rfl := Option.some.inj (hv.symm.trans hu)
      simpa using (Bool.or_eq_false_iff.1 hreported).2
    · next hnone =>
      intro hu
      rw [hnone] at hu
      cases hu
  unfold loseUnits at hx
  cases htrunk : l.trunk <;> rw [htrunk] at hx
  · cases hx
  all_goals
    obtain rfl := Option.some.inj hx
    exact hlose _

theorem takeRates_keeps (r : RoofRec) (l : Link) : l.Keeps (takeRates r l) := by
  rw [takeRates_eq]
  exact ⟨id, rfl⟩

theorem bandsTaken_state_keeps (new : Tables) (s : State) : s.Keeps (bandsTaken new s) where
  queues := id
  lists := fun ⟨hcap, hhist, herr, hlevel⟩ => ⟨(bandsTaken_keeps new s).captures hcap, hhist, herr, hlevel⟩
  queue := (bandsTaken_keeps new s).queue
  injections := (bandsTaken_keeps new s).injections
  causes := (bandsTaken_keeps new s).causes
  absent := bandsTaken_fittedNotAbsent
  reports _ _ := (reportsToFitted_iff _).2 fun _ hx => loseUnits_reportsFitted (t := new) (l := s.link) hx

theorem installTables_keeps (new : Tables) (selected : List TableId) (s : State) :
    s.Keeps (installTables new selected s) := by
  have hroof : (bandsTaken new s).Keeps (installRoof (bandsTaken new s)) := by
    have hrates := (State.keeps_onLink (s := bandsTaken new s) (takeRates_keeps new.roof _)).trans
      (deriveCeiling_keeps _)
    unfold installRoof
    dsimp only
    split
    · exact hrates.trans (.of_blocks (.refl ..))
    · exact hrates
  have howners : s.Keeps (ownersTaken new selected s) := by
    refine (bandsTaken_state_keeps new s).trans ?_
    unfold ownersTaken
    split
    · exact hroof
    · exact .refl _
  have hinstall : installTables new selected s = if .unit ∈ selected ∨ .roof ∈ selected
      then installLead (ownersTaken new selected s) else ownersTaken new selected s := rfl
  rw [hinstall]
  split
  · exact howners.trans (installLead_keeps _)
  · exact howners

theorem installPending_keeps (s : State) : s.Keeps (installPending s) := by
  unfold installPending
  split
  · dsimp only
    split
    · have hreopen : s.Keeps { s with jobs := { s.jobs with session :=
          { s.jobs.session with state := .opened, idleEnd := some (s.seconds + Config.sessionIdle) } } } :=
        .of_blocks (.refl ..)
      exact (hreopen.trans (logError_keeps ..)).trans (State.keeps_raise ..)
    · exact installTables_keeps ..
  · exact .refl _

/-! ### Every command -/

/-- What every command keeps: one line for each row of the opcode table. -/
theorem exec_keeps {s t : State} {c : Instr} (h : exec c s = .next t) : s.Keeps t := by
  cases c with
  | powerUp => exact Host.Outcome.next.inj h ▸ resetState_keeps ..
  | resetLine => exact whilePowered_keeps (resetState_keeps ..) h
  | controllerFrameReceived f =>
    obtain ⟨hqueues, htrunk⟩ := ({ s.link with controllerRx := .hunt } : Link).takeIn_keeps f
    exact whilePowered_keeps (f := fun s => s.onLink fun l => ({ l with controllerRx := .hunt } : Link).takeIn f)
      (State.keeps_onLink ⟨hqueues, htrunk⟩) h
  | gapTimeout p | lineBreak p =>
    exact whilePowered_keeps (f := fun s => s.onLink (dropAssembly p))
      (State.keeps_onLink (dropAssembly_keeps p _)) h
  | replyTransmitStart => exact whilePowered_keeps (beginReply_keeps s) h
  | replyTransmitEnd => exact whilePowered_keeps (endReply_keeps s) h
  | trunkArbitration => exact roofCommand_keeps (arbitrateTrunk_keeps s) h
  | turnaroundEnd => exact whilePowered_keeps (turnaroundEnds_keeps s) h
  | attemptSent => exact whilePowered_keeps (attemptEnds_keeps s) h
  | trunkFrameReceived f =>
    refine roofCommand_keeps (f := fun s => if s.link.trunk.isSending then s
      else trunkFrame f (s.onLink fun l => { l with trunkRx := .hunt, quiet := false })) ?_ h
    split
    · exact .refl _
    · exact (State.keeps_onLink ⟨id, rfl⟩).trans (trunkFrame_keeps ..)
  | replyTimeout => exact roofCommand_keeps (replyTimerEnds_keeps s) h
  | secondsTick => exact roofCommand_keeps (tick_keeps s) h
  | offWindowsElapsed u i =>
    exact roofCommand_keeps (f := fun s => s.onPlant fun e p => offWindowsEnd e u i p)
      (State.keeps_onPlant (offWindowsEnd_works _ u i _)) h
  | minimumOnEnd u i =>
    exact roofCommand_keeps (f := fun s => s.onRoof fun e => minimumOnEnds e u i)
      (State.keeps_onRoof ((minimumOnEnds_works _ u i _).keeps _)) h
  | blankingWindowEnd u =>
    exact roofCommand_keeps (f := fun s => s.onRoof fun e => blankingEnds e u)
      (State.keeps_onRoof ((blankingEnds_works _ u _).keeps _)) h
  | entryAging =>
    exact whilePowered_keeps (f := fun s => s.onPlant ageQueue) (State.keeps_onPlant (ageQueue_works ..)) h
  | admissionPass =>
    exact roofCommand_keeps (f := fun s => s.onRoof admissionPass)
      (State.keeps_onRoof ((admissionPass_works ..).keeps _)) h
  | staggerTimerEnd =>
    refine whilePowered_keeps (f := fun s =>
      { s with plant := { s.plant with staggerEnd := clearReached s.seconds s.plant.staggerEnd } }) ?_ h
    exact .of_blocks ((Roof.works_withPlant (r := s.roof)
      (p := { s.plant with staggerEnd := clearReached s.seconds s.plant.staggerEnd }) (Plant.works_queue id)).keeps
      s.tables)
  | demandSample =>
    exact roofCommand_keeps (f := fun s => takeSample (installPending s))
      ((installPending_keeps s).trans (takeSample_keeps _)) h
  | shedReaction => exact roofCommand_keeps (react_keeps s) h
  | stepTimerEnd =>
    refine whilePowered_keeps (f := fun s =>
      { s with shed := { s.shed with stepEnd := clearReached s.seconds s.shed.stepEnd } }) ?_ h
    exact .of_blocks (.refl ..)
  | restoreHoldEnd =>
    refine whilePowered_keeps (f := fun s =>
      { s with shed := { s.shed with hold := holdReached s.seconds s.shed.hold } }) ?_ h
    exact .of_blocks (.refl ..)
  | drEventExpiry => exact roofCommand_keeps (expireJobEvent_keeps s) h
  | inputLineChange l closed => exact Host.Outcome.next.inj h ▸ .of_blocks (.refl ..)
  | debounceExpiry l => exact roofCommand_keeps (debounceEnds_keeps l s) h
  | identify => exact whilePowered_keeps (serveJob_keeps _ s (reading_leaves _)) h
  | readRoof => exact whilePowered_keeps (serveJob_keeps _ s (reading_leaves _)) h
  | readUnit => exact whilePowered_keeps (serveJob_keeps _ s readUnitJob_leaves) h
  | readStage => exact whilePowered_keeps (serveJob_keeps _ s readStageJob_leaves) h
  | readQueue => exact whilePowered_keeps (serveJob_keeps _ s (reading_leaves _)) h
  | readHistory => exact whilePowered_keeps (serveJob_keeps _ s readHistoryJob_leaves) h
  | readErrors => exact whilePowered_keeps (serveJob_keeps _ s readErrorsJob_leaves) h
  | clearPeak => exact whilePowered_keeps (serveJob_keeps _ s clearPeakJob_leaves) h
  | readNotices => exact whilePowered_keeps (serveJob_keeps _ s (reading_leaves _)) h
  | ackNotices => exact roofCommand_keeps (serveJob_keeps _ s ackNoticesJob_leaves) h
  | readCaptures => exact whilePowered_keeps (serveJob_keeps _ s (reading_leaves _)) h
  | discardCaptures => exact whilePowered_keeps (serveJob_keeps _ s discardCapturesJob_leaves) h
  | clearTrip => exact roofCommand_keeps (serveJob_keeps _ s clearTripJob_leaves) h
  | forceStage => exact roofCommand_keeps (serveJob_keeps _ s forceStageJob_leaves) h
  | isolate => exact roofCommand_keeps (serveJob_keeps _ s isolateJob_leaves) h
  | restore => exact roofCommand_keeps (serveJob_keeps _ s restoreJob_leaves) h
  | drBegin => exact roofCommand_keeps (serveJob_keeps _ s drBeginJob_leaves) h
  | drEnd => exact roofCommand_keeps (serveJob_keeps _ s drEndJob_leaves) h
  | openEdit => exact whilePowered_keeps (serveJob_keeps _ s openEditJob_leaves) h
  | selectTable => exact whilePowered_keeps (serveEdit_keeps _ s selectJob_leaves) h
  | seek => exact whilePowered_keeps (serveEdit_keeps _ s seekJob_leaves) h
  | writeRecord => exact whilePowered_keeps (serveEdit_keeps _ s (writing_leaves _ _)) h
  | exchange => exact whilePowered_keeps (serveEdit_keeps _ s (writing_leaves _ _)) h
  | readAt => exact whilePowered_keeps (serveEdit_keeps _ s readAtJob_leaves) h
  | applyTables => exact whilePowered_keeps (serveEdit_keeps _ s applyJob_leaves) h
  | abandon => exact whilePowered_keeps (serveEdit_keeps _ s abandonJob_leaves) h
  | storeConfig => exact whilePowered_keeps (serveJob_keeps _ s storeConfigJob_leaves) h
  | restart => exact whilePowered_keeps (serveWith_keeps true _ ⟨rfl, .refl _⟩ restartJob_leaves) h
  | sessionIdleExpiry => exact whilePowered_keeps (expireSession_keeps s) h
  | storeEnd equal => exact roofCommand_keeps (storeEnds_keeps equal s) h
  | characterReceived p c =>
    cases p with
    | controller =>
      exact whilePowered_keeps (f := fun s => s.onLink (controllerChar c))
        (State.keeps_onLink (controllerChar_keeps c _)) h
    | trunk => exact roofCommand_keeps (trunkChar_keeps c s) h
  | powerLoss => exact whilePowered_keeps (losePower_keeps s) h
  | badJobCode => exact whilePowered_keeps (serveUnnamed_keeps s) h

/-- Settles O55: every part of a command that adds to a queue or a list looks for a place first, or makes one. -/
theorem placesAreNeverExceeded : Obligations.PlacesAreNeverExceeded :=
  fun _ _ _ hqueues hlists h => ⟨(exec_keeps h).queues hqueues, (exec_keeps h).lists hlists⟩

/-- Settles O57: an entry joins at its place where the unit has none of the kind, a cause where it is not held. -/
theorem plantListsStaySound : Obligations.PlantListsStaySound :=
  fun _ _ _ hqueue hinjections hcauses h => ⟨(exec_keeps h).queue hqueue, (exec_keeps h).injections hinjections,
    fun u => (exec_keeps h).causes u (hcauses u)⟩

/-- Settles O59: only an installation enters or leaves ABSENT, for the units whose fitted flag it changes, and it
takes the reports of those it unfits from the transaction in flight. -/
theorem absentExactlyWhenNotFitted : Obligations.AbsentExactlyWhenNotFitted :=
  fun _ _ _ habsent hreports h => ⟨(exec_keeps h).absent habsent, (exec_keeps h).reports habsent hreports⟩

end Sys2Proof.Machine

namespace Sys2Proof.Machine

/-! ## The scheduler (R22 to R26, R32, R33, R35, R36) -/

/-! ### Handing a transaction over -/

@[simp] theorem conclude_link (s : State) : (conclude s).link = s.link := by
  obtain ⟨-, -, -, -, -, -, -, -, -, hlink, -⟩ := conclude_frame s
  exact hlink

theorem conclude_plant_of_no_pass {s : State} (h : s.plant.passDue = false) : (conclude s).plant = s.plant := by
  rw [conclude_no_pass s h]
  rfl

/-- R26, R28, R29: the transaction at its first attempt, as the scheduler hands it over. -/
def firstAttempt (origin : Origin) (q : Request) (unit : Option UnitIx) (s : State) : Transaction :=
  { origin := origin, request := q, unit := unit
    unreported := decide (unit.map (fun u => (s.plant.unit u).state) = some .absent)
    single := decide (unit.map (fun u => (s.plant.unit u).state) = some .offline)
    attempt := 1, tag := s.link.tag, retryCount := s.tables.roof.retryCount
    replyTimeout := s.tables.roof.replyTimeout }

theorem startTransaction_quiet {s : State} (origin : Origin) (q : Request) (unit : Option UnitIx)
    (h : s.link.quiet = true) :
    startTransaction origin q unit s = beginAttempt (firstAttempt origin q unit s) s := if_pos h

theorem firstAttempt_unreported_iff {origin : Origin} {q : Request} {u : UnitIx} {s : State} :
    (firstAttempt origin q (some u) s).unreported = true ↔ (s.plant.unit u).state = .absent := by
  simp [firstAttempt]

theorem firstAttempt_single_iff {origin : Origin} {q : Request} {u : UnitIx} {s : State} :
    (firstAttempt origin q (some u) s).single = true ↔ (s.plant.unit u).state = .offline := by
  simp [firstAttempt]

/-- R26: what a command that hands a transaction over on a quiet trunk leaves on the ports. -/
theorem startTransaction_sending {s : State} (origin : Origin) (q : Request) (unit : Option UnitIx)
    (h : s.link.quiet = true) :
    AttemptSending s (conclude (startTransaction origin q unit s)) (firstAttempt origin q unit s)
      (requestFrame s.plant s.link.tag q) := by
  rw [startTransaction_quiet origin q unit h]
  unfold AttemptSending
  rw [conclude_link]
  exact beginAttempt_sending (firstAttempt origin q unit s) s

/-- R20, R33, R35: what the start of a transaction leaves of the queues and the scheduler's registers. -/
theorem startTransaction_registers {s : State} (origin : Origin) (q : Request) (unit : Option UnitIx)
    (h : s.link.quiet = true) :
    let l := (conclude (startTransaction origin q unit s)).link
    l.marker = s.link.marker ∧ l.relay = s.link.relay ∧ l.replies = s.link.replies ∧ l.cursor = s.link.cursor ∧
      l.lastPoll = s.link.lastPoll := by
  rw [startTransaction_quiet origin q unit h, conclude_link]
  exact ⟨rfl, rfl, rfl, rfl, rfl⟩

/-- R32: the plant behind the start of a transaction with no admission pass due. -/
theorem startTransaction_plant {s : State} (origin : Origin) (q : Request) (unit : Option UnitIx)
    (h : s.link.quiet = true) (hpass : s.plant.passDue = false) :
    (conclude (startTransaction origin q unit s)).plant = attemptPlant (firstAttempt origin q unit s) s.plant := by
  rw [startTransaction_quiet origin q unit h]
  exact conclude_plant_of_no_pass ((beginAttempt_passDue ..).trans hpass)

theorem attemptPlant_of_none {x : Transaction} (h : injectionTaken x = none) (p : Plant) : attemptPlant x p = p := by
  simp [attemptPlant, h]

/-- R23, R32: only a STAGE_MAP takes a pending injection with it. -/
theorem injectionTaken_eq_none {x : Transaction} (h : ∀ u, x.request ≠ .stageMap u) : injectionTaken x = none := by
  unfold injectionTaken
  split
  · next u hq _ => exact absurd hq (h u)
  · next u hq _ => exact absurd hq (h u)
  · rfl

/-! ### The choice and what becomes of it -/

theorem exec_trunkArbitration {s : State} (h : s.powered = true) (hidle : TrunkIdle s) :
    exec .trunkArbitration s = .next (conclude (arbitrate (s.link.relay.length + 1) s)) := by
  refine (roofCommand_on arbitrateTrunk h).trans ?_
  rw [arbitrateTrunk, if_pos (show s.link.trunk = .free ∧ s.link.quiet from hidle)]

theorem arbitrate_protection {s : State} {u : UnitIx} (n : Nat) (h : choose s = .protection u) :
    arbitrate (n + 1) s = startTransaction .injection (.stageMap u) (some u) s := by
  simp [arbitrate, h]

theorem arbitrate_injection {s : State} {u : UnitIx} (n : Nat) (h : choose s = .injection u) :
    arbitrate (n + 1) s = startTransaction .injection (.stageMap u) (some u)
      (s.onLink fun l => { l with marker := .injection }) := by
  simp [arbitrate, h]

theorem arbitrate_poll {s : State} {u : UnitIx} (n : Nat) (h : choose s = .poll u) :
    arbitrate (n + 1) s = handPoll u s := by
  simp [arbitrate, h]

theorem arbitrate_nothing {s : State} (n : Nat) (h : choose s = .nothing) : arbitrate (n + 1) s = s := by
  simp [arbitrate, h]

/-- R24, R25, R36: a relayed request that is no STAGE_CALL to a unit. -/
theorem arbitrate_relayed {s : State} {f : Frame} (n : Nat) (h : choose s = .relay f)
    (hcall : unitOfAddr f.addr.toNat = none ∨ f.kind ≠ kStageCall) :
    arbitrate (n + 1) s = handRelay (relayRequest s.tables.roof f) (unitOfAddr f.addr.toNat) s := by
  simp only [arbitrate, h]
  split
  · next u hu =>
    rw [if_neg (hcall.resolve_left (by simp [hu])), hu]
  · next hnone => rw [hnone]

/-- R23: a STAGE_CALL to a unit that the request checks pass. -/
theorem arbitrate_call_taken {s t : State} {f : Frame} {u : UnitIx} (n : Nat) (h : choose s = .relay f)
    (hu : unitOfAddr f.addr.toNat = some u) (hkind : f.kind = kStageCall) (htake : takeHeadCall u f s = .ok t) :
    arbitrate (n + 1) s = t := by
  simp only [arbitrate, h, hu, if_pos hkind, htake]

/-- R22: a STAGE_CALL to a unit that a request check refuses. -/
theorem arbitrate_call_refused {s : State} {f : Frame} {u : UnitIx} {code : Byte} (n : Nat) (h : choose s = .relay f)
    (hu : unitOfAddr f.addr.toNat = some u) (hkind : f.kind = kStageCall)
    (htake : takeHeadCall u f s = .error code) :
    arbitrate (n + 1) s = arbitrate n (s.onLink fun l => l.answerHead fun head => errorReply head code [0]) := by
  simp only [arbitrate, h, hu, if_pos hkind, htake]

theorem choose_protection {s : State} {u : UnitIx} {us : List UnitIx} (h : s.plant.protection = u :: us) :
    choose s = .protection u := by
  simp [choose, h]

/-- R33: a relayed request and an ordinary injection wait, and the marker decides. -/
theorem choose_of_both {s : State} {f : Frame} {rest : List Frame} {u : UnitIx} (hprot : s.plant.protection = [])
    (hrelay : s.link.relay = f :: rest) (hinj : ordinaryInjection s.plant = some u) :
    choose s = if s.link.marker = .relay then .injection u else .relay f := by
  simp [choose, hprot, hrelay, hinj]

theorem ordinaryInjection_nil {p : Plant} (h : p.injections = []) : ordinaryInjection p = none := by
  simp [ordinaryInjection, h]

theorem choose_relay {s : State} {f : Frame} {rest : List Frame} (hprot : s.plant.protection = [])
    (hinj : s.plant.injections = []) (hrelay : s.link.relay = f :: rest) : choose s = .relay f := by
  simp [choose, hprot, hrelay, ordinaryInjection_nil hinj]

/-- R35: with nothing else waiting the poll order is asked. -/
theorem choose_poll {s : State} {u : UnitIx} (hprot : s.plant.protection = []) (hinj : s.plant.injections = [])
    (hrelay : s.link.relay = []) (hfind : (pollOrder s.link.cursor).find? (pollDue s) = some u) :
    choose s = .poll u := by
  simp [choose, hprot, hrelay, ordinaryInjection_nil hinj, hfind]

theorem choose_nothing {s : State} (hprot : s.plant.protection = []) (hinj : s.plant.injections = [])
    (hrelay : s.link.relay = []) (hfind : (pollOrder s.link.cursor).find? (pollDue s) = none) :
    choose s = .nothing := by
  simp only [choose, hprot, hrelay, ordinaryInjection_nil hinj, hfind]

theorem unitOfAddr_eq_some {a : Nat} {u : UnitIx} : unitOfAddr a = some u ↔ a = u.val + 1 := by
  unfold unitOfAddr
  constructor
  · intro h
    split at h
    · obtain rfl := Option.some.inj h
      simp only
      omega
    · cases h
  · rintro rfl
    rw [dif_pos (by omega)]
    rfl

theorem unitOfAddr_eq_none {a : Nat} (h : a = 0 ∨ 32 < a) : unitOfAddr a = none := by
  rw [unitOfAddr, dif_neg (by omega)]

/-- A unit's address as a byte. -/
theorem ofNat_unitAddr {a : Byte} {u : UnitIx} (h : a.toNat = u.val + 1) : BitVec.ofNat 8 (unitAddr u) = a := by
  rw [unitAddr, ← h, BitVec.ofNat_toNat, BitVec.setWidth_eq]

/-! ### Relayed requests (R24, R25, R36) -/

/-- R33: what handing a relayed request over leaves, where it takes no injection with it. -/
theorem handRelay_leaves {s : State} {q : Request} (unit : Option UnitIx) (hready : Ready s)
    (hquiet : s.link.quiet = true) (hq : ∀ u, q ≠ .stageMap u) :
    let t := conclude (handRelay q unit s)
    AttemptSending s t (firstAttempt .relay q unit s) (requestFrame s.plant s.link.tag q) ∧ t.link.marker = .relay ∧
      t.link.relay = s.link.relay ∧ t.link.replies = s.link.replies ∧ t.plant = s.plant := by
  let m := s.onLink fun l => { l with marker := .relay }
  obtain ⟨hmarker, hrelay, hreplies, -⟩ := startTransaction_registers (s := m) .relay q unit hquiet
  refine ⟨startTransaction_sending (s := m) .relay q unit hquiet, hmarker, hrelay, hreplies, ?_⟩
  exact (startTransaction_plant (s := m) .relay q unit hquiet hready.2).trans
    (attemptPlant_of_none (injectionTaken_eq_none hq) _)

theorem relayRequest_ne_stageMap (r : RoofRec) (f : Frame) (u : UnitIx) : relayRequest r f ≠ .stageMap u := by
  unfold relayRequest setpointRequest
  split
  · split
    · nofun
    · split <;> nofun
  · split <;> nofun

theorem requestFrame_setpoint (p : Plant) (tag : Byte) (r : RoofRec) (f : Frame) :
    requestFrame p tag (setpointRequest r f) = ⟨f.addr, tag, 0x03, 0,
      leInt16 (clampInt r.coolLow r.coolHigh (s16At f.payload 0)) ++
        leInt16 (clampInt r.heatLow r.heatHigh (s16At f.payload 2))⟩ := rfl

/-- R24, R36: the frame a relayed request other than a STAGE_CALL goes down with. -/
theorem requestFrame_statusRead {p : Plant} {tag : Byte} {r : RoofRec} {f : Frame} {u : UnitIx}
    (hu : f.addr.toNat = u.val + 1) (hkind : f.kind = 0x02) :
    requestFrame p tag (relayRequest r f) = ⟨f.addr, tag, 0x02, 0, []⟩ := by
  have hq : relayRequest r f = .statusRead u := by
    simp [relayRequest, unitOfAddr_eq_some.2 hu, hkind, kStatusRead]
  simp [hq, requestFrame, Request.addr, Request.kind, ofNat_unitAddr hu, kStatusRead]

theorem relayRequest_setpoint {r : RoofRec} {f : Frame}
    (ha : (1 ≤ f.addr.toNat ∧ f.addr.toNat ≤ 32) ∨ f.addr.toNat = 63) (hkind : f.kind = 0x03) :
    relayRequest r f = setpointRequest r f := by
  unfold relayRequest
  split
  · simp [hkind, kStatusRead, kSetpointWrite]
  · next hnone =>
    have h63 : f.addr.toNat = 63 := by
      refine ha.resolve_left fun hunit => ?_
      rw [unitOfAddr, dif_pos hunit] at hnone
      cases hnone
    simp [h63, hkind, kSetpointWrite]

/-- R25, R36: a passthrough request and every request to a foreign device go down as received. -/
theorem relayRequest_raw {r : RoofRec} {f : Frame}
    (h : (33 ≤ f.addr.toNat ∧ f.addr.toNat ≤ 47) ∨ 0x20 ≤ f.kind.toNat) :
    relayRequest r f = .raw f.addr f.kind f.flags f.payload := by
  have hkind : 0x20 ≤ f.kind.toNat → f.kind ≠ kStatusRead ∧ f.kind ≠ kSetpointWrite := by
    intro hk
    constructor <;> intro heq <;> rw [heq] at hk <;> revert hk <;> decide
  unfold relayRequest
  split
  · next u hu =>
    have hunit := unitOfAddr_eq_some.1 hu
    obtain ⟨hread, hwrite⟩ := hkind (h.resolve_left (by omega))
    simp [hread, hwrite]
  · rw [if_neg]
    rintro ⟨h63, hwrite⟩
    exact (hkind (h.resolve_left (by omega))).2 hwrite

/-- R24, R25, R33, R36: a relayed head that is no STAGE_CALL to a unit, handed over as `relayRequest` gives it. -/
theorem relayedHead_handed {s : State} {f : Frame} {rest : List Frame} {kind flags : Byte} {payload : List Byte}
    (hready : Ready s) (hidle : TrunkIdle s) (hprot : s.plant.protection = []) (hinj : s.plant.injections = [])
    (hrelay : s.link.relay = f :: rest) (hcall : unitOfAddr f.addr.toNat = none ∨ f.kind ≠ kStageCall)
    (hframe : requestFrame s.plant s.link.tag (relayRequest s.tables.roof f) =
      ⟨f.addr, s.link.tag, kind, flags, payload⟩) :
    ∃ t x, exec .trunkArbitration s = .next t ∧ x.origin = .relay ∧ x.attempt = 1 ∧
      AttemptSending s t x ⟨f.addr, s.link.tag, kind, flags, payload⟩ ∧ t.link.marker = .relay ∧
      t.link.relay = s.link.relay ∧ t.link.replies = s.link.replies ∧ t.plant = s.plant ∧
      (∀ u : UnitIx, f.addr.toNat = u.val + 1 → x.unit = some u ∧
        (x.unreported = true ↔ (s.plant.unit u).state = .absent) ∧
        (x.single = true ↔ (s.plant.unit u).state = .offline)) ∧
      (33 ≤ f.addr.toNat → x.unit = none ∧ x.single = false) := by
  obtain ⟨hsend, hmarker, hkept, hreplies, hplant⟩ := handRelay_leaves (unitOfAddr f.addr.toNat) hready hidle.2
    (relayRequest_ne_stageMap s.tables.roof f)
  rw [hframe] at hsend
  refine ⟨_, firstAttempt .relay (relayRequest s.tables.roof f) (unitOfAddr f.addr.toNat) s,
    ?_, rfl, rfl, hsend, hmarker, hkept, hreplies, hplant, fun u hu => ?_, fun hfar => ?_⟩
  · rw [exec_trunkArbitration hready.1 hidle, arbitrate_relayed _ (choose_relay hprot hinj hrelay) hcall]
  · rw [unitOfAddr_eq_some.2 hu]
    exact ⟨rfl, firstAttempt_unreported_iff, firstAttempt_single_iff⟩
  · rw [unitOfAddr_eq_none (.inr hfar)]
    exact ⟨rfl, rfl⟩

/-- Settles O13: each kind of relayed head has its own frame, and is handed over alike. -/
theorem relayedRequestsGoDownAsTheirRulesGive : Obligations.RelayedRequestsGoDownAsTheirRulesGive := by
  intro s f rest hready hidle hprot hinj hrelay
  refine ⟨fun hlow hhigh hkind => ?_, fun ha hkind => ?_, fun ha => ?_⟩
  · exact relayedHead_handed hready hidle hprot hinj hrelay (.inr (by rw [hkind]; decide))
      (requestFrame_statusRead (u := ⟨f.addr.toNat - 1, by omega⟩) (by simp only; omega) hkind)
  · refine relayedHead_handed hready hidle hprot hinj hrelay (.inr (by rw [hkind]; decide)) ?_
    rw [relayRequest_setpoint ha hkind, requestFrame_setpoint]
    rfl
  · have hraw : (33 ≤ f.addr.toNat ∧ f.addr.toNat ≤ 47) ∨ 0x20 ≤ f.kind.toNat := ha.imp_right fun h => h.2.1
    refine relayedHead_handed hready hidle hprot hinj hrelay
      (hraw.imp (fun h => unitOfAddr_eq_none (.inr h.1)) fun hk heq => ?_) ?_
    · rw [heq] at hk
      revert hk
      decide
    · rw [relayRequest_raw hraw]
      rfl

/-! ### Priority and alternation (R32, R33) -/

/-- R26, R32: what handing an injection over leaves. -/
theorem startInjection_leaves {s : State} (u : UnitIx) (hready : Ready s) (hquiet : s.link.quiet = true) :
    let t := conclude (startTransaction .injection (.stageMap u) (some u) s)
    AttemptSending s t (firstAttempt .injection (.stageMap u) (some u) s)
      ⟨BitVec.ofNat 8 (u.val + 1), s.link.tag, 0x04, 0, [mapByte (s.plant.unit u).target]⟩ ∧
      t.plant = s.plant.dropInjection u ∧ t.link.marker = s.link.marker ∧ t.link.relay = s.link.relay ∧
      t.link.replies = s.link.replies := by
  obtain ⟨hmarker, hrelay, hreplies, -⟩ := startTransaction_registers .injection (.stageMap u) (some u) hquiet
  exact ⟨startTransaction_sending .injection (.stageMap u) (some u) hquiet,
    startTransaction_plant .injection (.stageMap u) (some u) hquiet hready.2, hmarker, hrelay, hreplies⟩

/-- Settles O10: the choice is read off the protection injections first, and off the marker where both kinds wait. -/
theorem schedulerServesByPriority : Obligations.SchedulerServesByPriority := by
  refine ⟨fun s u us hready hidle hprot => ?_, fun s f rest u hready hidle hprot hrelay hlow hhigh hinj => ?_⟩
  · obtain ⟨hsend, hplant, hmarker, hkept, hreplies⟩ := startInjection_leaves u hready hidle.2
    obtain ⟨hinj, hmarked⟩ := s.plant.not_mem_dropInjection u
    refine ⟨_, firstAttempt .injection (.stageMap u) (some u) s, ?_, rfl, rfl, rfl, hsend, hplant ▸ hinj,
      hplant ▸ hmarked, hmarker, hkept, hreplies⟩
    rw [exec_trunkArbitration hready.1 hidle, arbitrate_protection _ (choose_protection hprot)]
  · have hchoose := choose_of_both hprot hrelay hinj
    have hforeign : unitOfAddr f.addr.toNat = none := unitOfAddr_eq_none (.inr hlow)
    rw [exec_trunkArbitration hready.1 hidle]
    cases hm : s.link.marker with
    | injection =>
      rw [hm] at hchoose
      rw [arbitrate_relayed _ hchoose (.inl hforeign), hforeign, relayRequest_raw (.inl ⟨hlow, hhigh⟩)]
      obtain ⟨hsend, hmarker, hkept, hreplies, -⟩ := handRelay_leaves (q := .raw f.addr f.kind f.flags f.payload) none
        hready hidle.2 nofun
      exact ⟨_, firstAttempt .relay (.raw f.addr f.kind f.flags f.payload) none s, rfl, hkept, hreplies, rfl,
        fun _ => ⟨rfl, hmarker, hsend⟩, nofun⟩
    | relay =>
      rw [hm] at hchoose
      rw [arbitrate_injection _ hchoose]
      obtain ⟨hsend, -, hmarker, hkept, hreplies⟩ := startInjection_leaves
        (s := s.onLink fun l => { l with marker := .injection }) u hready hidle.2
      exact ⟨_, firstAttempt .injection (.stageMap u) (some u) s, rfl, hkept, hreplies, rfl, nofun,
        fun _ => ⟨rfl, hmarker, hsend⟩⟩

/-! ### Polls (R35) -/

/-- R35: the poll order finds the due unit nearest behind the cursor. -/
theorem pollOrder_find {s : State} {k : UnitIx} (hdue : pollDue s (s.link.cursor + k) = true)
    (hfirst : ∀ j : UnitIx, j < k → pollDue s (s.link.cursor + j) = false) :
    (pollOrder s.link.cursor).find? (pollDue s) = some (s.link.cursor + k) := by
  have hk : k.val < (pollOrder s.link.cursor).length := by simp [pollOrder, allUnits]
  refine List.find?_eq_some_iff_getElem.2 ⟨hdue, k.val, hk, by simp [pollOrder, allUnits], fun j hj => ?_⟩
  have hnot := hfirst ⟨j, by omega⟩ hj
  simpa [pollOrder, allUnits] using hnot

theorem pollOrder_find_none {s : State} (h : ∀ u : UnitIx, pollDue s u = false) :
    (pollOrder s.link.cursor).find? (pollDue s) = none :=
  List.find?_eq_none.2 fun u _ => by simp [h u]

/-- R35: a poll moves the cursor and the last-poll time, and touches no unit. -/
theorem handPoll_leaves {s : State} (u : UnitIx) (hready : Ready s) (hquiet : s.link.quiet = true) :
    let t := conclude (handPoll u s)
    AttemptSending s t (firstAttempt .poll (.statusRead u) (some u) s)
      ⟨BitVec.ofNat 8 (u.val + 1), s.link.tag, 0x02, 0, []⟩ ∧
      t.link.cursor = u + 1 ∧ t.link.lastPoll[u] = s.seconds ∧ t.link.marker = s.link.marker ∧
      t.link.relay = s.link.relay ∧ t.link.replies = s.link.replies ∧ t.plant = s.plant := by
  let m := s.onLink fun l => { l with cursor := u + 1, lastPoll := l.lastPoll.set u s.seconds }
  obtain ⟨hmarker, hrelay, hreplies, hcursor, hpoll⟩ :=
    startTransaction_registers (s := m) .poll (.statusRead u) (some u) hquiet
  refine ⟨startTransaction_sending (s := m) .poll (.statusRead u) (some u) hquiet, hcursor, ?_, hmarker, hrelay,
    hreplies, startTransaction_plant (s := m) .poll (.statusRead u) (some u) hquiet hready.2⟩
  rw [handPoll, hpoll]
  exact Vector.getElem_set_self ..

/-- R35: which units are due. -/
theorem pollDue_iff (s : State) (u : UnitIx) :
    pollDue s u = true ↔ (s.plant.unit u).state = .unadopted ∨
      (((s.plant.unit u).state = .online ∨ (s.plant.unit u).state = .inLocal) ∧
        ∀ st, (s.plant.unit u).status = some st → s.tables.roof.refreshInterval ≤ st.age) ∨
      ((s.plant.unit u).state = .offline ∧ s.tables.roof.offlinePollInterval ≤ s.seconds - s.link.lastPoll[u]) := by
  unfold pollDue
  dsimp only
  cases (s.plant.unit u).state with
  | absent | unadopted | offline => simp
  | online | inLocal => cases (s.plant.unit u).status <;> simp

/-- Settles O11: with nothing else waiting the choice is the first due unit of the poll order. -/
theorem firstDueUnitIsPolled : Obligations.FirstDueUnitIsPolled := by
  refine ⟨fun s hcalm hidle hprot hinj hrelay => ?_, fun s u => pollDue_iff s u⟩
  have hready : Ready s := ⟨hcalm.1, hcalm.2.1⟩
  rw [exec_trunkArbitration hready.1 hidle]
  refine ⟨fun k hdue hfirst => ?_, fun hnone => ?_⟩
  · rw [arbitrate_poll _ (choose_poll hprot hinj hrelay (pollOrder_find hdue hfirst))]
    obtain ⟨hsend, hcursor, hpoll, hmarker, -, -, hplant⟩ := handPoll_leaves (s.link.cursor + k) hready hidle.2
    exact ⟨_, firstAttempt .poll (.statusRead (s.link.cursor + k)) (some (s.link.cursor + k)) s, rfl, rfl, rfl, hsend,
      hcursor, hpoll, hmarker, hplant⟩
  · rw [arbitrate_nothing _ (choose_nothing hprot hinj hrelay (pollOrder_find_none hnone)), hcalm.conclude_eq]

end Sys2Proof.Machine

namespace Sys2Proof.Machine

/-! ## What a settlement leaves of a unit (R61, R63, R69) -/

/-- R63: the choice of the queued slots moves free stages among themselves. -/
def Stage.Reselected (a b : Stage) : Prop := b = a ∨ (a.state.isFree = true ∧ b.state.isFree = true)

theorem selectQueued_reselected (hasCool hasHeat : Bool) (r : UnitRec) (i : Slot) :
    r.stages[i].Reselected (selectQueued hasCool hasHeat r).stages[i] := by
  rw [selectQueued, UnitRec.mapStages_stages]
  split
  · next hfree =>
    refine .inr ⟨hfree, ?_⟩
    dsimp only
    split <;> rfl
  · exact .inl rfl

/-- R63, R83, R84: the re-examination of a unit's entries leaves its target map, and its stages up to the choice of
the queued slots. -/
theorem examineUnit_unit (e : Env) (u : UnitIx) (r : Roof) :
    let y := (examineUnit e u r).plant.unit u
    y.target = (r.plant.unit u).target ∧ ∀ i : Slot, (r.plant.unit u).stages[i].Reselected y.stages[i] := by
  have hexamined : (examine e u .heat (examine e u .cool r.plant)).unit u = r.plant.unit u := by
    unfold Plant.unit
    rw [examine_units, examine_units]
  obtain ⟨order, hunit⟩ := moveUnit_unit_self e u (fun p => reselect u (examine e u .heat (examine e u .cool p))) r
  unfold examineUnit
  dsimp only
  rw [hunit, reselect, Plant.unit_modUnit_self, hexamined]
  exact ⟨rfl, fun i => selectQueued_reselected _ _ _ i⟩

theorem scheduledMap_congr {a b : UnitRec} (hstages : a.stages = b.stages) (hcauses : a.causes = b.causes)
    (hcall : a.call = b.call) (hfan : a.fanForce = b.fanForce) : scheduledMap a = scheduledMap b := by
  unfold scheduledMap fanForcedOff
  rw [hstages, hcauses, hcall, hfan]

/-- R75: the fan of the map that follows from the stage records. -/
theorem scheduledMap_fan_iff (r : UnitRec) : (scheduledMap r).fan = true ↔ fanForcedOff r = false ∧
    (r.call.fanOn = true ∨ r.fanForce = true ∨ ∃ i : Slot, (scheduledMap r).has i = true) := by
  have hslots : (scheduledMap r).slots ≠ 0 ↔ ∃ i : Slot, (scheduledMap r).has i = true := by
    constructor
    · intro hne
      by_contra hnone
      refine hne (BitVec.eq_of_getLsbD_eq fun i hi => ?_)
      simpa [StageMap.has] using fun h => hnone ⟨⟨i, hi⟩, h⟩
    · rintro ⟨i, hi⟩ hzero
      simp [StageMap.has, hzero] at hi
  rw [← hslots]
  simp only [scheduledMap, Bool.and_eq_true, Bool.not_eq_true', Bool.or_eq_true, decide_eq_true_eq]
  tauto

/-- R61: the target map of a unit that is not LOCAL or ABSENT, written again. -/
theorem refreshTarget_target (prot : Bool) {u : UnitIx} {p : Plant} (h : (p.unit u).state.isSettled = true) :
    ((refreshTarget prot u p).unit u).target = scheduledMap (p.unit u) := by
  have hwrite : ((writeTarget prot u (scheduledMap (p.unit u)) p).unit u).target = scheduledMap (p.unit u) := by
    obtain ⟨b, hunit⟩ := writeTarget_unit_self prot u (scheduledMap (p.unit u)) p
    rw [hunit]
  unfold refreshTarget
  split
  · exact hwrite
  · exact hwrite
  · exact hwrite
  · next hs => simp [hs, UnitState.isSettled] at h
  · next hs => simp [hs, UnitState.isSettled] at h

/-- R61, R69: a settlement leaves the target map that follows from the marked stages, and of the stages the marked
ones up to the choice of the queued slots. -/
theorem settle_unit (e : Env) {u : UnitIx} {r : Roof} (h : (r.plant.unit u).state.isSettled = true) :
    let y := (settle e u r).plant.unit u
    y.target = scheduledMap (settleMarks e u (r.plant.unit u)) ∧
      ∀ i : Slot, (settleMarks e u (r.plant.unit u)).stages[i].Reselected y.stages[i] := by
  obtain ⟨order, hmarked⟩ := moveUnit_unit_self e u (fun p => p.modUnit u (settleMarks e u)) r
  rw [Plant.unit_modUnit_self] at hmarked
  let q := (moveUnit e u (fun p => p.modUnit u (settleMarks e u)) r).plant
  have hsettled : (q.unit u).state.isSettled = true := by rw [hmarked]; exact h
  obtain ⟨m, b, hrefreshed⟩ := refreshTarget_unit_self false u q
  obtain ⟨htarget, hstages⟩ := examineUnit_unit e u
    ((moveUnit e u (fun p => p.modUnit u (settleMarks e u)) r).onPlant (refreshTarget false u))
  unfold settle
  rw [if_pos h]
  refine ⟨htarget.trans ((refreshTarget_target false hsettled).trans ?_), fun i => ?_⟩
  · exact scheduledMap_congr (by rw [hmarked]) (by rw [hmarked]) (by rw [hmarked]) (by rw [hmarked])
  · have hkept : ((refreshTarget false u q).unit u).stages[i] = (settleMarks e u (r.plant.unit u)).stages[i] := by
      rw [hrefreshed, hmarked]
    rw [← hkept]
    exact hstages i

/-- R68, R69: a settlement turns no stage on. -/
theorem settleStage_isOn {e : Env} {u : UnitIx} {r : UnitRec} {i : Slot} {st : Stage}
    (h : (settleStage e u r i st).state.isOn = true) : st.state.isOn = true := by
  by_contra hoff
  rw [settleStage, if_neg hoff] at h
  exact hoff h

theorem settleMarks_isOn {e : Env} {u : UnitIx} {r : UnitRec} {i : Slot}
    (h : (settleMarks e u r).stages[i].state.isOn = true) : r.stages[i].state.isOn = true := by
  rw [settleMarks, UnitRec.mapStages_stages] at h
  exact settleStage_isOn h

/-! ### A STAGE_CALL (R22, R23) -/

/-- The unit behind the taking of a call. -/
theorem takeCall_moves (e : Env) (u : UnitIx) (payload : List Byte) (r : Roof) (v : UnitIx) :
    UnitRec.MovesTo (if v = u then { r.plant.unit v with call := callOf (e.cfg u) payload } else r.plant.unit v)
      ((takeCall e u payload r).plant.unit v) := by
  have hsettled := (settle_moves e u
    (r.onPlant fun p => p.modUnit u fun x => { x with call := callOf (e.cfg u) payload })).unit v
  rwa [Roof.onPlant, Plant.unit_modUnit] at hsettled

theorem settleMarks_moves (e : Env) (u : UnitIx) (r : UnitRec) : r.MovesTo (settleMarks e u r) :=
  UnitRec.movesTo_mapStages ..

theorem fanForcedOff_congr {a b : UnitRec} (h : a.causes = b.causes) : fanForcedOff a = fanForcedOff b := by
  rw [fanForcedOff, h, fanForcedOff]

/-- R61, R75: the map of marked stages adds no slot to those on, and has its fan by the fan rule. -/
theorem scheduledMap_settleMarks (e : Env) (u : UnitIx) (r : UnitRec) :
    let m := scheduledMap (settleMarks e u r)
    (∀ i : Slot, m.has i = true → r.stages[i].state.isOn = true) ∧
      (m.fan = true ↔ fanForcedOff r = false ∧
        (r.call.fanOn = true ∨ r.fanForce = true ∨ ∃ i : Slot, m.has i = true)) := by
  have hmoves := settleMarks_moves e u r
  have hfan := scheduledMap_fan_iff (settleMarks e u r)
  rw [fanForcedOff_congr hmoves.causes, hmoves.call, hmoves.fanForce] at hfan
  refine ⟨fun i hi => ?_, hfan⟩
  rw [scheduledMap_has] at hi
  exact settleMarks_isOn hi

/-- R61, R75: the map that the taking of a call leaves adds no slot, and has the fan of the call. -/
theorem takeCall_target (e : Env) {u : UnitIx} (payload : List Byte) {r : Roof}
    (h : (r.plant.unit u).state.isSettled = true) :
    let m := ((takeCall e u payload r).plant.unit u).target
    (∀ i : Slot, m.has i = true → (r.plant.unit u).stages[i].state.isOn = true) ∧
      (m.fan = true ↔ fanForcedOff (r.plant.unit u) = false ∧ ((callOf (e.cfg u) payload).fanOn = true ∨
        (r.plant.unit u).fanForce = true ∨ ∃ i : Slot, m.has i = true)) := by
  have hcalled : (r.onPlant fun p => p.modUnit u fun x => { x with call := callOf (e.cfg u) payload }).plant.unit u =
      { r.plant.unit u with call := callOf (e.cfg u) payload } := Plant.unit_modUnit_self ..
  obtain ⟨htarget, -⟩ := settle_unit e (by rw [hcalled]; exact h)
  rw [hcalled] at htarget
  rw [takeCall, htarget]
  exact scheduledMap_settleMarks e u { r.plant.unit u with call := callOf (e.cfg u) payload }

/-- R22: a STAGE_CALL that no request check fails. -/
theorem callRefusal_none {r : UnitRec} {cool heat : Byte} {rest : List Byte} (hstate : r.state ≠ .absent)
    (hisolated : r.isolated = false) (hcall : cool = 0 ∨ heat = 0) : callRefusal r (cool :: heat :: rest) = none := by
  have hzero : ¬((u8At (cool :: heat :: rest) 0 ≠ 0) ∧ (u8At (cool :: heat :: rest) 1 ≠ 0)) := by
    rintro ⟨hcool, hheat⟩
    rcases hcall with rfl | rfl
    · exact hcool rfl
    · exact hheat rfl
  simp only [callRefusal, if_neg hstate, hisolated, if_neg hzero, Bool.false_eq_true, if_false]

/-- R22: the first request check that a STAGE_CALL fails. -/
theorem callRefusal_some {r : UnitRec} {cool heat : Byte} {rest : List Byte}
    (h : r.state = .absent ∨ r.isolated = true ∨ (cool ≠ 0 ∧ heat ≠ 0)) :
    callRefusal r (cool :: heat :: rest) =
      some (if r.state = .absent then 0x03 else if r.isolated then 0x05 else 0x04) := by
  unfold callRefusal
  split
  · rfl
  · next hstate =>
    split
    · rfl
    · next hisolated =>
      obtain ⟨hcool, hheat⟩ := (h.resolve_left hstate).resolve_left hisolated
      have hne (b : Byte) (hb : b ≠ 0) : b.toNat ≠ 0 := fun hz => hb (BitVec.eq_of_toNat_eq hz)
      rw [if_pos ⟨hne cool hcool, hne heat hheat⟩]
      rfl

/-- R42: the call record of a payload of five bytes. -/
theorem callOf_payload (c : UnitCfg) (cool heat fan eco occ : Byte) :
    callOf c [cool, heat, fan, eco, occ] =
      ⟨min cool.toNat (boundCount c .cool), min heat.toNat (boundCount c .heat),
        decide (boundCount c .cool < cool.toNat), decide (boundCount c .heat < heat.toNat),
        decide (fan ≠ 0), decide (eco ≠ 0), decide (occ ≠ 0), 0⟩ := by
  have hzero (b : Byte) : decide (b.toNat ≠ 0) = decide (b ≠ 0) :=
    decide_eq_decide.2 (not_congr ⟨fun h => BitVec.eq_of_toNat_eq h, fun h => h ▸ rfl⟩)
  simp only [callOf, u8At, byteAt, List.getD_cons_zero, List.getD_cons_succ, hzero]

theorem attemptPlant_unit (x : Transaction) (p : Plant) (v : UnitIx) : (attemptPlant x p).unit v = p.unit v := by
  unfold attemptPlant
  split <;> rfl

/-- R89: neither the start of a transaction nor a pass that a join calls for touches a unit's call, state or report. -/
theorem startTransaction_moves {s : State} (origin : Origin) (q : Request) (unit : Option UnitIx)
    (h : s.link.quiet = true) : s.plant.Moves (conclude (startTransaction origin q unit s)).plant := by
  have hattempt : s.plant.Moves (beginAttempt (firstAttempt origin q unit s) s).plant :=
    ⟨fun v => by rw [show (beginAttempt (firstAttempt origin q unit s) s).plant.unit v = _ from attemptPlant_unit ..]⟩
  rw [startTransaction_quiet origin q unit h]
  exact hattempt.trans (conclude_moves _)

/-- R23: a STAGE_CALL that passes the request checks, with what its attempt and the taken call leave. -/
theorem stageCallIsTaken {s : State} {f : Frame} {rest : List Frame} {u : UnitIx} {cool heat fan eco occ : Byte}
    (hready : Ready s) (hidle : TrunkIdle s) (hprot : s.plant.protection = []) (hinj : s.plant.injections = [])
    (hrelay : s.link.relay = f :: rest) (haddr : f.addr.toNat = u.val + 1) (hkind : f.kind = 0x01)
    (hpay : f.payload = [cool, heat, fan, eco, occ]) (hstate : (s.plant.unit u).state ≠ .absent)
    (hisolated : (s.plant.unit u).isolated = false) (hcall : cool = 0 ∨ heat = 0) :
    let q := callRequest u (s.plant.unit u).state
    let r := takeCall s.env u f.payload s.roof
    ∃ t x, exec .trunkArbitration s = .next t ∧ x.origin = .relay ∧ x.unit = some u ∧ x.attempt = 1 ∧
      x.request = q ∧ (x.unreported = true ↔ (s.plant.unit u).state = .absent) ∧
      (x.single = true ↔ (s.plant.unit u).state = .offline) ∧
      AttemptSending s t x (requestFrame r.plant s.link.tag q) ∧ t.link.marker = .relay ∧
      t.link.relay = s.link.relay ∧ t.link.replies = s.link.replies ∧ r.plant.Moves t.plant := by
  intro q r
  let m : State := (s.onRoof fun e => takeCall e u f.payload).onLink fun l => { l with marker := .relay }
  have htake : takeHeadCall u f s = .ok (startTransaction .relay q (some u) m) := by
    unfold takeHeadCall
    rw [hpay, callRefusal_none hstate hisolated hcall, ← hpay]
    rfl
  have hkept : (m.plant.unit u).state = (s.plant.unit u).state := by
    have hmoves := takeCall_moves s.env u f.payload s.roof u
    rw [if_pos rfl] at hmoves
    exact hmoves.state
  obtain ⟨hmarker, hqueue, hreplies, -⟩ := startTransaction_registers (s := m) .relay q (some u) hidle.2
  refine ⟨_, firstAttempt .relay q (some u) m, ?_, rfl, rfl, rfl, rfl, ?_, ?_,
    startTransaction_sending (s := m) .relay q (some u) hidle.2, hmarker, hqueue, hreplies,
    startTransaction_moves (s := m) .relay q (some u) hidle.2⟩
  · rw [exec_trunkArbitration hready.1 hidle,
      arbitrate_call_taken _ (choose_relay hprot hinj hrelay) (unitOfAddr_eq_some.2 haddr) hkind htake]
  · rw [firstAttempt_unreported_iff, hkept]
  · rw [firstAttempt_single_iff, hkept]

/-- R22, R33: with no other work behind a refused STAGE_CALL, the choice made again is a poll or nothing. -/
theorem arbitrate_without_relay {s : State} (hready : Ready s) (hidle : TrunkIdle s) (hprot : s.plant.protection = [])
    (hinj : s.plant.injections = []) (hrelay : s.link.relay = []) (n : Nat) :
    let t := conclude (arbitrate (n + 1) s)
    t.link.relay = [] ∧ t.link.marker = s.link.marker ∧ t.plant = s.plant ∧ t.link.replies = s.link.replies ∧
      ((∀ v, pollDue s v = false) → t.link.trunk = .free) := by
  dsimp only
  cases hfind : (pollOrder s.link.cursor).find? (pollDue s) with
  | none =>
    rw [arbitrate_nothing n (choose_nothing hprot hinj hrelay hfind), conclude_link]
    exact ⟨hrelay, rfl, conclude_plant_of_no_pass hready.2, rfl, fun _ => hidle.1⟩
  | some u =>
    have hdue : pollDue s u = true := List.find?_some hfind
    rw [arbitrate_poll n (choose_poll hprot hinj hrelay hfind)]
    obtain ⟨-, -, -, hmarker, hkept, hreplies, hplant⟩ := handPoll_leaves u hready hidle.2
    exact ⟨hkept.trans hrelay, hmarker, hplant, hreplies, fun hnone => absurd (hnone u) (by simp [hdue])⟩

/-- R22: a refused STAGE_CALL with nothing behind it is answered with the code of the check it fails. -/
theorem stageCallIsRefused {s : State} {f : Frame} {u : UnitIx} {cool heat fan eco occ : Byte}
    (hready : Ready s) (hidle : TrunkIdle s) (hprot : s.plant.protection = []) (hinj : s.plant.injections = [])
    (hrelay : s.link.relay = [f]) (haddr : f.addr.toNat = u.val + 1) (hkind : f.kind = 0x01)
    (hpay : f.payload = [cool, heat, fan, eco, occ])
    (hrefused : (s.plant.unit u).state = .absent ∨ (s.plant.unit u).isolated = true ∨ (cool ≠ 0 ∧ heat ≠ 0)) :
    ∃ t, exec .trunkArbitration s = .next t ∧ t.link.relay = [] ∧ t.link.marker = s.link.marker ∧
      t.plant = s.plant ∧ ((∀ v, pollDue s v = false) → t.link.trunk = .free) ∧
      t.link.replies = s.link.replies ++ [⟨⟨f.addr, f.tag, 0x81, 0x03,
        [if (s.plant.unit u).state = .absent then 0x03 else if (s.plant.unit u).isolated then 0x05 else 0x04, 0]⟩,
        false⟩] := by
  generalize hcode : (if (s.plant.unit u).state = .absent then (0x03 : Byte)
    else if (s.plant.unit u).isolated then 0x05 else 0x04) = code
  have htake : takeHeadCall u f s = .error code := by
    unfold takeHeadCall
    rw [hpay, callRefusal_some hrefused, hcode]
  have hanswered : s.onLink (fun l => l.answerHead fun head => errorReply head code [0]) =
      { s with link := { s.link with
          relay := [], replies := s.link.replies ++ [⟨errorReply f code [0], false⟩] } } := by
    rw [State.onLink, Link.answerHead_cons _ hrelay]
  have hreply : errorReply f code [0] = ⟨f.addr, f.tag, 0x81, 0x03, [code, 0]⟩ := by
    simp only [errorReply, hkind]
    rfl
  rw [exec_trunkArbitration hready.1 hidle,
    arbitrate_call_refused _ (choose_relay hprot hinj hrelay) (unitOfAddr_eq_some.2 haddr) hkind htake, hanswered,
    hrelay, hreply]
  obtain ⟨hempty, hmarker, hplant, hreplies, hfree⟩ := arbitrate_without_relay (n := 0)
    (s := { s with link := { s.link with
      relay := [], replies := s.link.replies ++ [⟨⟨f.addr, f.tag, 0x81, 0x03, [code, 0]⟩, false⟩] } })
    hready hidle hprot hinj rfl
  exact ⟨_, rfl, hempty, hmarker, hplant, hfree, hreplies⟩

/-- Settles O12: the call is taken before the attempt is built, and a refusal makes the choice again. -/
theorem stageCallIsTakenOrRefused : Obligations.StageCallIsTakenOrRefused := by
  intro s f rest u cool heat fan eco occ hready hidle hprot hinj hrelay haddr hkind hpay
  have haddress : BitVec.ofNat 8 (unitAddr u) = f.addr := ofNat_unitAddr haddr
  refine ⟨fun hstate hisolated hcall => ?_, fun hrefused hrest => ?_⟩
  · obtain ⟨t, x, hexec, horigin, hunit, hattempt, hrequest, hunreported, hsingle, hsend, hmarker, hkept, hreplies,
      hmoves⟩ := stageCallIsTaken hready hidle hprot hinj hrelay haddr hkind hpay hstate hisolated hcall
    refine ⟨t, x, hexec, horigin, hunit, hattempt, ?_, hsingle, hmarker, hkept, hreplies, fun hnot => ?_,
      fun honline => ?_, ?_⟩
    · exact eq_false_of_ne_true (hunreported.not.2 hstate)
    · have hq : callRequest u (s.plant.unit u).state = .statusRead u := by
        cases hs : (s.plant.unit u).state with
        | online => exact absurd hs hnot
        | absent | unadopted | offline | inLocal => rfl
      rw [hq] at hrequest hsend
      refine ⟨hrequest, ?_⟩
      rw [← haddress]
      exact hsend
    · rw [honline] at hrequest hsend
      obtain ⟨hslots, hfan⟩ := takeCall_target s.env f.payload (r := s.roof) (by
        rw [show (s.roof.plant.unit u).state = .online from honline]
        rfl)
      refine ⟨hrequest, _, ?_, rfl, hslots, ?_⟩
      · rw [← haddress]
        exact hsend
      · rw [hpay, callOf_payload] at hfan
        simpa only [hpay, decide_eq_true_eq, State.roof_plant] using hfan
    · have htaken := takeCall_moves s.env u f.payload s.roof u
      rw [if_pos rfl, hpay, callOf_payload] at htaken
      rw [(hmoves.unit u).call, hpay, htaken.call]
      rfl
  · subst hrest
    exact stageCallIsRefused hready hidle hprot hinj hrelay haddr hkind hpay hrefused

end Sys2Proof.Machine

namespace Sys2Proof.Machine

/-! ## Answers (R14, R37 to R39) -/

/-- R14: a reply with its trailer, where both fit. -/
theorem trailedReply_fits {head : Frame} (error noReply : Bool) {payload trailer : List Byte}
    (h : payload.length + trailer.length ≤ 48) : trailedReply head error noReply payload trailer =
      ⟨head.addr, head.tag, head.kind ||| 0x80, flagsByte true error false true noReply, payload ++ trailer⟩ := by
  simp only [trailedReply, decide_eq_true h, if_true]
  rfl

theorem trailedReply_bare {head : Frame} (error noReply : Bool) {payload trailer : List Byte}
    (h : 48 < payload.length + trailer.length) : trailedReply head error noReply payload trailer =
      ⟨head.addr, head.tag, head.kind ||| 0x80, flagsByte true error false false noReply, payload⟩ := by
  simp only [trailedReply, decide_eq_false (Nat.not_le.2 h), Bool.false_eq_true, if_false]
  rfl

theorem trailerFor_length (s : State) (u : UnitIx) (adopted : Option StageMap) :
    (trailerFor s u adopted).length = 8 := by
  cases adopted <;> rfl

/-- R37, 11.4: the trailer of a read that adopted the unit. -/
theorem adoptionTrailer_eq (s : State) (m : StageMap) : adoptionTrailer s m =
    [BitVec.ofNat 8 (allSlots.filter fun i => decide (4 ≤ i.val) == false && m.has i).length,
      BitVec.ofNat 8 (allSlots.filter fun i => decide (4 ≤ i.val) == true && m.has i).length, 14, 14, 1,
      BitVec.ofNat 8 s.shed.level, BitVec.ofNat 8 s.meter.forecast, BitVec.ofNat 8 (s.meter.forecast / 256)] := by
  simp only [adoptionTrailer, countOn_eq]
  rfl

/-! ### The rewritten status (R39) -/

theorem linkTemperature_length (v : Option Int) : (linkTemperature v).length = 2 := rfl

/-- R39: the rewriting keeps the number of bytes. -/
theorem rewrittenStatus_length (st : Status) {l : List Byte} (h : 17 ≤ l.length) :
    (rewrittenStatus st l).length = l.length := by
  simp only [rewrittenStatus, List.length_append, List.length_take, List.length_drop, linkTemperature_length]
  simp only [le16, List.length_cons, List.length_nil]
  omega

theorem byteAt_append_cons (a : List Byte) (b : Byte) (c : List Byte) {n : Nat} (h : a.length = n) :
    byteAt (a ++ b :: c) n = b := by
  subst h
  simp [byteAt]

/-- R39: the bytes of the rewritten status, in front of whatever follows it. -/
theorem rewrittenStatus_bytes (st : Status) {l : List Byte} (tail : List Byte) (h : 17 ≤ l.length) :
    let g := rewrittenStatus st l ++ tail
    g.take 6 = l.take 6 ∧
    (g.drop 6).take 8 = linkTemperature st.supply ++ linkTemperature st.ret ++ linkTemperature st.space ++
      linkTemperature st.outside ∧
    byteAt g 14 = byteAt l 14 ∧ (g.drop 15).take 2 = le16 st.power ∧ (g.drop 17).take (l.length - 17) = l.drop 17 ∧
    g.drop l.length = tail := by
  intro g
  let front := l.take 6
  let temps := linkTemperature st.supply ++ linkTemperature st.ret ++ linkTemperature st.space ++
    linkTemperature st.outside
  have hfront : front.length = 6 := by
    rw [List.length_take]
    omega
  have hg : g = front ++ (temps ++ (byteAt l 14 :: (le16 st.power ++ (l.drop 17 ++ tail)))) := by
    simp [g, front, temps, rewrittenStatus]
  have h6 : g.drop 6 = temps ++ (byteAt l 14 :: (le16 st.power ++ (l.drop 17 ++ tail))) := by
    rw [hg, List.drop_left' hfront]
  have h14 : g.drop 14 = byteAt l 14 :: (le16 st.power ++ (l.drop 17 ++ tail)) := by
    rw [show 14 = 6 + 8 from rfl, ← List.drop_drop, h6]
    rfl
  have h15 : g.drop 15 = le16 st.power ++ (l.drop 17 ++ tail) := by
    rw [show 15 = 14 + 1 from rfl, ← List.drop_drop, h14, List.drop_one, List.tail_cons]
  have h17 : g.drop 17 = l.drop 17 ++ tail := by
    rw [show 17 = 15 + 2 from rfl, ← List.drop_drop, h15]
    rfl
  refine ⟨?_, ?_, ?_, ?_, ?_, ?_⟩
  · rw [hg, List.take_left' hfront]
  · rw [h6]
    rfl
  · rw [hg, ← List.append_assoc]
    exact byteAt_append_cons _ _ _ (by rw [List.length_append, hfront]; rfl)
  · rw [h15]
    rfl
  · rw [h17, List.take_left' List.length_drop]
  · rw [show l.length = 17 + (l.length - 17) by omega, ← List.drop_drop, h17, List.drop_left' List.length_drop]

/-- Settles O20: the rewriting keeps the number of bytes, so the trailer's eight fit behind at most 40. -/
theorem rewrittenStatusCarriesTrailerWhenItFits : Obligations.RewrittenStatusCarriesTrailerWhenItFits := by
  refine ⟨fun s u a st f head hlow hhigh => ?_, by decide⟩
  have hlen := rewrittenStatus_length st hlow
  have htrail := trailerFor_length s u a
  rcases Nat.lt_or_ge 40 f.payload.length with hlong | hshort
  · have hg : statusReadAnswer s u a st f head =
        ⟨head.addr, head.tag, head.kind ||| 0x80, 0x01, rewrittenStatus st f.payload⟩ :=
      trailedReply_bare false false (by omega)
    obtain ⟨hfront, htemps, hdamper, hpower, hrest, -⟩ := rewrittenStatus_bytes st [] hlow
    rw [List.append_nil] at hfront htemps hdamper hpower hrest
    dsimp only
    rw [hg]
    exact ⟨rfl, rfl, rfl, hfront, htemps, hdamper, hpower, hrest, fun h => absurd h (by omega), fun _ => ⟨rfl, hlen⟩⟩
  · have hg : statusReadAnswer s u a st f head = ⟨head.addr, head.tag, head.kind ||| 0x80, 0x09,
        rewrittenStatus st f.payload ++ trailerFor s u a⟩ :=
      trailedReply_fits false false (by omega)
    obtain ⟨hfront, htemps, hdamper, hpower, hrest, htail⟩ := rewrittenStatus_bytes st (trailerFor s u a) hlow
    dsimp only
    rw [hg]
    refine ⟨rfl, rfl, rfl, hfront, htemps, hdamper, hpower, hrest, fun _ => ⟨rfl, ?_, ?_⟩, fun h => absurd h (by omega)⟩
    · rintro rfl
      exact htail.trans (trailerOf_eq s u)
    · rintro m rfl
      exact htail.trans (adoptionTrailer_eq s m)

/-! ## Answered transactions (R27, R29) -/

/-- R8: the ports as they are when the trunk receiver hands a frame on. -/
def State.heard (s : State) : State := { s with link := { s.link with trunkRx := .hunt, quiet := false } }

/-- R27, R179: the reply to an awaited request under FLAGS `flags`. -/
def replyTo (x : Transaction) (flags : Byte) (p : List Byte) : Frame :=
  ⟨x.request.addr, x.tag, x.request.kind ||| 0x80, flags, p⟩

theorem hasReplyBit_replyKind (k : Byte) : hasReplyBit (k ||| 0x80) = true := by
  simp [hasReplyBit]

theorem replyFits_of_fits {q : Request} {f : Frame} (h : ReplyFits q f.flags f.payload) : replyFits q f = true := by
  obtain ⟨hlen, hfits⟩ := h
  cases q with
  | raw => rfl
  | stageMap | setpoint | statusRead =>
    dsimp only at hfits
    split at hfits
    · next he =>
      have herror : flagError f.flags = true := he
      simp [replyFits, herror, hfits, hlen]
    · next he =>
      have hgood : flagError f.flags = false := eq_false_of_ne_true he
      simp [replyFits, hgood, hfits, hlen]

/-- R27: a fitting reply is the attempt's matching reply. -/
theorem isMatch_replyTo {x : Transaction} {flags : Byte} {p : List Byte} (hlow : 1 ≤ x.request.addr.toNat)
    (hhigh : x.request.addr.toNat ≤ 63) (hreply : flags.getLsbD 0 = true) (hfits : ReplyFits x.request flags p) :
    isMatch x (replyTo x flags p) = true := by
  have hheader : headerDiscarded (replyTo x flags p) = false := by
    have hzero : x.request.addr.toNat ≠ 0 := by omega
    have hbit : hasReplyBit (replyTo x flags p).kind = true := hasReplyBit_replyKind x.request.kind
    have hflag : flagReply (replyTo x flags p).flags = true := hreply
    rw [headerDiscarded, hbit, hflag]
    simp [replyTo, hzero, Nat.not_lt.2 hhigh, Nat.not_lt.2 hfits.1]
  have hsize : replyFits x.request (replyTo x flags p) = true := replyFits_of_fits hfits
  rw [isMatch, hheader, hsize]
  simp [replyTo, replyKind]

/-- R27, R29: a matching reply ends the awaited transaction. -/
theorem exec_matchingReply {s : State} {x : Transaction} {f : Frame} (h : s.powered = true)
    (ha : s.link.trunk = .awaiting x) (hm : isMatch x f = true) :
    exec (.trunkFrameReceived f) s = .next (conclude (endAnswered x f s.heard)) := by
  rw [exec_trunkFrameReceived f h (by rw [ha]; rfl)]
  have hend : trunkFrame f s.heard = endAnswered x f s.heard := by
    unfold trunkFrame
    rw [show s.heard.link.trunk = .awaiting x from ha]
    exact if_pos hm
  exact congrArg (fun t => Host.Outcome.next (conclude t)) hend

/-- R34: the repetition rule follows a STAGE_MAP alone. -/
theorem repeatMap_other {x : Transaction} (s : State) (h : ∀ u, x.request ≠ .stageMap u) : repeatMap x s = s := by
  unfold repeatMap
  split
  · next u _ hq _ => exact absurd hq (h u)
  · rfl

@[simp] theorem conclude_shed (s : State) : (conclude s).shed = s.shed := by
  obtain ⟨-, -, -, -, -, -, hshed, -⟩ := conclude_frame s
  exact hshed

@[simp] theorem conclude_meter (s : State) : (conclude s).meter = s.meter := by
  obtain ⟨-, -, -, -, -, hmeter, -⟩ := conclude_frame s
  exact hmeter

/-- R18, R29: the ports and queues behind an answer given from the state `s`. -/
theorem answered_ports (x : Transaction) (answer : State → Frame → Frame) (s : State) :
    let t := conclude (freeTrunk (repeatMap x (answerRelay x answer s)))
    t.link.trunk = .free ∧ t.shed = s.shed ∧ t.meter = s.meter ∧
      (x.origin ≠ .relay → t.link.replies = s.link.replies ∧ t.link.relay = s.link.relay) ∧
      ∀ head rest, x.origin = .relay → s.link.relay = head :: rest →
        t.link.relay = rest ∧ t.link.replies = s.link.replies ++ [⟨answer s head, false⟩] := by
  have hframe := answerRelay_frame x answer s
  have hrepeat := repeatMap_congr x (s := s) (t := answerRelay x answer s) (by rw [hframe])
  have hlink : (freeTrunk (repeatMap x (answerRelay x answer s))).link = { (answerRelay x answer s).link with
      trunk := .free
      trunkRate := (answerRelay x answer s).tables.roof.trunkRate
      trunkRx := if (answerRelay x answer s).link.trunkRate = (answerRelay x answer s).tables.roof.trunkRate
        then (answerRelay x answer s).link.trunkRx else .hunt } := by
    rw [freeTrunk_link, hrepeat]
  dsimp only
  rw [conclude_link, hlink, conclude_shed, conclude_meter]
  refine ⟨rfl, ?_, ?_, fun hother => ?_, fun head rest horigin hrelay => ?_⟩
  · rw [hrepeat, hframe]
    rfl
  · rw [hrepeat, hframe]
    rfl
  · rw [answerRelay_other answer hother]
    exact ⟨rfl, rfl⟩
  · rw [answerRelay_relay answer horigin hrelay]
    exact ⟨rfl, rfl⟩

/-- R34: the plant behind an answer given from a state with no pass due. -/
theorem answered_plant {x : Transaction} {s : State} (answer : State → Frame → Frame)
    (hpass : s.plant.passDue = false) :
    (conclude (freeTrunk (repeatMap x (answerRelay x answer s)))).plant = (repeatMap x s).plant := by
  have hframe := answerRelay_frame x answer s
  have hrepeat := repeatMap_congr x (s := s) (t := answerRelay x answer s) (by rw [hframe])
  obtain ⟨-, -, hkept⟩ := repeatMap_frame x s
  rw [hrepeat]
  exact conclude_plant_of_no_pass (hkept.trans hpass)

end Sys2Proof.Machine

namespace Sys2Proof.Machine

/-! ### Which answer a reply is given (R29, R36, R38) -/

theorem endAnswered_unreported {x : Transaction} (f : Frame) (s : State) (h : x.reportsTo = none) :
    endAnswered x f s = freeTrunk (repeatMap x (answerRelay x (fun _ => rawAnswer f) s)) := by
  rw [repeatMap_none h]
  simp only [endAnswered, h]

theorem endAnswered_raw {x : Transaction} {u : UnitIx} (f : Frame) (s : State) (hu : x.reportsTo = some u)
    {a k fl : Byte} {p : List Byte} (hq : x.request = .raw a k fl p) :
    endAnswered x f s = freeTrunk (repeatMap x (answerRelay x (fun _ => rawAnswer f) (reportReply u s))) := by
  rw [repeatMap_other _ (by rw [hq]; nofun)]
  simp only [endAnswered, hu, hq]

theorem endAnswered_setpoint {x : Transaction} {u : UnitIx} (f : Frame) (s : State) (hu : x.reportsTo = some u)
    {a : Byte} {c h : Int} (hq : x.request = .setpoint a c h) :
    endAnswered x f s = freeTrunk (repeatMap x (answerRelay x (fun _ => setpointAnswer f) (reportReply u s))) := by
  rw [repeatMap_other _ (by rw [hq]; nofun)]
  simp only [endAnswered, hu, hq]

theorem endAnswered_error {x : Transaction} {u v : UnitIx} {f : Frame} (s : State) (hu : x.reportsTo = some u)
    (hq : x.request = .stageMap v ∨ x.request = .statusRead v) (he : flagError f.flags = true) :
    endAnswered x f s =
      freeTrunk (repeatMap x (answerRelay x (fun s => unitErrorAnswer s u f) (reportReply u s))) := by
  rcases hq with hq | hq
  · simp only [endAnswered, endStageMap, hu, hq, he, if_true]
  · rw [repeatMap_other _ (by rw [hq]; nofun)]
    simp only [endAnswered, endStatusRead, hu, hq, he, if_true]

theorem endAnswered_echo {x : Transaction} {u v : UnitIx} {f : Frame} (s : State) (hu : x.reportsTo = some u)
    (hq : x.request = .stageMap v) (he : flagError f.flags = false) :
    endAnswered x f s =
      freeTrunk (repeatMap x (answerRelay x (fun s => stageCallAnswer s u none (s.plant.unit u).ack)
        (reportReply u (s.onPlant fun e p => acknowledge e u (byteAt f.payload 0) p)))) := by
  simp only [endAnswered, endStageMap, hu, hq, he, Bool.false_eq_true, if_false]

theorem endAnswered_fold {x : Transaction} {u v : UnitIx} {f : Frame} (s : State) (hu : x.reportsTo = some u)
    (hq : x.request = .statusRead v) (he : flagError f.flags = false) :
    endAnswered x f s = freeTrunk (repeatMap x (answerRelay x
      (fun s' => foldAnswer u (adoptionMap s.env u f.payload s.roof) f s')
      (s.onRoof fun e r => fold e u f.payload r))) := by
  rw [repeatMap_other _ (by rw [hq]; nofun)]
  simp only [endAnswered, endStatusRead, hu, hq, he, Bool.false_eq_true, if_false]

/-! ### What an answer leaves of the unit (R44, R45) -/

theorem reportAnswered_unit_self (u : UnitIx) (p : Plant) : (reportAnswered u p).unit u =
    { p.unit u with
      failures := 0, state := if (p.unit u).state = .offline then .unadopted else (p.unit u).state } :=
  Plant.unit_modUnit_self ..

/-- R29, R44, R45: the unit behind an answered transaction that is no fold. -/
theorem reported_unit {p q : Plant} {u : UnitIx} (hunit : q.unit u = (reportAnswered u p).unit u)
    (hqueue : q.queue = p.queue) :
    let r := p.unit u
    let y := q.unit u
    y.failures = 0 ∧ y.state = (if r.state = .offline then .unadopted else r.state) ∧ y.status = r.status ∧
      y.target = r.target ∧ y.ack = r.ack ∧ y.stages = r.stages ∧ q.queue = p.queue := by
  rw [hunit, reportAnswered_unit_self]
  exact ⟨rfl, rfl, rfl, rfl, rfl, rfl, hqueue⟩

/-- The state of the unit record, where the repetition rule follows. -/
theorem repeatMap_unit (x : Transaction) (s : State) (u : UnitIx) :
    (repeatMap x s).plant.unit u = s.plant.unit u ∧ (repeatMap x s).plant.queue = s.plant.queue := by
  obtain ⟨hunits, hqueue, -⟩ := repeatMap_frame x s
  exact ⟨by rw [Plant.unit, hunits, Plant.unit], hqueue⟩

/-! ### The repetition's mark (R34) -/

theorem mem_allSlots (i : Slot) : i ∈ allSlots := List.mem_finRange i

theorem protectionDue_iff (r : UnitRec) : protectionDue r = true ↔
    (∃ i : Slot, r.ack.has i = true ∧ r.stages[i].state.isTripped = true) ∨
      (r.ack.fan = true ∧ ∃ c ∈ r.causes, c.tripClass = .smk ∨ c.tripClass = .shutdown) := by
  simp [protectionDue, fanForcedOff, mem_allSlots]

theorem Plant.mem_protection_inject {p : Plant} {u : UnitIx} {prot : Bool} (h : u ∉ p.protection) :
    u ∈ (p.inject u prot).protection ↔ prot = true := by
  cases prot <;> simp [Plant.inject, h]

/-- R34: the injection that an ONLINE unit gets by the repetition rule is marked where protection is due. -/
theorem mem_repetition_protection_iff {u : UnitIx} {p : Plant} (hs : (p.unit u).state = .online)
    (hi : u ∉ p.injections) (hp : u ∉ p.protection) :
    u ∈ (repetition u p).protection ↔ (p.unit u).ack ≠ (p.unit u).target ∧ protectionDue (p.unit u) = true := by
  unfold repetition
  dsimp only
  split
  · next h => exact (Plant.mem_protection_inject hp).trans ⟨fun hm => ⟨h.2.1, hm⟩, fun hm => hm.2⟩
  · next h => exact ⟨fun hm => absurd hm hp, fun hm => absurd ⟨hs, hm.1, hi⟩ h⟩

/-- R38: the answer to a STAGE_CALL without an adoption. -/
theorem stageCallAnswer_ordinary (s : State) (u : UnitIx) (m : StageMap) (head : Frame) :
    stageCallAnswer s u none m head =
      ⟨head.addr, head.tag, head.kind ||| 0x80, 0x09, mapByte m :: trailerOf s u⟩ :=
  trailedReply_fits false false (by
    rw [trailerFor_length, List.length_singleton]
    omega)

/-- A trailer read in the state behind a command is that of the state its answer was built in. -/
theorem trailerOf_eq_behind {s t : State} {u : UnitIx}
    (hplant : t.plant.unit u = s.plant.unit u ∧ t.plant.queue = s.plant.queue) (hshed : t.shed = s.shed)
    (hmeter : t.meter = s.meter) : trailerOf s u = TrailerBytes t u := by
  rw [← trailerOf_eq, trailerOf_congr hplant.1 hplant.2 hshed hmeter]

theorem toNat_unitAddr (u : UnitIx) : (BitVec.ofNat 8 (unitAddr u)).toNat = u.val + 1 := by
  rw [unitAddr, BitVec.toNat_ofNat, Nat.mod_eq_of_lt (by omega)]

/-- Settles O15: the echo is acknowledged before the answer is built, and the repetition rule follows. -/
theorem echoedMapBecomesAcknowledged : Obligations.EchoedMapBecomesAcknowledged := by
  intro s x u b hready hawait hrequest hunit hreported honline
  have hto := Transaction.reportsTo_of_reported hunit hreported
  have haddr : x.request.addr.toNat = u.val + 1 := by
    rw [hrequest]
    exact toNat_unitAddr u
  have hmatch : isMatch x (replyTo x 0x01 [b]) = true :=
    isMatch_replyTo (by omega) (by omega) (by decide) (by
      rw [hrequest]
      simp [ReplyFits])
  have hkind : x.request.kind ||| 0x80 = 0x84 := by
    rw [hrequest]
    exact (by decide : kStageMap ||| 0x80 = 0x84)
  have hframe : (⟨x.request.addr, x.tag, 0x84, 0x01, [b]⟩ : Frame) = replyTo x 0x01 [b] := by
    rw [replyTo, hkind]
  rw [hframe, exec_matchingReply hready.1 hawait hmatch, endAnswered_echo _ hto hrequest (by simp [replyTo, flagError])]
  let told : State := reportReply u (s.heard.onPlant fun e p => acknowledge e u b p)
  have htold : told.plant.unit u = { s.plant.unit u with
      ack := mapOfByte s.tables.units[u] b, failures := 0, state := .online } := by
    have hack : (acknowledge s.env u b s.plant).unit u =
        { s.plant.unit u with ack := mapOfByte s.tables.units[u] b } := Plant.unit_modUnit_self ..
    refine (reportAnswered_unit_self u (acknowledge s.env u b s.plant)).trans ?_
    simp only [hack, honline]
    rfl
  obtain ⟨hfree, hshed, hmeter, hother, hrelay⟩ :=
    answered_ports x (fun s => stageCallAnswer s u none (s.plant.unit u).ack) told
  have hplant := answered_plant (x := x) (s := told) (fun s => stageCallAnswer s u none (s.plant.unit u).ack) hready.2
  have hbehind := repeatMap_unit x told u
  rw [← hplant] at hbehind
  have hrepeat := hplant.trans (repeatMap_stageMap hrequest hto)
  refine ⟨conclude (freeTrunk (repeatMap x
    (answerRelay x (fun s => stageCallAnswer s u none (s.plant.unit u).ack) told))), rfl, ?_⟩
  dsimp only
  rw [hbehind.1]
  refine ⟨by rw [htold], by rw [htold], by rw [htold], by rw [htold], by rw [htold], hbehind.2, hfree, hother,
    fun head rest horigin hhead => ?_, fun hinj => ⟨?_, fun hprot => ?_⟩⟩
  · obtain ⟨hrest, hreplies⟩ := hrelay head rest horigin hhead
    refine ⟨hrest, hreplies.trans ?_⟩
    rw [stageCallAnswer_ordinary, trailerOf_eq_behind hbehind hshed hmeter]
    rfl
  · rw [hrepeat]
    exact mem_repetition_iff (by rw [htold]) hinj
  · rw [hrepeat, ← protectionDue_iff]
    exact mem_repetition_protection_iff (by rw [htold]) hinj hprot

end Sys2Proof.Machine

namespace Sys2Proof.Machine

/-! ## Status replies (R29, R48) -/

/-- What concludes a command is the admission unit's work. -/
theorem conclude_works (s : State) : s.roof.Works (conclude s).roof := by
  have hpass : s.roof.Works (passAfterJoin s).roof := by
    unfold passAfterJoin
    split
    · exact runPasses_works s.env 64 s.roof
    · exact .refl _
  exact hpass

/-- R29, R48: the state with the status payload `p` of the unit folded, as the trunk receiver handed it on. -/
def State.folded (s : State) (u : UnitIx) (p : List Byte) : State := s.heard.onRoof fun e r => fold e u p r

theorem State.withRoof_roof (s : State) (r : Roof) : (s.withRoof r).roof = r := rfl

theorem State.folded_roof (s : State) (u : UnitIx) (p : List Byte) :
    (s.folded u p).roof = fold s.env u p s.roof := State.withRoof_roof s.heard (fold s.env u p s.roof)

theorem State.folded_shed (s : State) (u : UnitIx) (p : List Byte) : (s.folded u p).shed = s.shed := by
  rw [State.folded, State.onRoof_shed, State.heard]

theorem State.folded_meter (s : State) (u : UnitIx) (p : List Byte) : (s.folded u p).meter = s.meter := by
  rw [State.folded, State.onRoof_meter, State.heard]

theorem State.folded_link (s : State) (u : UnitIx) (p : List Byte) : (s.folded u p).link = s.heard.link := by
  rw [State.folded, State.onRoof_link]

theorem statusReply_eq {x : Transaction} {u : UnitIx} (p : List Byte) (h : x.request = .statusRead u) :
    statusReply x p = replyTo x 0x01 p := by
  have hkind : x.request.kind ||| 0x80 = 0x82 := by
    rw [h]
    exact (by decide : kStatusRead ||| 0x80 = 0x82)
  rw [replyTo, hkind, statusReply]

/-- R29: the answer to what the fold of `p` was read for. -/
def statusAnswer (s : State) (x : Transaction) (u : UnitIx) (p : List Byte) : State → Frame → Frame :=
  foldAnswer u (adoptionMap s.env u p s.roof) (statusReply x p)

theorem freeTrunk_roof (s : State) : (freeTrunk s).roof = s.roof := rfl

theorem answerRelay_roof (x : Transaction) (answer : State → Frame → Frame) (s : State) :
    (answerRelay x answer s).roof = s.roof := by
  rw [answerRelay_frame]
  rfl

/-- R29, R48: what a status reply leaves: the fold, what concludes the command, and the answer. -/
theorem statusReply_leaves {s : State} {x : Transaction} {u : UnitIx} {p : List Byte} (hready : Ready s)
    (hf : FoldAwaits s x u p) :
    ∃ t, exec (.trunkFrameReceived (statusReply x p)) s = .next t ∧
      (fold s.env u p s.roof).Works t.roof ∧ (fold s.env u p s.roof).plant.Moves t.plant ∧
      ((fold s.env u p s.roof).plant.passDue = false → t.plant = (fold s.env u p s.roof).plant) ∧
      t.link.trunk = .free ∧ t.shed = s.shed ∧ t.meter = s.meter ∧
      (x.origin ≠ .relay → t.link.replies = s.link.replies) ∧
      ∀ head rest, x.origin = .relay → s.link.relay = head :: rest → t.link.relay = rest ∧
        t.link.replies = s.link.replies ++ [⟨statusAnswer s x u p (s.folded u p) head, false⟩] := by
  obtain ⟨hawait, hrequest, hunit, hreported, hlong, hshort, hmode, hhand⟩ := hf
  have haddr : x.request.addr.toNat = u.val + 1 := by
    rw [hrequest]
    exact toNat_unitAddr u
  have hmatch : isMatch x (statusReply x p) = true := by
    rw [statusReply_eq p hrequest]
    refine isMatch_replyTo (by omega) (by omega) (by decide) ?_
    rw [hrequest]
    exact ⟨hshort, by simp [hlong, hmode, hhand]⟩
  have hend : endAnswered x (statusReply x p) s.heard =
      freeTrunk (repeatMap x (answerRelay x (statusAnswer s x u p) (s.folded u p))) :=
    endAnswered_fold s.heard (Transaction.reportsTo_of_reported hunit hreported) hrequest
      (by simp [statusReply, flagError])
  have hnomap (q : State) : repeatMap x q = q := repeatMap_other q (by rw [hrequest]; nofun)
  have hroof : (freeTrunk (repeatMap x (answerRelay x (statusAnswer s x u p) (s.folded u p)))).roof =
      fold s.env u p s.roof := by
    rw [hnomap, freeTrunk_roof, answerRelay_roof, State.folded_roof]
  obtain ⟨hfree, hshed, hmeter, hother, hrelay⟩ := answered_ports x (statusAnswer s x u p) (s.folded u p)
  have hexec := exec_matchingReply hready.1 hawait hmatch
  have hplant := answered_plant (x := x) (s := s.folded u p) (statusAnswer s x u p)
  rw [hend] at hexec
  rw [hnomap] at hexec hroof hfree hshed hmeter hother hrelay hplant
  have hworks := conclude_works (freeTrunk (answerRelay x (statusAnswer s x u p) (s.folded u p)))
  have hmoves := conclude_moves (freeTrunk (answerRelay x (statusAnswer s x u p) (s.folded u p)))
  rw [hroof] at hworks
  rw [← State.roof_plant, hroof] at hmoves
  rw [hnomap, ← State.roof_plant, State.folded_roof] at hplant
  rw [State.folded_link] at hother hrelay
  exact ⟨_, hexec, hworks, hmoves, hplant, hfree, hshed.trans (State.folded_shed ..),
    hmeter.trans (State.folded_meter ..), fun h => (hother h).1, hrelay⟩

/-! ### The stored record (R48) -/

/-- R48: the unit as the effects of a fold find it. -/
def storedUnit (e : Env) (u : UnitIx) (l : List Byte) (x : UnitRec) : UnitRec :=
  { x with failures := 0, status := some (statusOf (e.cfg u) l), fresh := true }

/-- R48: the roof as the effects of a fold find it. -/
def storedRoof (e : Env) (u : UnitIx) (l : List Byte) (r : Roof) : Roof :=
  storeStatus e u l (r.onPlant fun p => p.modUnit u fun x => { x with failures := 0 })

theorem fold_eq_effects (e : Env) (u : UnitIx) (l : List Byte) (r : Roof) :
    fold e u l r = foldEffects e u (statusOf (e.cfg u) l) (storedRoof e u l r) := rfl

theorem storedRoof_plant (e : Env) (u : UnitIx) (l : List Byte) (r : Roof) :
    (storedRoof e u l r).plant = r.plant.modUnit u (storedUnit e u l) := by
  rw [storedRoof, storeStatus_plant, Roof.onPlant_plant, Plant.modUnit_modUnit]
  rfl

theorem storedRoof_unit (e : Env) (u : UnitIx) (l : List Byte) (r : Roof) :
    (storedRoof e u l r).plant.unit u = storedUnit e u l (r.plant.unit u) := by
  rw [storedRoof_plant, Plant.unit_modUnit_self]

/-- R44, R48: a fold stores the record and clears the failures; where the target changed, the fresh flag is clear. -/
theorem fold_stored {e : Env} {u : UnitIx} {l : List Byte} {r q : Roof} (h : (fold e u l r).Works q) :
    let y := q.plant.unit u
    y.status = some (statusOf (e.cfg u) l) ∧ y.failures = 0 ∧
      (y.target ≠ (r.plant.unit u).target → y.fresh = false) := by
  have hworks := (((fold_eq_effects e u l r ▸ foldEffects_works e u (statusOf (e.cfg u) l)
    (storedRoof e u l r)).trans h).plant.unit u)
  rw [storedRoof_unit] at hworks
  refine ⟨hworks.status, hworks.failures rfl, fun hne => ?_⟩
  exact hworks.fresh.resolve_right fun hsame => hne hsame.1

/-! ### The fields (R48) -/

theorem clampInt_eq_max_min {low high : Int} (h : low ≤ high) (v : Int) :
    clampInt low high v = max low (min high v) := by
  unfold clampInt
  split
  · omega
  · split <;> omega

/-- R48: a temperature as the fold stores it. -/
theorem foldTemperature_eq (l : List Byte) (o : Nat) (off : Int) : foldTemperature (s16At l o) off =
    if u16At l o = 0x8000 then none else some (max (-400) (min 1200 (s16At l o + off))) := by
  simp only [foldTemperature, s16At_eq_min_iff, clampInt_eq_max_min (show (-400 : Int) ≤ 1200 by decide)]

theorem mapOfByte_has (c : UnitCfg) (b : Byte) (i : Slot) :
    (mapOfByte c b).has i = (c.bound i && b.getLsbD i.val) :=
  slotBits_getLsbD (fun i => c.bound i && b.getLsbD i.val) i

theorem statusOf_hand_iff {c : UnitCfg} {l : List Byte} (h : u8At l 1 ≤ 1) :
    (statusOf c l).hand = true ↔ u8At l 1 = 1 := by
  simp only [statusOf, decide_eq_true_eq]
  omega

theorem statusOf_circuitFaults (c : UnitCfg) (l : List Byte) : (statusOf c l).circuitFaults.toNat = u16At l 3 :=
  (BitVec.toNat_ofNat ..).trans (Nat.mod_eq_of_lt (u16At_lt l 3))

/-! ### A fold in which nothing trips and nothing is released -/

/-- R79, R151: of a unit without a cause only its NOT_PROVEN counts and its bands' pairs move. -/
structure Roof.OnlyJudges (u : UnitIx) (a b : Roof) : Prop where
  judged : (a.plant.unit u).causes = [] →
    ∃ np ps, b.plant = a.plant.modUnit u fun x => { x with notProven := np, pairs := ps }

theorem Roof.OnlyJudges.of_plant {u : UnitIx} {a b : Roof} (h : b.plant = a.plant) : a.OnlyJudges u b :=
  ⟨fun _ => ⟨(a.plant.unit u).notProven, (a.plant.unit u).pairs, h.trans (Plant.modUnit_eq_self rfl).symm⟩⟩

theorem Roof.OnlyJudges.refl {u : UnitIx} (a : Roof) : a.OnlyJudges u a := .of_plant rfl

theorem Roof.OnlyJudges.trans {u : UnitIx} {a b c : Roof} (h : a.OnlyJudges u b) (k : b.OnlyJudges u c) :
    a.OnlyJudges u c := by
  refine ⟨fun hcauses => ?_⟩
  obtain ⟨np, ps, hb⟩ := h.judged hcauses
  obtain ⟨np', ps', hc⟩ := k.judged (by rw [hb, Plant.unit_modUnit_self]; exact hcauses)
  exact ⟨np', ps', by rw [hc, hb, Plant.modUnit_modUnit]⟩

theorem Roof.OnlyJudges.foldl {u : UnitIx} {α : Type} {f : Roof → α → Roof} {l : List α}
    (h : ∀ r : Roof, ∀ x ∈ l, r.OnlyJudges u (f r x)) (r : Roof) : r.OnlyJudges u (l.foldl f r) :=
  foldl_related Roof.OnlyJudges.refl (fun _ _ _ => .trans) f l h r

/-- R79: a slot proved writes its NOT_PROVEN count. -/
theorem proveSlot_plant (e : Env) (u : UnitIx) (st : Status) (r : Roof) (i : Slot) :
    ∃ n, (proveSlot e u st r i).plant = r.plant.modUnit u fun y => { y with notProven := y.notProven.set i n } := by
  exact ⟨_, (apply_ite Roof.plant ..).trans (ite_self _)⟩

theorem proveSlot_onlyJudges (e : Env) (u : UnitIx) (st : Status) (r : Roof) (i : Slot) :
    r.OnlyJudges u (proveSlot e u st r i) := by
  obtain ⟨n, hplant⟩ := proveSlot_plant e u st r i
  exact ⟨fun _ => ⟨(r.plant.unit u).notProven.set i n, (r.plant.unit u).pairs,
    hplant.trans (Plant.modUnit_congr rfl)⟩⟩

theorem crossingNotice_plant (e : Env) (u : UnitIx) (b : Fin 16) (v : Option Int) (was now : PairState) (r : Roof) :
    (crossingNotice e u b v was now r).plant = r.plant := by
  unfold crossingNotice
  split <;> rfl

/-- R149: a band evaluated writes its pair. -/
theorem evaluateBand_plant (e : Env) (u : UnitIx) (st : Status) (b : Fin 16) (r : Roof) :
    ∃ q, (evaluateBand e u st b r).plant = r.plant.modUnit u fun x => { x with pairs := x.pairs.set b q } :=
  ⟨evaluatePair e.now u e.tables.bands[b] st (r.plant.unit u).pairs[b], crossingNotice_plant ..⟩

theorem evaluateBand_onlyJudges (e : Env) (u : UnitIx) (st : Status) (b : Fin 16) (r : Roof) :
    r.OnlyJudges u (evaluateBand e u st b r) := by
  obtain ⟨q, hplant⟩ := evaluateBand_plant e u st b r
  exact ⟨fun _ => ⟨(r.plant.unit u).notProven, (r.plant.unit u).pairs.set b q,
    hplant.trans (Plant.modUnit_congr rfl)⟩⟩

theorem enterIfShown_hidden (e : Env) (u : UnitIx) (cls : TripClass) (pos : Option Nat) (ap : AppliesWhen) (r : Roof) :
    enterIfShown e u false cls pos ap r = r := by
  simp [enterIfShown]

/-- R138: where no cause is held, there is none to follow its condition. -/
theorem followCondition_onlyJudges (e : Env) (u : UnitIx) (shown : Bool) (cls : TripClass) (pos : Option Nat)
    (r : Roof) : r.OnlyJudges u (followCondition e u shown cls pos r) := by
  refine ⟨fun hcauses => ?_⟩
  have hsame : setPresent u cls pos shown r.plant = r.plant := Plant.modUnit_eq_self (by
    rw [hcauses, List.map_nil, ← hcauses])
  have hnone : followCondition e u shown cls pos r = r := by
    unfold followCondition
    simp only [hsame, hcauses, List.find?_nil]
  rw [hnone]
  exact (Roof.OnlyJudges.refl r).judged hcauses

/-- R138: a status without a fault bit shows no condition. -/
theorem conditionShown_clear {c : UnitCfg} {st : Status} (hcircuit : st.circuitFaults = 0) (hunit : st.unitFaults = 0)
    (cls : TripClass) (pos : Option Nat) : conditionShown c st cls pos = false := by
  unfold conditionShown
  dsimp only
  cases cls with
  | hp | lp | ovc =>
    cases pos with
    | none => rfl
    | some j => simp [hcircuit]
  | frz | flm | fpf | smk => simp [hunit]
  | band | shutdown => rfl

theorem foldFaults_onlyJudges {e : Env} {u : UnitIx} {st : Status} (hcircuit : st.circuitFaults = 0)
    (hunit : st.unitFaults = 0) (r : Roof) : r.OnlyJudges u (foldFaults e u st r) := by
  refine Roof.OnlyJudges.trans (.foldl (fun q cp _ => ?_) r)
    (.foldl (fun q cp _ => followCondition_onlyJudges ..) _)
  rw [conditionShown_clear hcircuit hunit, enterIfShown_hidden]
  exact .refl q

theorem foldBands_onlyJudges {e : Env} {u : UnitIx} {st : Status} (h : ∀ b : Fin 16, e.tables.bands[b].action ≠ .trip)
    (r : Roof) : r.OnlyJudges u (foldBands e u st r) := by
  refine Roof.OnlyJudges.trans (.trans (.foldl (fun q b _ => evaluateBand_onlyJudges ..) r)
    (.foldl (fun q b _ => ?_) _)) (.foldl (fun q b _ => followCondition_onlyJudges ..) _)
  have hhidden : bandCondition e (q.plant.unit u) b = false := by
    rw [bandCondition, decide_eq_false (h b), Bool.false_and]
  rw [hhidden, enterIfShown_hidden]
  exact .refl q

/-- R48: a quiet fold stores its record and judges. -/
theorem fold_quiet {s : State} {u : UnitIx} {p : List Byte} (h : QuietFold s u p) :
    ∃ np ps, (fold s.env u p s.roof).plant =
      s.plant.modUnit u fun x => { storedUnit s.env u p x with notProven := np, pairs := ps } := by
  obtain ⟨honline, hhand, hcircuit, hunit, hcauses, hbands⟩ := h
  have hcalm : (statusOf (s.env.cfg u) p).circuitFaults = 0 := BitVec.eq_of_toNat_eq (by
    rw [statusOf_circuitFaults, hcircuit]
    rfl)
  have hfaults : (statusOf (s.env.cfg u) p).unitFaults = 0 := BitVec.eq_of_toNat_eq hunit
  have hremote : (statusOf (s.env.cfg u) p).hand = false := by simp [statusOf, hhand]
  have hstored := storedRoof_unit s.env u p s.roof
  have hstate : ((storedRoof s.env u p s.roof).plant.unit u).state = .online := by
    rw [hstored]
    exact honline
  have hfirst : foldLocalMaps u (statusOf (s.env.cfg u) p)
      (foldState s.env u (statusOf (s.env.cfg u) p) (storedRoof s.env u p s.roof)) = storedRoof s.env u p s.roof := by
    have hstays : foldState s.env u (statusOf (s.env.cfg u) p) (storedRoof s.env u p s.roof) =
        storedRoof s.env u p s.roof := by
      simp only [foldState, hstate, hremote]
    rw [hstays]
    exact if_neg (by rw [hstate]; nofun)
  have hjudges : (storedRoof s.env u p s.roof).OnlyJudges u (fold s.env u p s.roof) := by
    rw [fold_eq_effects, foldEffects, hfirst]
    refine Roof.OnlyJudges.trans (.trans ?_ (foldFaults_onlyJudges hcalm hfaults _)) (foldBands_onlyJudges hbands _)
    rw [foldProving, if_pos hstate]
    exact .foldl (fun q i _ => proveSlot_onlyJudges ..) _
  obtain ⟨np, ps, hplant⟩ := hjudges.judged (by rw [hstored]; exact hcauses)
  exact ⟨np, ps, by rw [hplant, storedRoof_plant, Plant.modUnit_modUnit]; rfl⟩

/-- Settles O17: the record is stored in front of the fold's effects, which write no status and clear the fresh flag
with every write of the target map. -/
theorem statusReplyIsFolded : Obligations.StatusReplyIsFolded := by
  intro s x u p hready hf hpoll
  obtain ⟨t, hexec, hworks, -, hplant, hfree, -, -, hreplies, -⟩ := statusReply_leaves hready hf
  obtain ⟨-, -, -, -, -, -, -, hhand⟩ := hf
  obtain ⟨hstatus, hfailures, hfresh⟩ := fold_stored hworks
  refine ⟨t, statusOf (s.env.cfg u) p, hexec, hstatus, rfl, hfailures, rfl, statusOf_hand_iff hhand,
    fun i => mapOfByte_has _ _ i, rfl, statusOf_circuitFaults _ p, rfl, foldTemperature_eq .., foldTemperature_eq ..,
    foldTemperature_eq .., foldTemperature_eq .., rfl, rfl, hfresh, fun hquiet => ?_, hfree,
    hreplies (by rw [hpoll]; nofun)⟩
  obtain ⟨np, ps, hfolded⟩ := fold_quiet hquiet
  rw [hplant (by rw [hfolded]; exact hready.2), hfolded, Plant.unit_modUnit_self]
  exact ⟨rfl, rfl, rfl, rfl, rfl, rfl⟩

end Sys2Proof.Machine

namespace Sys2Proof.Machine

/-! ### A fold that leaves a unit LOCAL (R55, R69) -/

/-- R69, R83: a LOCAL unit that stays LOCAL is not settled, and no entry of it joins the queue. -/
structure Roof.StaysLocal (u : UnitIx) (a b : Roof) : Prop where
  stays : (a.plant.unit u).state = .inLocal →
    (b.plant.unit u).state = .inLocal ∧ b.plant.passDue = a.plant.passDue

theorem Roof.StaysLocal.of_same {u : UnitIx} {a b : Roof} (hstate : (b.plant.unit u).state = (a.plant.unit u).state)
    (hpass : b.plant.passDue = a.plant.passDue) : a.StaysLocal u b :=
  ⟨fun h => ⟨hstate.trans h, hpass⟩⟩

theorem Roof.StaysLocal.refl {u : UnitIx} (a : Roof) : a.StaysLocal u a := .of_same rfl rfl

theorem Roof.StaysLocal.trans {u : UnitIx} {a b c : Roof} (h : a.StaysLocal u b) (k : b.StaysLocal u c) :
    a.StaysLocal u c := by
  refine ⟨fun hlocal => ?_⟩
  obtain ⟨hb, hpassb⟩ := h.stays hlocal
  obtain ⟨hc, hpassc⟩ := k.stays hb
  exact ⟨hc, hpassc.trans hpassb⟩

theorem Roof.StaysLocal.foldl {u : UnitIx} {α : Type} {f : Roof → α → Roof} {l : List α}
    (h : ∀ r : Roof, ∀ x ∈ l, r.StaysLocal u (f r x)) (r : Roof) : r.StaysLocal u (l.foldl f r) :=
  foldl_related Roof.StaysLocal.refl (fun _ _ _ => .trans) f l h r

/-- A record rewritten with its unit state kept. -/
theorem Roof.staysLocal_modUnit {u : UnitIx} {r q : Roof} {f : UnitRec → UnitRec} (hq : q.plant = r.plant.modUnit u f)
    (hf : (f (r.plant.unit u)).state = (r.plant.unit u).state := by rfl) : r.StaysLocal u q :=
  .of_same (by rw [hq, Plant.unit_modUnit_self, hf]) (by rw [hq]; rfl)

theorem Roof.staysLocal_withUnit {u : UnitIx} {r : Roof} {f : UnitRec → UnitRec}
    (hf : (f (r.plant.unit u)).state = (r.plant.unit u).state := by rfl) :
    r.StaysLocal u { r with plant := r.plant.modUnit u f } := Roof.staysLocal_modUnit (f := f) rfl hf

theorem settle_staysLocal (e : Env) (u : UnitIx) (r : Roof) : r.StaysLocal u (settle e u r) := by
  refine ⟨fun hlocal => ?_⟩
  have hself : settle e u r = r := if_neg (by simp [hlocal, UnitState.isSettled])
  rw [hself]
  exact ⟨hlocal, rfl⟩

theorem refreshTarget_staysLocal (prot : Bool) (u : UnitIx) (r : Roof) :
    r.StaysLocal u (r.onPlant (refreshTarget prot u)) :=
  .of_same ((refreshTarget_moves prot u r.plant).unit u).state (refreshTarget_passDue ..)

/-- A move of the unit's stages, the target map written again, and a settlement. -/
theorem moved_staysLocal (e : Env) (u : UnitIx) (prot : Bool) (f : UnitRec → Slot → Stage → Stage) (r : Roof) :
    r.StaysLocal u (settle e u ((moveUnit e u (fun p => p.modUnit u fun x => x.mapStages (f x)) r).onPlant
      (refreshTarget prot u))) := by
  have hmoves := moveUnit_moves e u (fun p => p.modUnit u fun x => x.mapStages (f x)) r
    (Plant.moves_modUnit (UnitRec.movesTo_mapStages ..))
  have hmoved : r.StaysLocal u (moveUnit e u (fun p => p.modUnit u fun x => x.mapStages (f x)) r) :=
    .of_same (hmoves.unit u).state (by rw [moveUnit_passDue]; rfl)
  exact (hmoved.trans (refreshTarget_staysLocal ..)).trans (settle_staysLocal ..)

theorem tripSlots_staysLocal (e : Env) (u : UnitIx) (scope : Slot → Bool) (r : Roof) :
    r.StaysLocal u (tripSlots e u scope r) := moved_staysLocal e u true _ r

theorem releaseSlots_staysLocal (e : Env) (u : UnitIx) (scope : Slot → Bool) (r : Roof) :
    r.StaysLocal u (releaseSlots e u scope r) := moved_staysLocal e u false _ r

theorem Roof.staysLocal_of_plant {u : UnitIx} {a b : Roof} (h : b.plant = a.plant) : a.StaysLocal u b :=
  .of_same (by rw [h]) (by rw [h])

theorem addCapture_plant (e : Env) (c : Capture) (r : Roof) : (r.addCapture e c).plant = r.plant := by
  unfold Roof.addCapture
  split
  · rfl
  · split <;> rfl

theorem enterCause_staysLocal (e : Env) (u : UnitIx) (cls : TripClass) (pos : Option Nat) (ap : AppliesWhen)
    (r : Roof) : r.StaysLocal u (enterCause e u cls pos ap r) := by
  have hlist : r.StaysLocal u { r with plant := r.plant.modUnit u fun x =>
      { x with causes := x.causes ++ [⟨cls, pos, ap, latchedAtEntry e.tables cls, true, e.now⟩] } } :=
    Roof.staysLocal_withUnit
  refine hlist.trans (.trans ?_ (tripSlots_staysLocal ..))
  exact Roof.staysLocal_of_plant ((Roof.raise_plant ..).trans (addCapture_plant ..))

theorem enterIfShown_staysLocal (e : Env) (u : UnitIx) (shown : Bool) (cls : TripClass) (pos : Option Nat)
    (ap : AppliesWhen) (r : Roof) : r.StaysLocal u (enterIfShown e u shown cls pos ap r) := by
  unfold enterIfShown
  dsimp only
  split
  · exact enterCause_staysLocal ..
  · exact .refl r

theorem removeCause_staysLocal (e : Env) (u : UnitIx) (c : Cause) (r : Roof) :
    r.StaysLocal u (removeCause e u c r) := by
  have hlist : r.StaysLocal u { r with plant := r.plant.modUnit u fun x =>
      { x with causes := x.causes.filter fun d => !d.isOf c.tripClass c.position } } := Roof.staysLocal_withUnit
  exact hlist.trans (.trans (Roof.staysLocal_of_plant (Roof.raise_plant ..)) (releaseSlots_staysLocal ..))

theorem escalateCause_staysLocal (e : Env) (u : UnitIx) (c : Cause) (held : Nat) (r : Roof) :
    r.StaysLocal u (escalateCause e u c held r) := by
  have hlist : r.StaysLocal u (r.onPlant fun p => p.modUnit u fun x => { x with
      causes := x.causes.map fun d =>
        if d.isOf c.tripClass c.position then { d with latched := true, present := false } else d }) :=
    Roof.staysLocal_withUnit
  exact hlist.trans ((tripSlots_staysLocal ..).trans (Roof.staysLocal_of_plant (Roof.raise_plant ..)))

theorem releaseCause_staysLocal (e : Env) (u : UnitIx) (c : Cause) (r : Roof) :
    r.StaysLocal u (releaseCause e u c r) := by
  unfold releaseCause
  split
  · exact removeCause_staysLocal ..
  · next pol _ =>
    have hstrike : r.StaysLocal u { r with plant := r.plant.modUnit u (setStrikes c.tripClass c.position
        (strike e.now e.tables.roof.strikeWindow (strikesOf (r.plant.unit u) c.tripClass c.position))) } :=
      Roof.staysLocal_withUnit
    dsimp only
    split
    · exact hstrike.trans (escalateCause_staysLocal ..)
    · exact hstrike.trans (removeCause_staysLocal ..)

theorem followCondition_staysLocal (e : Env) (u : UnitIx) (shown : Bool) (cls : TripClass) (pos : Option Nat)
    (r : Roof) : r.StaysLocal u (followCondition e u shown cls pos r) := by
  have hflag : r.StaysLocal u { r with plant := setPresent u cls pos shown r.plant } :=
    Roof.staysLocal_withUnit
  unfold followCondition
  dsimp only
  split
  · exact hflag
  · split
    · exact hflag
    · exact hflag.trans (releaseCause_staysLocal ..)

theorem foldFaults_staysLocal (e : Env) (u : UnitIx) (st : Status) (r : Roof) :
    r.StaysLocal u (foldFaults e u st r) :=
  (Roof.StaysLocal.foldl (fun _ _ _ => enterIfShown_staysLocal ..) r).trans
    (.foldl (fun _ _ _ => followCondition_staysLocal ..) _)

theorem evaluateBand_staysLocal (e : Env) (u : UnitIx) (st : Status) (b : Fin 16) (r : Roof) :
    r.StaysLocal u (evaluateBand e u st b r) := by
  obtain ⟨q, hplant⟩ := evaluateBand_plant e u st b r
  exact Roof.staysLocal_modUnit hplant

theorem foldBands_staysLocal (e : Env) (u : UnitIx) (st : Status) (r : Roof) :
    r.StaysLocal u (foldBands e u st r) :=
  ((Roof.StaysLocal.foldl (fun _ _ _ => evaluateBand_staysLocal ..) r).trans
    (.foldl (fun _ _ _ => enterIfShown_staysLocal ..) _)).trans (.foldl (fun _ _ _ => followCondition_staysLocal ..) _)

theorem foldProving_staysLocal (e : Env) (u : UnitIx) (st : Status) (r : Roof) :
    r.StaysLocal u (foldProving e u st r) := by
  unfold foldProving
  split
  · refine .foldl (fun q i _ => ?_) r
    obtain ⟨n, hplant⟩ := proveSlot_plant e u st q i
    exact Roof.staysLocal_modUnit hplant
  · exact .refl r

theorem foldLocalMaps_staysLocal (u : UnitIx) (st : Status) (r : Roof) : r.StaysLocal u (foldLocalMaps u st r) := by
  unfold foldLocalMaps
  split
  · refine .of_same ?_ ?_
    · rw [followReport, Plant.unit_modUnit_self]
      exact ((writeTarget_moves false u st.run r.plant).unit u).state
    · exact (Plant.modUnit_passDue ..).trans (writeTarget_passDue ..)
  · exact .refl r

/-- R55: a fold that finds a LOCAL unit in hand mode leaves it LOCAL, and no pass due. -/
theorem fold_local {s : State} {u : UnitIx} {p : List Byte} (hlocal : (s.plant.unit u).state = .inLocal)
    (hhand : u8At p 1 = 1) : (fold s.env u p s.roof).plant.passDue = s.plant.passDue := by
  have hstate : ((storedRoof s.env u p s.roof).plant.unit u).state = .inLocal := by
    rw [storedRoof_unit]
    exact hlocal
  have hhands : (statusOf (s.env.cfg u) p).hand = true := (statusOf_hand_iff hhand.le).2 hhand
  have hstays : foldState s.env u (statusOf (s.env.cfg u) p) (storedRoof s.env u p s.roof) =
      storedRoof s.env u p s.roof := by
    simp only [foldState, hstate, hhands]
  have heffects : (storedRoof s.env u p s.roof).StaysLocal u (fold s.env u p s.roof) := by
    rw [fold_eq_effects, foldEffects, hstays]
    exact (((foldLocalMaps_staysLocal ..).trans (foldProving_staysLocal ..)).trans (foldFaults_staysLocal ..)).trans
      (foldBands_staysLocal ..)
  obtain ⟨-, hpass⟩ := heffects.stays hstate
  rw [hpass, storedRoof_plant]
  rfl

/-! ### An adoption (R37, R50, R51) -/

/-- R50: a bound slot that is not tripped is on after the comparison exactly where the unit reports it running. -/
theorem adoptStage_isOn (e : Env) (u : UnitIx) (run : StageMap) (i : Slot) (st : Stage) :
    (adoptStage e u run i st).state.isOn =
      if (e.cfg u).bound i && !st.state.isTripped then run.has i else st.state.isOn := by
  unfold adoptStage
  cases hbound : (e.cfg u).bound i
  · rfl
  · cases htripped : st.state.isTripped
    · cases hon : st.state.isOn <;> cases hrun : run.has i
      · exact hon
      · rfl
      · exact (stopStage_stoppedAt ..).off
      · exact hon
    · rfl

theorem adoptedMap_has (run : StageMap) (r : UnitRec) (i : Slot) :
    (adoptedMap run r).has i = r.stages[i].state.isOn := slotBits_getLsbD (fun i => r.stages[i].state.isOn) i

/-- R51: the adopted map. -/
theorem adoptedMap_adoptStages_has (e : Env) (u : UnitIx) (run : StageMap) (r : UnitRec) (i : Slot) :
    (adoptedMap run (adoptStages e u run r)).has i =
      if (e.cfg u).bound i && !r.stages[i].state.isTripped then run.has i else r.stages[i].state.isOn := by
  rw [adoptedMap_has, ← adoptStage_isOn]
  exact congrArg (fun st : Stage => st.state.isOn) (UnitRec.mapStages_stages r (adoptStage e u run) i)

/-- R37: which fold adopts, and the map whose counts its trailer gives. -/
theorem adoptionMap_some {e : Env} {u : UnitIx} (l : List Byte) {r : Roof}
    (h : (r.plant.unit u).state = .unadopted ∨ (r.plant.unit u).state = .offline) :
    adoptionMap e u l r = some (if (statusOf (e.cfg u) l).hand then (statusOf (e.cfg u) l).run
      else adoptedMap (statusOf (e.cfg u) l).run (adoptStages e u (statusOf (e.cfg u) l).run (r.plant.unit u))) := by
  rcases h with h | h <;> simp only [adoptionMap, h]

theorem adoptionMap_none {e : Env} {u : UnitIx} (l : List Byte) {r : Roof}
    (h : ¬((r.plant.unit u).state = .unadopted ∨ (r.plant.unit u).state = .offline)) : adoptionMap e u l r = none := by
  unfold adoptionMap
  cases hs : (r.plant.unit u).state with
  | unadopted => exact absurd (.inl hs) h
  | offline => exact absurd (.inr hs) h
  | online | inLocal | absent => rfl

end Sys2Proof.Machine

namespace Sys2Proof.Machine

/-! ### Relayed replies (R36, R38, R39) -/

/-- R18: the state after a relayed request was answered with `f` and handed on. -/
structure GoneUp (s t : State) (rest : List Frame) (f answer : Frame) : Prop where
  command : exec (.trunkFrameReceived f) s = .next t
  free : t.link.trunk = .free
  relay : t.link.relay = rest
  replies : t.link.replies = s.link.replies ++ [⟨answer, false⟩]

/-- R18, R29: a relayed request answered from the state `told`, in which no pass is due. -/
theorem relayed_goneUp {s told : State} {x : Transaction} {f head : Frame} {rest : List Frame}
    {answer : State → Frame → Frame} (hready : Ready s) (hawait : s.link.trunk = .awaiting x)
    (horigin : x.origin = .relay) (hhead : s.link.relay = head :: rest) (hmatch : isMatch x f = true)
    (hend : endAnswered x f s.heard = freeTrunk (repeatMap x (answerRelay x answer told)))
    (hlink : told.link = s.heard.link) (hpass : told.plant.passDue = false) :
    ∃ t, GoneUp s t rest f (answer told head) ∧ t.plant = (repeatMap x told).plant ∧ t.shed = told.shed ∧
      t.meter = told.meter := by
  obtain ⟨hfree, hshed, hmeter, -, hrelay⟩ := answered_ports x answer told
  obtain ⟨hrest, hreplies⟩ := hrelay head rest horigin (by rw [hlink]; exact hhead)
  exact ⟨_, ⟨hend ▸ exec_matchingReply hready.1 hawait hmatch, hfree, hrest, by rw [hreplies, hlink]; rfl⟩,
    answered_plant answer hpass, hshed, hmeter⟩

/-- R44, R45: the unit behind a reply that was reported and is no fold. -/
theorem goneUp_reported {s t : State} {x : Transaction} {u : UnitIx}
    (hplant : t.plant = (repeatMap x (reportReply u s.heard)).plant) :
    let r := s.plant.unit u
    let y := t.plant.unit u
    y.failures = 0 ∧ y.state = (if r.state = .offline then .unadopted else r.state) ∧ y.status = r.status ∧
      y.target = r.target ∧ y.ack = r.ack ∧ y.stages = r.stages ∧ t.plant.queue = s.plant.queue := by
  obtain ⟨hunit, hqueue⟩ := repeatMap_unit x (reportReply u s.heard) u
  rw [← hplant] at hunit hqueue
  exact reported_unit hunit hqueue

/-- R36: a reply that goes up as received: a passthrough or foreign one, and every one of an ABSENT unit. -/
theorem rawReply_goesUp {s : State} {x : Transaction} {head : Frame} {rest : List Frame} {flags : Byte}
    {p : List Byte} (hready : Ready s) (hawait : s.link.trunk = .awaiting x) (horigin : x.origin = .relay)
    (hhead : s.link.relay = head :: rest) (hmatch : isMatch x (replyTo x flags p) = true)
    (h : (∃ a k fl q, x.request = .raw a k fl q) ∨ x.unit = none ∨ x.unreported = true) :
    ∃ t, GoneUp s t rest (replyTo x flags p) ⟨head.addr, head.tag, head.kind ||| 0x80, flags &&& 0xFB, p⟩ ∧
      ((x.unit = none ∨ x.unreported = true) → t.plant = s.plant) ∧
      ∀ u, x.unit = some u → x.unreported = false → t.plant = (repeatMap x (reportReply u s.heard)).plant := by
  by_cases hto : x.unit = none ∨ x.unreported = true
  · have hnone := Transaction.reportsTo_eq_none hto
    obtain ⟨t, hup, hplant, -, -⟩ := relayed_goneUp hready hawait horigin hhead hmatch
      (endAnswered_unreported _ _ hnone) rfl hready.2
    rw [repeatMap_none hnone] at hplant
    refine ⟨t, hup, fun _ => hplant, fun u hu hreported => ?_⟩
    rw [Transaction.reportsTo_of_reported hu hreported] at hnone
    cases hnone
  · obtain ⟨a, k, fl, q, hq⟩ := h.resolve_right hto
    obtain ⟨v, hv⟩ := Option.ne_none_iff_exists'.1 fun hnone => hto (.inl hnone)
    have hsome := Transaction.reportsTo_of_reported hv (eq_false_of_ne_true fun hu => hto (.inr hu))
    obtain ⟨t, hup, hplant, -, -⟩ := relayed_goneUp hready hawait horigin hhead hmatch
      (endAnswered_raw _ _ hsome hq) rfl hready.2
    refine ⟨t, hup, fun hn => absurd hn hto, fun u hu _ => ?_⟩
    obtain rfl := Option.some.inj (hv.symm.trans hu)
    exact hplant

theorem setpointAnswer_eq (x : Transaction) (flags : Byte) (p : List Byte) (head : Frame) :
    setpointAnswer (replyTo x flags p) head =
      ⟨head.addr, head.tag, head.kind ||| 0x80, if flags.getLsbD 1 then 0x03 else 0x01, p⟩ := by
  have hflags : flagsByte true (flagError flags) false false false = if flags.getLsbD 1 then 0x03 else 0x01 := by
    unfold flagError
    cases flags.getLsbD 1 <;> rfl
  rw [← hflags]
  rfl

/-- R38, R39: a unit's error reply goes up with its code, its detail and the trailer. -/
theorem unitErrorAnswer_eq (s : State) (u : UnitIx) (x : Transaction) (flags : Byte) (p : List Byte) (head : Frame) :
    unitErrorAnswer s u (replyTo x flags p) head =
      ⟨head.addr, head.tag, head.kind ||| 0x80, 0x0B, p.take 2 ++ trailerOf s u⟩ := by
  refine trailedReply_fits true false ?_
  have htrail : (trailerOf s u).length = 8 := rfl
  have hcode : ((replyTo x flags p).payload.take 2).length ≤ 2 := List.length_take_le ..
  omega

/-! ### Folded replies that go up (R37, R39) -/

/-- R39: the payload of a folded reply in front of its trailer. -/
def foldBody (s : State) (u : UnitIx) (p : List Byte) (head : Frame) : List Byte :=
  if head.kind = kStageCall then
    [mapByte (if (adoptionMap s.env u p s.roof).isSome then ((s.folded u p).plant.unit u).ack
      else (statusOf (s.env.cfg u) p).run)]
  else rewrittenStatus (statusOf (s.env.cfg u) p) p

theorem foldBody_statusRead (s : State) (u : UnitIx) (p : List Byte) {head : Frame} (h : head.kind ≠ 0x01) :
    foldBody s u p head = rewrittenStatus (statusOf (s.env.cfg u) p) p := if_neg h

theorem foldBody_adopted {s : State} {u : UnitIx} {p : List Byte} {head : Frame} (hkind : head.kind = 0x01)
    (h : (s.plant.unit u).state = .unadopted ∨ (s.plant.unit u).state = .offline) :
    foldBody s u p head = [mapByte ((s.folded u p).plant.unit u).ack] := by
  have hsome : adoptionMap s.env u p s.roof = some _ := adoptionMap_some p h
  rw [foldBody, if_pos (show head.kind = kStageCall from hkind), hsome]
  rfl

theorem foldBody_unadopted {s : State} {u : UnitIx} {p : List Byte} {head : Frame} (hkind : head.kind = 0x01)
    (h : ¬((s.plant.unit u).state = .unadopted ∨ (s.plant.unit u).state = .offline)) :
    foldBody s u p head = [mapByte (statusOf (s.env.cfg u) p).run] := by
  have hnone : adoptionMap s.env u p s.roof = none := adoptionMap_none p h
  rw [foldBody, if_pos (show head.kind = kStageCall from hkind), hnone]
  rfl

/-- R37: the trailer of a folded reply. -/
def foldTrailer (s : State) (u : UnitIx) (p : List Byte) : List Byte :=
  trailerFor (s.folded u p) u (adoptionMap s.env u p s.roof)

theorem statusAnswer_eq (s : State) (x : Transaction) (u : UnitIx) (p : List Byte) (head : Frame) :
    statusAnswer s x u p (s.folded u p) head =
      trailedReply head false false (foldBody s u p head) (foldTrailer s u p) := by
  have htables : (s.folded u p).tables.units[u] = s.env.cfg u := by
    rw [State.folded, State.onRoof_tables]
    rfl
  unfold statusAnswer foldAnswer foldBody foldTrailer
  rw [htables]
  split <;> rfl

/-- R37: the trailer of a read that adopted the unit. -/
theorem foldTrailer_adopted {s : State} {u : UnitIx} {p : List Byte} (hhand : u8At p 1 ≤ 1)
    (h : (s.plant.unit u).state = .unadopted ∨ (s.plant.unit u).state = .offline) :
    let c := s.tables.units[u]
    let r := s.plant.unit u
    let runs (i : Slot) : Bool := c.bound i && (byteAt p 2).getLsbD i.val
    let kept (i : Slot) : Bool :=
      if u8At p 1 = 1 then runs i
      else if c.bound i && !r.stages[i].state.isTripped then runs i else r.stages[i].state.isOn
    let count (heat : Bool) : Byte :=
      BitVec.ofNat 8 (allSlots.filter fun i => decide (4 ≤ i.val) == heat && kept i).length
    foldTrailer s u p = [count false, count true, 14, 14, 1, BitVec.ofNat 8 s.shed.level,
      BitVec.ofNat 8 s.meter.forecast, BitVec.ofNat 8 (s.meter.forecast / 256)] := by
  intro c r runs kept count
  generalize hm : (if (statusOf (s.env.cfg u) p).hand then (statusOf (s.env.cfg u) p).run
    else adoptedMap (statusOf (s.env.cfg u) p).run
      (adoptStages s.env u (statusOf (s.env.cfg u) p).run (s.plant.unit u))) = m
  have hadopted : adoptionMap s.env u p s.roof = some m := hm ▸ adoptionMap_some p h
  have hkept : m.has = kept := by
    funext i
    have hrun : (statusOf (s.env.cfg u) p).run.has i = runs i := mapOfByte_has _ _ i
    rw [← hm]
    by_cases hone : u8At p 1 = 1
    · rw [if_pos ((statusOf_hand_iff hhand).2 hone), hrun]
      exact (if_pos hone).symm
    · rw [if_neg fun ht => hone ((statusOf_hand_iff hhand).1 ht), adoptedMap_adoptStages_has, hrun]
      exact (if_neg hone).symm
  rw [foldTrailer, hadopted, trailerFor, adoptionTrailer_eq, hkept, State.folded_shed, State.folded_meter]

/-- R37: the trailer of a read that adopted nothing and left no pass due. -/
theorem foldTrailer_ordinary {s t : State} {u : UnitIx} {p : List Byte}
    (h : ¬((s.plant.unit u).state = .unadopted ∨ (s.plant.unit u).state = .offline))
    (hplant : t.plant = (fold s.env u p s.roof).plant) (hshed : t.shed = s.shed) (hmeter : t.meter = s.meter) :
    foldTrailer s u p = TrailerBytes t u := by
  have hfolded : t.plant = (s.folded u p).plant := by rw [hplant, ← State.folded_roof, State.roof_plant]
  have hnone : adoptionMap s.env u p s.roof = none := adoptionMap_none p h
  rw [foldTrailer, hnone]
  exact trailerOf_eq_behind (by rw [hfolded]; exact ⟨rfl, rfl⟩) (hshed.trans (State.folded_shed ..).symm)
    (hmeter.trans (State.folded_meter ..).symm)

/-- R36 to R39: what goes up for each form of reply that is no fold. -/
theorem unfoldedReply_goesUp {s : State} {x : Transaction} {head : Frame} {rest : List Frame} {flags : Byte}
    {p : List Byte} {u v : UnitIx} (hready : Ready s) (hawait : s.link.trunk = .awaiting x)
    (horigin : x.origin = .relay) (hhead : s.link.relay = head :: rest)
    (hmatch : isMatch x (replyTo x flags p) = true) (hunit : x.unit = some u) (hreported : x.unreported = false)
    (hq : x.request = .stageMap v ∨ x.request = .statusRead v) (herror : flags.getLsbD 1 = true) :
    ∃ t, GoneUp s t rest (replyTo x flags p)
        ⟨head.addr, head.tag, head.kind ||| 0x80, 0x0B, p.take 2 ++ TrailerBytes t u⟩ ∧
      t.plant = (repeatMap x (reportReply u s.heard)).plant := by
  have hto := Transaction.reportsTo_of_reported hunit hreported
  obtain ⟨t, hup, hplant, hshed, hmeter⟩ := relayed_goneUp hready hawait horigin hhead hmatch
    (endAnswered_error _ hto hq herror) rfl hready.2
  have hbehind := repeatMap_unit x (reportReply u s.heard) u
  rw [← hplant] at hbehind
  rw [unitErrorAnswer_eq, trailerOf_eq_behind hbehind hshed hmeter] at hup
  exact ⟨t, hup, hplant⟩

/-- R39: a body goes up with a trailer of eight bytes behind it where both fit. -/
theorem foldedReply_fits (head : Frame) (body : List Byte) {trailer : List Byte} (h : trailer.length = 8) :
    (40 < body.length →
      trailedReply head false false body trailer = ⟨head.addr, head.tag, head.kind ||| 0x80, 0x01, body⟩) ∧
    (body.length ≤ 40 → trailedReply head false false body trailer =
      ⟨head.addr, head.tag, head.kind ||| 0x80, 0x09, body ++ trailer⟩) :=
  ⟨fun hlong => trailedReply_bare false false (by omega), fun hshort => trailedReply_fits false false (by omega)⟩

/-- R37: in a quiet fold, and in one that leaves the unit LOCAL, the trailer is that of the unit as it stands. -/
theorem foldTrailer_standing {s t : State} {u : UnitIx} {p : List Byte} (hready : Ready s)
    (h : QuietFold s u p ∨ ((s.plant.unit u).state = .inLocal ∧ u8At p 1 = 1))
    (hplant : (fold s.env u p s.roof).plant.passDue = false → t.plant = (fold s.env u p s.roof).plant)
    (hshed : t.shed = s.shed) (hmeter : t.meter = s.meter) : foldTrailer s u p = TrailerBytes t u := by
  rcases h with hquiet | ⟨hlocal, hhand⟩
  · obtain ⟨np, ps, hfolded⟩ := fold_quiet hquiet
    exact foldTrailer_ordinary (by simp [hquiet.1]) (hplant (by rw [hfolded]; exact hready.2)) hshed hmeter
  · exact foldTrailer_ordinary (by simp [hlocal]) (hplant ((fold_local hlocal hhand).trans hready.2)) hshed hmeter

/-- Settles O16: the reply's form says which answer `endAnswered` gives, and a folded one is `foldBody` with
`foldTrailer` where that fits. -/
theorem relayedRepliesGoUp : Obligations.RelayedRepliesGoUp := by
  intro s x head rest hready hawait horigin hhead hlow hhigh
  refine ⟨fun flags p hreply hfits => ?_, fun u p hf => ?_⟩
  · have hmatch := isMatch_replyTo hlow (hhigh.trans (by decide)) hreply hfits
    refine ⟨fun hraw => ?_, fun u a c h hu hreported hq => ?_, fun u hu hreported hq herror => ?_⟩
    · obtain ⟨t, ⟨hexec, hfree, hrelay, hreplies⟩, hsame, hplant⟩ :=
        rawReply_goesUp hready hawait horigin hhead hmatch hraw
      exact ⟨t, ⟨hexec, hfree, hrelay, hreplies⟩, hsame, fun u hu hrep => goneUp_reported (hplant u hu hrep)⟩
    · obtain ⟨t, ⟨hexec, hfree, hrelay, hreplies⟩, hplant, -, -⟩ := relayed_goneUp hready hawait horigin hhead hmatch
        (endAnswered_setpoint _ _ (Transaction.reportsTo_of_reported hu hreported) hq) rfl hready.2
      rw [setpointAnswer_eq] at hreplies
      exact ⟨t, ⟨hexec, hfree, hrelay, hreplies⟩, goneUp_reported hplant⟩
    · obtain ⟨t, ⟨hexec, hfree, hrelay, hreplies⟩, hplant⟩ := hq.elim
        (fun hq => unfoldedReply_goesUp hready hawait horigin hhead hmatch hu hreported (.inl hq) herror)
        (fun hq => unfoldedReply_goesUp hready hawait horigin hhead hmatch hu hreported (.inr hq) herror)
      refine ⟨t, ⟨hexec, hfree, hrelay, hreplies⟩, goneUp_reported hplant, fun hmap honline hinj => ?_⟩
      have hself : (reportAnswered u s.plant).unit u = { s.plant.unit u with failures := 0, state := .online } := by
        rw [reportAnswered_unit_self, honline]
        rfl
      rw [hplant, repeatMap_stageMap hmap (Transaction.reportsTo_of_reported hu hreported)]
      refine (mem_repetition_iff (p := reportAnswered u s.plant) (by rw [hself]) hinj).trans ?_
      rw [hself]
  · obtain ⟨t, hexec, hworks, hmoves, hplant, hfree, hshed, hmeter, -, hrelay⟩ := statusReply_leaves hready hf
    obtain ⟨hrest, hreplies⟩ := hrelay head rest horigin hhead
    obtain ⟨-, -, -, -, -, -, -, hhand⟩ := hf
    obtain ⟨hstatus, hfailures, -⟩ := fold_stored hworks
    have htrail : (foldTrailer s u p).length = 8 := trailerFor_length ..
    obtain ⟨hbare, hfit⟩ := foldedReply_fits head (foldBody s u p head) htrail
    rw [statusAnswer_eq] at hreplies
    have hack : (t.plant.unit u).ack = ((s.folded u p).plant.unit u).ack := by
      rw [(hmoves.unit u).ack, ← State.folded_roof, State.roof_plant]
    refine ⟨t, statusOf (s.env.cfg u) p, if (foldBody s u p head).length ≤ 40 then 0x09 else 0x01,
      if (foldBody s u p head).length ≤ 40 then foldBody s u p head ++ foldTrailer s u p else foldBody s u p head,
      foldBody s u p head, foldTrailer s u p, ⟨hexec, hfree, hrest, ?_⟩, hstatus, hfailures,
      foldBody_statusRead s u p, fun hkind hadopted => ?_, fun hkind hadopted => foldBody_unadopted hkind hadopted,
      fun hlong => ?_, fun hshort => ?_⟩
    · rw [hreplies]
      by_cases hshort : (foldBody s u p head).length ≤ 40
      · rw [hfit hshort, if_pos hshort, if_pos hshort]
      · rw [hbare (Nat.not_le.1 hshort), if_neg hshort, if_neg hshort]
    · rw [foldBody_adopted hkind hadopted, hack]
    · rw [if_neg (Nat.not_le.2 hlong), if_neg (Nat.not_le.2 hlong)]
      exact ⟨rfl, rfl⟩
    · rw [if_pos hshort, if_pos hshort]
      exact ⟨rfl, rfl, htrail, fun hadopted => foldTrailer_adopted hhand hadopted,
        fun hstanding => foldTrailer_standing hready hstanding hplant hshed hmeter⟩

end Sys2Proof.Machine

namespace Sys2Proof.Machine

/-! ## A cause entered (R72, R78, R137, R140) -/

/-! ### At most one swap of the lead order (R78) -/

/-- R78: LEAD_SWAPPED was not raised, or it was and the lead/lag condition holds. -/
def Roof.SwappedOnce (e : Env) (u : UnitIx) (a b : Roof) : Prop :=
  b.notices = a.notices ∨ (leadCondition e u b.plant = true ∧ SwapMayFollow e u a.notices b.notices)

theorem Roof.swappedOnce_moveUnit (e : Env) (u : UnitIx) (f : Plant → Plant) (r : Roof) :
    r.SwappedOnce e u (moveUnit e u f r) :=
  (moveUnit_notices e u f r).imp id fun ⟨_, hafter, hswap⟩ => ⟨(leadCondition_moveUnit ..).trans hafter, hswap⟩

theorem Roof.SwappedOnce.swapMayFollow {e : Env} {u : UnitIx} {a b : Roof} (h : a.SwappedOnce e u b) :
    SwapMayFollow e u a.notices b.notices := h.elim .inl fun hswap => hswap.2

/-- A move behind a swap raises nothing, where the condition already held. -/
theorem Roof.SwappedOnce.moveUnit {e : Env} {u : UnitIx} {a b : Roof} {f : Plant → Plant} (h : a.SwappedOnce e u b)
    (hf : leadCondition e u b.plant = true → leadCondition e u (f b.plant) = true) :
    a.SwappedOnce e u (moveUnit e u f b) := by
  have hcond := leadCondition_moveUnit e u f b
  rcases moveUnit_notices e u f b with hsame | ⟨hbefore, hafter, hswap⟩
  · refine h.imp hsame.trans fun ⟨hb, hraised⟩ => ⟨hcond.trans (hf hb), ?_⟩
    rw [hsame]
    exact hraised
  · refine .inr ⟨hcond.trans hafter, ?_⟩
    rcases h with hnone | ⟨hb, -⟩
    · exact hnone ▸ hswap
    · rw [hbefore] at hb
      cases hb

theorem Roof.SwappedOnce.refreshTarget {e : Env} {u : UnitIx} {a b : Roof} (prot : Bool) (h : a.SwappedOnce e u b) :
    a.SwappedOnce e u (b.onPlant (refreshTarget prot u)) :=
  h.imp id fun ⟨hcond, hraised⟩ => ⟨(leadCondition_refreshTarget ..).trans hcond, hraised⟩

/-- The last move of a chain may end the condition. -/
theorem Roof.SwappedOnce.moveUnit_last {e : Env} {u : UnitIx} {a b : Roof} (f : Plant → Plant)
    (h : a.SwappedOnce e u b) : SwapMayFollow e u a.notices (Machine.moveUnit e u f b).notices := by
  rcases moveUnit_notices e u f b with hsame | ⟨hbefore, -, hswap⟩
  · rw [hsame]
    exact h.swapMayFollow
  · rcases h with hnone | ⟨hb, -⟩
    · exact hnone ▸ hswap
    · rw [hbefore] at hb
      cases hb

theorem StageState.rests_isOn {st : StageState} (h : st.rests = true) : st.isOn = false := by
  cases st with
  | notFitted | offLocked | offReady | trippedAuto | trippedLatched => rfl
  | queued | starting | runMin | running | inLocal => cases h

/-- R69, R78: a settlement's marks move no stage that rests. -/
theorem leadCondition_settleMarks {e : Env} {u : UnitIx} {p : Plant} (h : leadCondition e u p = true) :
    leadCondition e u (p.modUnit u (settleMarks e u)) = true := by
  simp only [leadCondition, Bool.and_eq_true, List.all_eq_true, Bool.or_eq_true] at h ⊢
  obtain ⟨⟨⟨hlag, hlead⟩, hrest⟩, hentry⟩ := h
  refine ⟨⟨⟨hlag, by rwa [Plant.unit_modUnit_self]⟩, fun i hi => (hrest i hi).imp id fun hr => ?_⟩, hentry⟩
  rw [Plant.unit_modUnit_self, settleMarks, UnitRec.mapStages_stages, settleStage, StageState.rests_isOn hr]
  exact hr

/-- R78: a settlement behind a move raises LEAD_SWAPPED once at most. -/
theorem Roof.SwappedOnce.settle {e : Env} {u : UnitIx} {a b : Roof} (h : a.SwappedOnce e u b) :
    SwapMayFollow e u a.notices (settle e u b).notices := by
  unfold Machine.settle
  split
  · exact Roof.SwappedOnce.moveUnit_last _ ((h.moveUnit leadCondition_settleMarks).refreshTarget false)
  · exact h.swapMayFollow

/-! ### Pending injections that stay (R31, R72) -/

/-- R31: every pending injection stays pending, and marked where it was. -/
structure Plant.InjectionsStay (p q : Plant) : Prop where
  injections : ∀ v ∈ p.injections, v ∈ q.injections
  protection : ∀ v ∈ p.protection, v ∈ q.protection

theorem Plant.InjectionsStay.of_eq {p q : Plant} (hinj : q.injections = p.injections := by rfl)
    (hprot : q.protection = p.protection := by rfl) : p.InjectionsStay q :=
  ⟨fun _ h => hinj ▸ h, fun _ h => hprot ▸ h⟩

theorem Plant.InjectionsStay.refl (p : Plant) : p.InjectionsStay p := .of_eq

theorem Plant.InjectionsStay.trans {p q r : Plant} (h : p.InjectionsStay q) (k : q.InjectionsStay r) :
    p.InjectionsStay r :=
  ⟨fun v hv => k.injections v (h.injections v hv), fun v hv => k.protection v (h.protection v hv)⟩

theorem Plant.injectionsStay_inject (p : Plant) (u : UnitIx) (prot : Bool) : p.InjectionsStay (p.inject u prot) := by
  constructor <;> intro v hv <;> simp only [Plant.inject] <;> split
  · exact hv
  · exact List.mem_append_left _ hv
  · exact List.mem_append_left _ hv
  · exact hv

theorem writeTarget_injectionsStay (prot : Bool) (u : UnitIx) (m : StageMap) (p : Plant) :
    p.InjectionsStay (writeTarget prot u m p) := by
  unfold writeTarget
  split
  · exact .refl p
  · dsimp only
    split
    · exact Plant.InjectionsStay.trans .of_eq (Plant.injectionsStay_inject ..)
    · exact .of_eq

theorem refreshTarget_injectionsStay (prot : Bool) (u : UnitIx) (p : Plant) :
    p.InjectionsStay (refreshTarget prot u p) := by
  unfold refreshTarget
  split
  · exact writeTarget_injectionsStay ..
  · exact writeTarget_injectionsStay ..
  · exact writeTarget_injectionsStay ..
  · exact .refl p
  · exact .refl p

theorem moveUnit_injectionsStay (e : Env) (u : UnitIx) {f : Plant → Plant} {r : Roof}
    (h : r.plant.InjectionsStay (f r.plant)) : r.plant.InjectionsStay (moveUnit e u f r).plant := by
  rcases moveUnit_plant e u f r with hp | ⟨order, hp⟩
  · rwa [hp]
  · rw [hp]
    exact h.trans .of_eq

theorem examine_injectionsStay (e : Env) (u : UnitIx) (k : Kind) (p : Plant) :
    p.InjectionsStay (examine e u k p) := by
  unfold examine
  dsimp only
  split
  · split
    · exact .of_eq
    · exact .refl p
  · split
    · exact .of_eq
    · exact .refl p

theorem examineUnit_injectionsStay (e : Env) (u : UnitIx) (r : Roof) :
    r.plant.InjectionsStay (examineUnit e u r).plant :=
  moveUnit_injectionsStay e u (((examine_injectionsStay ..).trans (examine_injectionsStay ..)).trans .of_eq)

theorem settle_injectionsStay (e : Env) (u : UnitIx) (r : Roof) :
    r.plant.InjectionsStay (settle e u r).plant := by
  unfold settle
  split
  · have hmarks : r.plant.InjectionsStay (moveUnit e u (fun p => p.modUnit u (settleMarks e u)) r).plant :=
      moveUnit_injectionsStay e u .of_eq
    refine Plant.InjectionsStay.trans ?_ (examineUnit_injectionsStay ..)
    exact hmarks.trans (refreshTarget_injectionsStay false u _)
  · exact .refl _

/-- R31: a target map written with a change takes an ONLINE unit's injection with it, marked for a trip. -/
theorem refreshTarget_injects {u : UnitIx} {p : Plant} (hs : (p.unit u).state = .online)
    (h : (p.unit u).target ≠ scheduledMap (p.unit u)) :
    u ∈ (refreshTarget true u p).injections ∧ u ∈ (refreshTarget true u p).protection := by
  have hwrite : refreshTarget true u p =
      (p.modUnit u fun r => { r with target := scheduledMap (p.unit u), fresh := false }).inject u true := by
    simp only [refreshTarget, writeTarget, hs, if_neg h, if_true]
  rw [hwrite]
  refine ⟨Plant.mem_inject .., ?_⟩
  by_cases hmarked : u ∈ (p.modUnit u fun r => { r with target := scheduledMap (p.unit u), fresh := false }).protection
  · exact (Plant.injectionsStay_inject ..).protection u hmarked
  · exact (Plant.mem_protection_inject hmarked).2 rfl

/-! ### The slots a cause covers (R72, R137) -/

/-- R137: a slot covered by a cause held is held in the state its causes give. -/
theorem trippedState_covered {causes : List Cause} {i : Slot} (h : ∃ c ∈ causes, c.covers i = true) :
    trippedState causes i = some (if ∃ d ∈ causes, d.covers i = true ∧ d.latched = true then .trippedLatched
      else .trippedAuto) := by
  have hlatched : (causes.any fun c => c.covers i && c.latched) = true ↔
      ∃ d ∈ causes, d.covers i = true ∧ d.latched = true := by simp
  have hany : (causes.any fun c => c.covers i) = true := by simpa using h
  unfold trippedState
  by_cases hl : ∃ d ∈ causes, d.covers i = true ∧ d.latched = true
  · rw [if_pos (hlatched.2 hl), if_pos hl]
  · rw [if_neg (hlatched.not.2 hl), if_neg hl, if_pos hany]

theorem trippedState_isTripped {causes : List Cause} {i : Slot} {ts : StageState}
    (h : trippedState causes i = some ts) : ts.isTripped = true := by
  unfold trippedState at h
  split at h
  · exact Option.some.inj h ▸ rfl
  · split at h
    · exact Option.some.inj h ▸ rfl
    · cases h

/-- R72: a stage whose slot is tripped. -/
structure Stage.TrippedAt (now minOff : Nat) (ts : StageState) (before st : Stage) : Prop where
  state : st.state = ts
  cut : before.state.isOn = true →
    st.stopTime = some now ∧ st.stopPending = false ∧ st.minOffEnd = some (now + minOff)
  kept : before.state.isOn = false → st.stopTime = before.stopTime

theorem tripStage_trippedAt {causes : List Cause} {i : Slot} {ts : StageState} (now minOff : Nat) (st : Stage)
    (h : trippedState causes i = some ts) : st.TrippedAt now minOff ts (tripStage now minOff causes i st) := by
  unfold tripStage
  rw [h]
  dsimp only
  split
  · next hon => exact ⟨rfl, fun _ => ⟨rfl, rfl, rfl⟩, fun hoff => absurd hon (by simp [hoff])⟩
  · next hoff => exact ⟨rfl, fun hon => absurd hon hoff, fun _ => rfl⟩

theorem StageState.isTripped_off {st : StageState} (h : st.isTripped = true) : st.isOn = false ∧ st.isFree = false := by
  cases st with
  | trippedAuto | trippedLatched => exact ⟨rfl, rfl⟩
  | notFitted | offLocked | offReady | queued | starting | runMin | running | inLocal => cases h

/-- R69, R72: a settlement leaves a tripped stage, and its slot off in the target map. -/
theorem settle_tripped (e : Env) {u : UnitIx} {r : Roof} {i : Slot}
    (h : (r.plant.unit u).stages[i].state.isTripped = true) :
    ((settle e u r).plant.unit u).stages[i] = (r.plant.unit u).stages[i] ∧
      ((r.plant.unit u).state.isSettled = true → ((settle e u r).plant.unit u).target.has i = false) := by
  obtain ⟨hoff, hbusy⟩ := StageState.isTripped_off h
  have hmarks : (settleMarks e u (r.plant.unit u)).stages[i] = (r.plant.unit u).stages[i] := by
    rw [settleMarks, UnitRec.mapStages_stages, settleStage, hoff]
    rfl
  by_cases hs : (r.plant.unit u).state.isSettled = true
  · obtain ⟨htarget, hstages⟩ := settle_unit e hs
    have hstage := hstages i
    rw [hmarks] at hstage
    refine ⟨hstage.resolve_right fun hfree => ?_, fun _ => ?_⟩
    · rw [hbusy] at hfree
      cases hfree.1
    · rw [htarget, scheduledMap_has, hmarks, hoff]
  · rw [settle, if_neg hs]
    exact ⟨rfl, fun h => absurd h hs⟩

/-- R72, R69: the slots of a scope that causes cover, behind their trip and the settlement of the unit. -/
theorem tripSlots_unit (e : Env) {u : UnitIx} {scope : Slot → Bool} {r : Roof} {i : Slot} {ts : StageState}
    (hbound : (e.cfg u).bound i = true) (hscope : scope i = true)
    (h : trippedState (r.plant.unit u).causes i = some ts) :
    let x := r.plant.unit u
    let t := tripSlots e u scope r
    let y := t.plant.unit u
    x.stages[i].TrippedAt e.now (minOffOf e.tables u i) ts y.stages[i] ∧
      (x.state.isSettled = true → y.target.has i = false) ∧
      (x.state = .online → x.target.has i = true → u ∈ t.plant.injections ∧ u ∈ t.plant.protection) := by
  intro x t y
  let tripped := moveUnit e u (fun p => p.modUnit u (tripRecord e u scope)) r
  obtain ⟨order, hunit⟩ := moveUnit_unit_self e u (fun p => p.modUnit u (tripRecord e u scope)) r
  rw [Plant.unit_modUnit_self] at hunit
  have hstage : (tripped.plant.unit u).stages[i] = tripStage e.now (minOffOf e.tables u i) x.causes i x.stages[i] := by
    rw [hunit]
    refine (UnitRec.mapStages_stages ..).trans ?_
    rw [hbound, hscope]
    rfl
  have htripped := tripStage_trippedAt e.now (minOffOf e.tables u i) x.stages[i] h
  rw [← hstage] at htripped
  have hrests : (tripped.plant.unit u).stages[i].state.isTripped = true := by
    rw [htripped.state]
    exact trippedState_isTripped h
  obtain ⟨m, b, hrefreshed⟩ := refreshTarget_unit_self true u tripped.plant
  obtain ⟨hkept, hslot⟩ := settle_tripped e (u := u) (r := tripped.onPlant (refreshTarget true u)) (i := i) (by
    rw [Roof.onPlant_plant, hrefreshed]
    exact hrests)
  rw [Roof.onPlant_plant, hrefreshed] at hkept hslot
  have hstate : (tripped.plant.unit u).state = x.state := by rw [hunit]; rfl
  refine ⟨?_, fun hs => hslot (hstate ▸ hs), fun honline htarget => ?_⟩
  · rw [← hkept] at htripped
    exact htripped
  · have hstay := settle_injectionsStay e u (tripped.onPlant (refreshTarget true u))
    have hinjects := refreshTarget_injects (hstate.trans honline) fun hsame => ?_
    · exact ⟨hstay.injections u hinjects.1, hstay.protection u hinjects.2⟩
    · have hsame' : x.target.has i = (scheduledMap (tripped.plant.unit u)).has i := by
        rw [← hsame, hunit]
        rfl
      rw [htarget, scheduledMap_has, (StageState.isTripped_off hrests).1] at hsame'
      cases hsame'

/-! ### The list, the capture and the notice (R140, R146, R147) -/

/-- R140: the roof with the cause in the unit's list, its capture made and its notice raised. -/
def heldRoof (e : Env) (u : UnitIx) (c : Cause) (r : Roof) : Roof :=
  ((r.onPlant fun p => p.modUnit u fun x => { x with causes := x.causes ++ [c] }).addCapture e
    (captureOf e u c (r.plant.unit u))).raise e .trip (unitAddr u) c.position (some c.tripClass.code)

theorem enterCause_eq (e : Env) (u : UnitIx) (cls : TripClass) (pos : Option Nat) (ap : AppliesWhen) (r : Roof) :
    enterCause e u cls pos ap r = tripSlots e u
      (Cause.covers ⟨cls, pos, ap, latchedAtEntry e.tables cls, true, e.now⟩)
      (heldRoof e u ⟨cls, pos, ap, latchedAtEntry e.tables cls, true, e.now⟩ r) := rfl

theorem heldRoof_unit (e : Env) (u : UnitIx) (c : Cause) (r : Roof) : (heldRoof e u c r).plant.unit u =
    { r.plant.unit u with causes := (r.plant.unit u).causes ++ [c] } := by
  rw [heldRoof, Roof.raise_plant, addCapture_plant, Roof.onPlant_plant, Plant.unit_modUnit_self]

/-- R147: a capture with a place free. -/
theorem heldRoof_room {e : Env} {u : UnitIx} {c : Cause} {r : Roof} (h : r.captures.length < 16) :
    (heldRoof e u c r).captures = r.captures ++ [captureOf e u c (r.plant.unit u)] ∧
      (heldRoof e u c r).notices = raiseNotice e.tables e.now .trip (u.val + 1) c.position
        (some (c.tripClass.code : Int)) r.notices := by
  have hroom : (r.onPlant fun p => p.modUnit u fun x => { x with causes := x.causes ++ [c] }).captures.length <
      Config.capturePlaces := h
  rw [heldRoof, Roof.addCapture, if_pos hroom]
  exact ⟨rfl, rfl⟩

/-- R147: a capture that takes the place of the oldest. -/
theorem heldRoof_full {e : Env} {u : UnitIx} {c : Cause} {r : Roof} {old : Capture} {rest : List Capture}
    (hcap : r.captures = old :: rest) (h : r.captures.length = 16) :
    (heldRoof e u c r).captures = rest ++ [captureOf e u c (r.plant.unit u)] ∧
      (heldRoof e u c r).notices = raiseNotice e.tables e.now .trip (u.val + 1) c.position
        (some (c.tripClass.code : Int))
        (raiseNotice e.tables e.now .captureOverwritten 0 none (some (old.unit : Int)) r.notices) := by
  have hfull : ¬((r.onPlant fun p => p.modUnit u fun x => { x with causes := x.causes ++ [c] }).captures.length <
      Config.capturePlaces) := by
    rw [Roof.onPlant_captures, h]
    decide
  rw [heldRoof, Roof.addCapture, if_neg hfull, Roof.onPlant_captures, hcap]
  exact ⟨rfl, rfl⟩

/-- R78: the trip of slots makes no capture, and raises LEAD_SWAPPED once at most. -/
theorem tripSlots_lists (e : Env) (u : UnitIx) (scope : Slot → Bool) (r : Roof) :
    (tripSlots e u scope r).captures = r.captures ∧
      SwapMayFollow e u r.notices (tripSlots e u scope r).notices := by
  have htrip := Roof.swappedOnce_moveUnit e u (fun p => p.modUnit u (tripRecord e u scope)) r
  rw [tripSlots_eq]
  exact ⟨by rw [settle_captures, Roof.onPlant_captures, moveUnit_captures], (htrip.refreshTarget true).settle⟩

/-- Settles O36: the list, the capture and the notice come first; the trip of the covered slots and the settlement
behind it keep them, up to one swap of the lead order. -/
theorem enteredCauseTripsItsSlots : Obligations.EnteredCauseTripsItsSlots := by
  intro e u cls pos ap r c x t y trip
  have hheld := heldRoof_unit e u c r
  have ht : t = tripSlots e u c.covers (heldRoof e u c r) := enterCause_eq ..
  obtain ⟨hcaptures, hswap⟩ := tripSlots_lists e u c.covers (heldRoof e u c r)
  have hmoves := (tripSlots_moves e u c.covers (heldRoof e u c r)).unit u
  rw [← ht] at hcaptures hswap hmoves
  have hcauses : y.causes = x.causes ++ [c] := by
    rw [hmoves.causes, hheld]
  refine ⟨hcauses, fun hroom => ?_, fun old rest hold hfull => ?_, fun i hbound hcovers => ?_⟩
  · obtain ⟨hcap, hnotices⟩ := heldRoof_room (e := e) (u := u) (c := c) hroom
    rw [hnotices] at hswap
    exact ⟨hcaptures.trans hcap, hswap⟩
  · obtain ⟨hcap, hnotices⟩ := heldRoof_full (e := e) (u := u) (c := c) hold hfull
    rw [hnotices] at hswap
    exact ⟨hcaptures.trans hcap, hswap⟩
  · have hcovered : ∃ d ∈ y.causes, d.covers i = true := ⟨c, by rw [hcauses]; simp, hcovers⟩
    have hstate := trippedState_covered hcovered
    have hsame : ((heldRoof e u c r).plant.unit u).causes = y.causes := by rw [hheld, hcauses]
    obtain ⟨htripped, htarget, hinject⟩ := tripSlots_unit e (r := heldRoof e u c r) hbound hcovers
      ((congrArg (trippedState · i) hsame).trans hstate)
    rw [hheld] at htripped htarget hinject
    exact ⟨htripped.state, htripped.cut, htripped.kept, htarget, hinject⟩

end Sys2Proof.Machine

namespace Sys2Proof.Machine

/-! ## The ranges of the records' fields (R40, R58, R125, R128, R136, R148, R169, R177) -/

/-- The offset of the first field that is out of its range, of fields given by their offset and whether they are in
range. -/
def firstOut (fields : List (Nat × Bool)) : Option Nat := (fields.find? fun f => !f.2).map (·.1)

/-- A field as its offset and whether it is in range. -/
def FieldSpec.judged (l : List Byte) (f : FieldSpec) : Nat × Bool := (f.offset, f.ok l)

/-- R155: the first field out of its range, as the records' order gives it. -/
theorem firstBad_eq_firstOut (fs : List FieldSpec) (l : List Byte) :
    firstBad fs l = firstOut (fs.map (FieldSpec.judged l)) := by
  induction fs with
  | nil => rfl
  | cons f rest ih =>
    by_cases h : f.ok l
    · simpa [firstBad, firstOut, FieldSpec.judged, h] using ih
    · simp [firstBad, firstOut, FieldSpec.judged, h]

/-- A field that is in range is passed over. -/
theorem firstBad_ok {f : FieldSpec} {l : List Byte} (h : f.ok l = true) (before after : List FieldSpec) :
    firstBad (before ++ f :: after) l = firstBad (before ++ after) l := by
  induction before with
  | nil => simp [firstBad, h]
  | cons g rest ih => simp only [List.cons_append, firstBad, ih]

/-! ### Each form of field -/

theorem byteField_judged (l : List Byte) (o : Nat) (low high : Int) :
    (byteField o low high).judged l = (o, decide (low ≤ u8At l o ∧ u8At l o ≤ high)) := by
  simp [FieldSpec.judged, byteField, FieldSpec.ok, FieldSpec.read]

theorem wordField_judged (l : List Byte) (o : Nat) (low high : Int) :
    (wordField o low high).judged l = (o, decide (low ≤ u16At l o ∧ u16At l o ≤ high)) := by
  simp [FieldSpec.judged, wordField, FieldSpec.ok, FieldSpec.read]

theorem signedField_judged (l : List Byte) (o : Nat) (low high : Int) :
    (signedField o low high).judged l = (o, decide (low ≤ s16At l o ∧ s16At l o ≤ high)) := by
  simp [FieldSpec.judged, signedField, FieldSpec.ok, FieldSpec.read]

/-- R40: an offset of a temperature. -/
theorem signedByte_judged (l : List Byte) (o : Nat) (low high : Int) :
    FieldSpec.judged l ⟨o, 1, true, low, high, none⟩ = (o, decide (low ≤ s8At l o ∧ s8At l o ≤ high)) := by
  simp [FieldSpec.judged, FieldSpec.ok, FieldSpec.read]

/-- R40, R128: a number 0..7 or 0xFF. -/
theorem orNone_judged (l : List Byte) (o : Nat) :
    FieldSpec.judged l ⟨o, 1, false, 0, 7, some 255⟩ = (o, decide (u8At l o ≤ 7 ∨ u8At l o = 255)) := by
  have hrange : FieldSpec.ok ⟨o, 1, false, 0, 7, some 255⟩ l = decide (u8At l o ≤ 7 ∨ u8At l o = 255) := by
    simp only [FieldSpec.ok, FieldSpec.read, ← Bool.decide_or, Option.some.injEq]
    exact decide_eq_decide.2 (by omega)
  rw [FieldSpec.judged, hrange]

/-! ### Fields that every record has in range -/

theorem anyByte_ok (l : List Byte) (o : Nat) : (byteField o 0 255).ok l = true := by
  have hbyte : u8At l o < 256 := (byteAt l o).isLt
  simp only [FieldSpec.ok, byteField, FieldSpec.read, Bool.or_eq_true, decide_eq_true_eq]
  omega

/-- R148: every unit mask is in range. -/
theorem anyMask_ok (l : List Byte) (o : Nat) : FieldSpec.ok ⟨o, 4, false, 0, 4294967295, none⟩ l = true := by
  have hlow := u16At_lt l o
  have hhigh := u16At_lt l (o + 2)
  simp only [FieldSpec.ok, FieldSpec.read, u32At, Bool.or_eq_true, decide_eq_true_eq]
  omega

/-! ### Each table -/

/-- R58: the kind byte of a PROFILE record that gives a kind is in range. -/
theorem kindField_ok {l : List Byte} (h : u8At l 0 ≤ 1) : (byteField 0 0 1).ok l = true := by
  simp only [FieldSpec.ok, byteField, FieldSpec.read, Bool.or_eq_true, decide_eq_true_eq]
  omega

/-- R148: a limit's field, by the quantity the record gives. -/
theorem limitField_judged (l : List Byte) (o : Nat) :
    (signedField o (bandLimits (u8At l 0)).1 (bandLimits (u8At l 0)).2).judged l =
      if u8At l 0 = 4 then (o, decide (-1600 ≤ s16At l o ∧ s16At l o ≤ 1600))
      else if u8At l 0 = 5 then (o, decide (0 ≤ s16At l o ∧ s16At l o ≤ 100))
      else (o, decide (-400 ≤ s16At l o ∧ s16At l o ≤ 1200)) := by
  rw [signedField_judged, bandLimits]
  split
  · rfl
  · split <;> rfl

/-- R125: the SHED record without its gating mask, every value of which is in range. -/
theorem firstBad_shed (l : List Byte) : firstBad shedFields l =
    firstOut ([byteField 0 0 4, byteField 1 0 4, byteField 2 0 4, byteField 3 0 4].map (FieldSpec.judged l)) :=
  (firstBad_ok (anyByte_ok l 4) [byteField 0 0 4, byteField 1 0 4, byteField 2 0 4, byteField 3 0 4] []).trans
    (firstBad_eq_firstOut ..)

/-- R148: the BAND record without its unit mask, every value of which is in range. -/
theorem firstBad_band (l : List Byte) : firstBad (bandFields l) l =
    firstOut ([byteField 0 0 5, byteField 1 0 2, signedField 6 (bandLimits (u8At l 0)).1 (bandLimits (u8At l 0)).2,
      signedField 8 (bandLimits (u8At l 0)).1 (bandLimits (u8At l 0)).2, byteField 10 0 100, wordField 11 0 1800,
      byteField 13 0 2].map (FieldSpec.judged l)) :=
  (firstBad_ok (anyMask_ok l 2) [byteField 0 0 5, byteField 1 0 2] _).trans (firstBad_eq_firstOut ..)

/-- R58: the fields of a PROFILE record behind the kind it gives. -/
theorem firstBad_profile_cool {l : List Byte} (h : u8At l 0 = 0) : firstBad (profileFields l) l =
    firstOut ([wordField 1 0 65535, wordField 3 60 600, wordField 5 60 900, wordField 7 300 1800, byteField 9 0 60,
      byteField 10 0 1].map (FieldSpec.judged l)) := by
  rw [profileFields, if_pos h]
  exact (firstBad_ok (kindField_ok (by omega)) [] _).trans (firstBad_eq_firstOut ..)

theorem firstBad_profile_heat {l : List Byte} (h : u8At l 0 = 1) : firstBad (profileFields l) l =
    firstOut ([wordField 1 0 65535, wordField 3 0 300, wordField 5 0 600, wordField 7 0 1800, byteField 9 0 60,
      byteField 10 0 1].map (FieldSpec.judged l)) := by
  rw [profileFields, if_neg (by omega)]
  exact (firstBad_ok (kindField_ok (by omega)) [] _).trans (firstBad_eq_firstOut ..)

/-- R58: a PROFILE record that gives no kind fails at its kind byte. -/
theorem firstBad_profile_unknown {l : List Byte} (h : 2 ≤ u8At l 0) : firstBad (profileFields l) l = some 0 := by
  have hrange : (byteField 0 0 1).ok l = decide ((0 : Int) ≤ u8At l 0 ∧ (u8At l 0 : Int) ≤ 1) :=
    congrArg Prod.snd (byteField_judged l 0 0 1)
  have hkind : ¬(byteField 0 0 1).ok l = true := by
    rw [hrange, decide_eq_true_eq]
    omega
  rw [profileFields, if_neg (by omega), firstBad, if_neg hkind]
  rfl

/-- R169: the fields of the NOTICE_CLASS record. -/
theorem noticeClassFields_judged (l : List Byte) : noticeClassFields.map (FieldSpec.judged l) =
    (List.range 24).map fun k => (k, decide (0 ≤ u8At l k ∧ u8At l k ≤ if k = 0 ∨ k = 23 then 0 else 2)) := by
  rw [noticeClassFields, List.map_map]
  refine List.map_congr_left fun k _ => ?_
  rw [Function.comp_apply, byteField_judged]
  norm_cast

/-- Settles O49: each table's list of fields, judged field by field. -/
theorem writeChecksEachFieldsRange : Obligations.WriteChecksEachFieldsRange := by
  intro l first b w sw sb orNone limit
  have hlimit (o : Nat) : (signedField o (bandLimits (u8At l 0)).1 (bandLimits (u8At l 0)).2).judged l = limit o :=
    limitField_judged l o
  have hclass (k : Nat) : (k, decide (0 ≤ u8At l k ∧ u8At l k ≤ if k = 0 ∨ k = 23 then 0 else 2)) =
      if k = 0 ∨ k = 23 then b k 0 0 else b k 0 2 := by
    split <;> rfl
  refine ⟨?roof, ?unit, fun h => ?cool, fun h => ?heat, firstBad_profile_unknown, ?shed, ?rotation, ?band, ?policy,
    ?noticeClass, ?output, rfl⟩
  case noticeClass =>
    rw [fieldsOf, firstBad_eq_firstOut, noticeClassFields_judged]
    simp only [hclass]
    rfl
  case cool =>
    refine (firstBad_profile_cool h).trans (congrArg firstOut ?_)
    simp only [List.map_cons, List.map_nil, byteField_judged, wordField_judged]
    norm_cast
  case heat =>
    refine (firstBad_profile_heat h).trans (congrArg firstOut ?_)
    simp only [List.map_cons, List.map_nil, byteField_judged, wordField_judged]
    norm_cast
  case shed =>
    refine (firstBad_shed l).trans (congrArg firstOut ?_)
    simp only [List.map_cons, List.map_nil, byteField_judged]
    norm_cast
  case band =>
    refine (firstBad_band l).trans (congrArg firstOut ?_)
    simp only [List.map_cons, List.map_nil, byteField_judged, wordField_judged, hlimit]
    norm_cast
  all_goals
    rw [fieldsOf, firstBad_eq_firstOut]
    refine congrArg firstOut ?_
    simp only [roofFields, unitFields, rotationFields, policyFields, outputFields, bindField, List.map_cons,
      List.map_nil, byteField_judged, wordField_judged, signedField_judged, signedByte_judged, orNone_judged]
    norm_cast

end Sys2Proof.Machine

namespace Sys2Proof.Machine

/-! ## The tick (R42, R49, R77) -/

theorem settleAll_captures (e : Env) (due : UnitIx → Bool) (r : Roof) : (settleAll e due r).captures = r.captures := by
  refine foldl_related (R := fun a b : Roof => b.captures = a.captures) (fun _ => rfl) (fun _ _ _ h k => k.trans h)
    _ _ (fun q u _ => ?_) r
  split
  · exact settle_captures ..
  · rfl

theorem evaluateGates_captures (e : Env) (also : UnitIx → Bool) (r : Roof) :
    (evaluateGates e also r).captures = r.captures := settleAll_captures ..

theorem advanceSecond_unit (s : State) (u : UnitIx) : (advanceSecond s).plant.unit u = tickUnit (s.plant.unit u) := by
  simp [advanceSecond, Plant.unit]

/-- R77: the run hours of a unit record at a tick. -/
theorem tickUnit_runHours (r : UnitRec) (j : Fin 4) : (tickUnit r).runHours[j] =
    if r.stages[j.val].state.isOn then min 4294967295 (r.runHours[j] + 1) else r.runHours[j] := by
  simp [tickUnit, satAdd]

/-- R49: the age of a unit's status record at a tick. -/
theorem tickUnit_statusAge (r : UnitRec) :
    (tickUnit r).status.map (·.age) = r.status.map fun st => min 65535 (st.age + 1) := by
  simp only [tickUnit, Option.map_map]
  rfl

/-- R49, R132: behind the counter and what rises with it, a tick moves stages and gates at most. -/
theorem tick_unit (s : State) (u : UnitIx) :
    (tickUnit (s.plant.unit u)).SequencedTo ((conclude (tick s)).plant.unit u) := by
  have hgates := evaluateGates_sequenced (advanceSecond s).env (fun _ => false) (advanceSecond s).roof u
  rw [State.roof_plant, advanceSecond_unit] at hgates
  exact hgates.trans ((conclude_moves (tick s)).unit u).sequenced

theorem exec_secondsTick {s : State} (h : s.powered = true) : exec .secondsTick s = .next (conclude (tick s)) :=
  roofCommand_on _ h

/-- What a tick leaves of the blocks other than the plant and the notices. -/
theorem tick_blocks (s : State) :
    let t := conclude (tick s)
    t.seconds = nextSecond s.seconds s.draws ∧ t.meter = s.meter ∧ t.shed = s.shed ∧ t.tables = s.tables ∧
    t.link = s.link ∧ t.jobs = s.jobs ∧ t.captures = s.captures := by
  obtain ⟨-, -, -, hseconds, htables, hmeter, hshed, -, hcaptures, hlink, hjobs, -⟩ := conclude_frame (tick s)
  exact ⟨hseconds, hmeter, hshed, htables, hlink, hjobs, hcaptures.trans (evaluateGates_captures ..)⟩

/-! ## Aging (R86) -/

theorem exec_entryAging {s : State} (h : s.powered = true) : exec .entryAging s = .next (s.onPlant ageQueue) :=
  whilePowered_on (fun s => s.onPlant ageQueue) h

/-- Settles O22: what the tick writes of a unit stays through the gates' evaluation and the pass that may follow; the
aged queue is a permutation of the aged entries. -/
theorem tickAdvancesCountersAndEntriesAge : Obligations.TickAdvancesCountersAndEntriesAge := by
  refine ⟨fun s hready => ?_, fun s hpowered => ?_⟩
  · obtain ⟨hseconds, hblocks⟩ := tick_blocks s
    refine ⟨_, exec_secondsTick hready.1, hseconds, fun u => ?_, hblocks⟩
    have hunit := tick_unit s u
    refine ⟨congrArg Call.age hunit.call, ?_, hunit.state, hunit.failures, fun j => ?_⟩
    · rw [hunit.status]
      exact tickUnit_statusAge _
    · rw [hunit.runHours]
      exact tickUnit_runHours _ j
  · exact ⟨_, exec_entryAging hpowered, orderQueue_perm _⟩

end Sys2Proof.Machine

namespace Sys2Proof.Machine

/-! ## A unit's power (R53, R54) -/

/-- R53: an estimate, slot by slot. -/
theorem estimate_eq (e : Env) (u : UnitIx) (r : UnitRec) : estimate e u r =
    min 65535 ((allSlots.map fun i => if onInEither r i then ratingOf e u i else 0).sum +
      if allSlots.any (onInEither r) = true ∨ r.status.any (·.run.fan) = true then (e.cfg u).baseRating else 0) := by
  have hratings (l : List Slot) : ((l.filter (onInEither r)).map (ratingOf e u)).sum =
      (l.map fun i => if onInEither r i then ratingOf e u i else 0).sum := by
    induction l with
    | nil => rfl
    | cons i rest ih => by_cases h : onInEither r i <;> simp [h, ih]
  have hbase : baseIncluded r = true ↔ allSlots.any (onInEither r) = true ∨ r.status.any (·.run.fan) = true := by
    rw [baseIncluded, Bool.or_eq_true]
    cases r.status <;> rfl
  simp only [estimate, hratings, hbase]

theorem statusFresh_none {e : Env} {r : UnitRec} (h : ∀ st, r.status = some st → e.tables.roof.staleLimit < st.age) :
    statusFresh e r = none := by
  rw [statusFresh, Option.filter_eq_none_iff]
  intro st hst
  simpa using h st hst

theorem statusFresh_some {e : Env} {r : UnitRec} {st : Status} (h : r.status = some st)
    (hage : st.age ≤ e.tables.roof.staleLimit) : statusFresh e r = some st := by
  rw [statusFresh, h, Option.filter_some, if_pos (decide_eq_true hage)]

/-- R54: an OFFLINE unit, and one whose status record is absent or stale. -/
theorem unitPower_estimated (e : Env) (u : UnitIx) {r : UnitRec} (hstate : r.state ≠ .absent)
    (h : r.state = .offline ∨ statusFresh e r = none ∨
      (r.state ≠ .inLocal ∧ (r.fresh = false ∨ r.window.isSome = true))) : unitPower e u r = estimate e u r := by
  have hnotFresh (hr : r.fresh = false ∨ r.window.isSome = true) : ¬(r.fresh = true ∧ r.window.isNone = true) := by
    cases hw : r.window <;> simp_all
  cases hs : r.state <;> simp only [unitPower, hs]
  case absent => exact absurd hs hstate
  case unadopted | online =>
    cases hf : statusFresh e r with
    | none => rfl
    | some st =>
      obtain ⟨-, hstarting⟩ : r.state ≠ .inLocal ∧ (r.fresh = false ∨ r.window.isSome = true) := by
        simpa [hs, hf] using h
      exact if_neg (hnotFresh hstarting)
  case inLocal =>
    obtain hf : statusFresh e r = none := by simpa [hs] using h
    rw [hf]

/-- R54: the reported power, of a LOCAL unit also while its report is not fresh. -/
theorem unitPower_reported (e : Env) (u : UnitIx) {r : UnitRec} {st : Status} (hfresh : statusFresh e r = some st)
    (h : r.state = .inLocal ∨
      ((r.state = .unadopted ∨ r.state = .online) ∧ r.fresh = true ∧ r.window = none)) :
    unitPower e u r = st.power := by
  rcases h with hs | ⟨hs | hs, hf, hw⟩ <;> simp [unitPower, *]

/-! ## A sample that closes nothing (R98 to R101) -/

/-- R98: the meter and the plant of a sample before its close test. -/
def sampled (s : State) : State :=
  { s with
    meter := sampleMeter s.tables.roof.intervalLength (roofPower s.env s.plant) s.meter
    plant := { s.plant with grantSum := 0 } }

theorem takeSample_eq (s : State) : takeSample s = leaveForecast (testClose (sampled s)) := rfl

/-- R104: a FREE_RUN interval whose length is not reached stays open. -/
theorem testClose_freeRun_open {s : State} (hmode : s.tables.roof.syncMode = .freeRun)
    (h : s.meter.clock < s.tables.roof.intervalLength) : testClose s = s := by
  have hopen : closeTest s.tables.roof s.meter.clock = none := by
    rw [closeTest, hmode]
    exact if_neg (by omega)
  rw [testClose, hopen]

/-- R98 to R101: the meter's registers behind a sample within the interval. -/
theorem sampleMeter_within {T : Nat} (P : Nat) {m : Meter} (h : m.clock + 1 < T) (hT : T ≤ 3600) :
    sampleMeter T P m = { m with
      power := P
      energy := m.energy + P
      clock := m.clock + 1
      peak := max m.peak P
      forecast := (m.energy + P + P * (T - (m.clock + 1))) / T } := by
  have hclock : satAdd 65535 m.clock 1 = m.clock + 1 := by
    rw [satAdd]
    omega
  rw [sampleMeter]
  simp only [hclock, forecastOf, if_pos h.le]

theorem installPending_none {s : State} (h : s.jobs.session.state ≠ .applying) : installPending s = s := if_neg h

/-- Settles O26: the sample's own steps with no close behind them, and the cases of a unit's power. -/
theorem demandSampleUpdatesTheMeter : Obligations.DemandSampleUpdatesTheMeter := by
  refine ⟨?sample, ?power⟩
  case sample =>
    intro s hready hsession hmode hclock hlength P F
    have hmeter := sampleMeter_within (roofPower s.env s.plant) hclock hlength
    have hopen : testClose (sampled s) = sampled s := testClose_freeRun_open hmode (by
      rw [sampled, hmeter]
      exact hclock)
    have hcommand := exec_demandSample hready.1
    rw [installPending_none hsession, takeSample_eq, hopen,
      conclude_no_pass (leaveForecast (sampled s)) hready.2] at hcommand
    refine ⟨_, hcommand, rfl, ?_, rfl, rfl, rfl, rfl, rfl, rfl, rfl⟩
    rw [driveOutputs_meter, leaveForecast, sampled, hmeter]
    rfl
  case power =>
    intro e u r on rating base estimated stale
    have hestimate : unitPower e u r = estimate e u r → unitPower e u r = estimated := (·.trans (estimate_eq e u r))
    refine ⟨fun hs => by rw [unitPower, hs], fun hs => hestimate (unitPower_estimated e u (by simp [hs]) (.inl hs)),
      fun hs => ?_⟩
    have hpresent : r.state ≠ .absent := by
      rintro h
      simp [h] at hs
    refine ⟨fun hnone => ?_, fun st hst => ⟨fun hold => ?_, fun hage hreported => ?_, fun hremote hstarting => ?_⟩⟩
    · exact hestimate (unitPower_estimated e u hpresent (.inr (.inl (statusFresh_none (by simp [hnone])))))
    · refine hestimate (unitPower_estimated e u hpresent (.inr (.inl (statusFresh_none fun st' hst' => ?_))))
      rw [hst] at hst'
      exact Option.some.inj hst' ▸ hold
    · refine unitPower_reported e u (statusFresh_some hst hage) ?_
      tauto
    · exact hestimate (unitPower_estimated e u hpresent (.inr (.inr ⟨hremote, hstarting⟩)))

end Sys2Proof.Machine

namespace Sys2Proof.Machine

/-! ## What one second's work leaves of a stage (R63 to R73) -/

/-- A slot under FORCE_OFF whose stage is neither on nor queued. -/
structure Stage.HeldOff (st : Stage) : Prop where
  forced : st.force = .forceOff
  off : st.state.isOn = false
  unqueued : st.state ≠ .queued

/-- A stage before and after work of the sequencer, the admission unit and the protection unit at the second `now`:
the force stays, a stop is stamped with the second, a stage that was on has stopped or is still on, and a slot that
FORCE_OFF holds off is not started. -/
structure Stage.TurnsTo (now minOff : Nat) (a b : Stage) : Prop where
  force : b.force = a.force
  stopped : (b.stopTime = a.stopTime ∧ b.minOffEnd = a.minOffEnd) ∨
    (b.stopTime = some now ∧ b.minOffEnd = some (now + minOff))
  stayed : a.state.isOn = true → b.stopTime = some now ∨
    (b.state.isOn = true ∧ (b.startTime = a.startTime ∨ b.startTime = some now))
  held : a.HeldOff → b.HeldOff

theorem Stage.TurnsTo.refl {now minOff : Nat} (a : Stage) : a.TurnsTo now minOff a :=
  ⟨rfl, .inl ⟨rfl, rfl⟩, fun h => .inr ⟨h, .inl rfl⟩, id⟩

/-- A stop of this second stays the latest. -/
theorem Stage.TurnsTo.stopTime_now {now minOff : Nat} {a b : Stage} (h : a.TurnsTo now minOff b)
    (ha : a.stopTime = some now) : b.stopTime = some now :=
  h.stopped.elim (fun hsame => hsame.1.trans ha) And.left

theorem Stage.TurnsTo.minOffEnd_now {now minOff : Nat} {a b : Stage} (h : a.TurnsTo now minOff b)
    (ha : a.minOffEnd = some (now + minOff)) : b.minOffEnd = some (now + minOff) :=
  h.stopped.elim (fun hsame => hsame.2.trans ha) And.right

theorem Stage.TurnsTo.trans {now minOff : Nat} {a b c : Stage} (h : a.TurnsTo now minOff b)
    (k : b.TurnsTo now minOff c) : a.TurnsTo now minOff c where
  force := k.force.trans h.force
  stopped := by
    rcases k.stopped with ⟨hstop, hend⟩ | hnow
    · rw [hstop, hend]
      exact h.stopped
    · exact .inr hnow
  stayed hon := by
    rcases h.stayed hon with hstop | ⟨hb, hstart⟩
    · exact .inl (k.stopTime_now hstop)
    · rcases k.stayed hb with hstop | ⟨hc, hstart'⟩
      · exact .inl hstop
      · refine .inr ⟨hc, ?_⟩
        rcases hstart' with hsame | hnow
        · rw [hsame]
          exact hstart
        · exact .inr hnow
  held := k.held ∘ h.held

/-- A new state for a stage that stays as it was otherwise. -/
theorem Stage.TurnsTo.of_state {now minOff : Nat} (st : Stage) (next : StageState) (mark : Bool)
    (hon : st.state.isOn = true → next.isOn = true)
    (hheld : st.HeldOff → next.isOn = false ∧ next ≠ .queued) :
    st.TurnsTo now minOff { st with state := next, stopPending := mark } where
  force := rfl
  stopped := .inl ⟨rfl, rfl⟩
  stayed h := .inr ⟨hon h, .inl rfl⟩
  held h := ⟨h.forced, (hheld h).1, (hheld h).2⟩

/-- The stop mark of a stage written. -/
theorem Stage.turnsTo_mark {now minOff : Nat} (st : Stage) (mark : Bool) :
    st.TurnsTo now minOff { st with stopPending := mark } :=
  .of_state st st.state mark id fun h => ⟨h.off, h.unqueued⟩

theorem stopStage_unqueued (now minOff : Nat) (st : Stage) : (stopStage now minOff st).state ≠ .queued := by
  unfold stopStage passOn
  split <;> simp

theorem stopStage_force (now minOff : Nat) (st : Stage) : (stopStage now minOff st).force = st.force := by
  unfold stopStage passOn
  split <;> rfl

/-- R68: a stage that stops. -/
theorem stopStage_turnsTo (now minOff : Nat) (st : Stage) : st.TurnsTo now minOff (stopStage now minOff st) := by
  have hstopped := stopStage_stoppedAt now minOff st
  exact {
    force := stopStage_force ..
    stopped := .inr ⟨hstopped.stopTime, hstopped.minOffEnd⟩
    stayed := fun _ => .inl hstopped.stopTime
    held := fun h => ⟨(stopStage_force ..).trans h.forced, hstopped.off, stopStage_unqueued now minOff st⟩ }

/-- R69: a stage at a settlement. -/
theorem settleStage_turnsTo (e : Env) (u : UnitIx) (r : UnitRec) (i : Slot) (st : Stage) :
    st.TurnsTo e.now (minOffOf e.tables u i) (settleStage e u r i st) := by
  unfold settleStage
  split
  · split
    · split
      · exact stopStage_turnsTo ..
      · exact st.turnsTo_mark true
    · exact st.turnsTo_mark false
  · exact .refl st

/-- R72: a stage at a trip. -/
theorem tripStage_turnsTo (now minOff : Nat) (causes : List Cause) (i : Slot) (st : Stage) :
    st.TurnsTo now minOff (tripStage now minOff causes i st) := by
  unfold tripStage
  split
  · exact .refl st
  · next ts hts =>
    have hoff := (StageState.isTripped_off (trippedState_isTripped hts)).1
    have hunqueued : ts ≠ .queued := by
      rintro rfl
      exact absurd (trippedState_isTripped hts) (by decide)
    split
    · exact {
        force := rfl
        stopped := .inr ⟨rfl, rfl⟩
        stayed := fun _ => .inl rfl
        held := fun h => ⟨h.forced, hoff, hunqueued⟩ }
    · next hst => exact .of_state st ts st.stopPending (fun h => absurd h hst) fun _ => ⟨hoff, hunqueued⟩

/-- R73: a stage at a release. -/
theorem releaseStage_turnsTo (inLocal : Bool) (now minOff : Nat) (causes : List Cause) (i : Slot) (st : Stage) :
    st.TurnsTo now minOff (releaseStage inLocal now minOff causes i st) := by
  unfold releaseStage
  split
  · next htripped =>
    have hst := (StageState.isTripped_off htripped).1
    split
    · next ts hts =>
      have hoff := (StageState.isTripped_off (trippedState_isTripped hts)).1
      refine .of_state st ts st.stopPending (fun h => by simp [hst] at h) fun _ => ⟨hoff, ?_⟩
      rintro rfl
      exact absurd (trippedState_isTripped hts) (by decide)
    · split
      · exact .of_state st .inLocal st.stopPending (fun h => by simp [hst] at h) fun _ => ⟨rfl, nofun⟩
      · exact stopStage_turnsTo ..
  · exact .refl st

/-! ### A unit record -/

/-- A unit record before and after such work on its stages, its maps and its unit state kept. -/
structure UnitRec.TurnsTo (e : Env) (u : UnitIx) (a b : UnitRec) : Prop where
  state : b.state = a.state
  ack : b.ack = a.ack
  target : b.target = a.target
  stage : ∀ i : Slot, a.stages[i].TurnsTo e.now (minOffOf e.tables u i) b.stages[i]

theorem UnitRec.turnsTo_mapStages {e : Env} {u : UnitIx} {r : UnitRec} {f : Slot → Stage → Stage}
    (h : ∀ i : Slot, r.stages[i].TurnsTo e.now (minOffOf e.tables u i) (f i r.stages[i])) :
    r.TurnsTo e u (r.mapStages f) where
  state := rfl
  ack := rfl
  target := rfl
  stage i := by
    rw [UnitRec.mapStages_stages]
    exact h i

/-- R63: a slot chosen to be QUEUED is under no FORCE_OFF. -/
theorem firstFree_force {r : UnitRec} {k : Kind} {i : Slot} (h : firstFree r k = some i) :
    r.stages[i].force ≠ .forceOff := by
  have hfree := List.find?_some h
  simp only [Bool.and_eq_true, decide_eq_true_eq] at hfree
  exact hfree.2

theorem StageState.isFree_off {st : StageState} (h : st.isFree = true) : st.isOn = false := by
  cases st <;> simp_all [StageState.isFree, StageState.isOn]

/-- R63: the queued slots chosen again. -/
theorem selectQueued_turnsTo (e : Env) (u : UnitIx) (hasCool hasHeat : Bool) (r : UnitRec) :
    r.TurnsTo e u (selectQueued hasCool hasHeat r) := by
  refine UnitRec.turnsTo_mapStages fun i => ?_
  split
  · next hfree =>
    have hoff := StageState.isFree_off hfree
    refine .of_state _ _ r.stages[i].stopPending (fun h => absurd h (Bool.eq_false_iff.1 hoff)) fun hheld => ?_
    split
    · next hchosen => exact absurd hheld.forced (firstFree_force hchosen.2)
    · exact ⟨rfl, nofun⟩
  · exact .refl _

/-- R64: a slot starts that is queued or under FORCE_ON. -/
theorem startRecord_turnsTo (e : Env) (u : UnitIx) (pr : Profile) {i : Slot} {r : UnitRec}
    (h : r.stages[i].state = .queued ∨ r.stages[i].force = .forceOn) :
    r.TurnsTo e u (startRecord e.now pr i r) where
  state := rfl
  ack := rfl
  target := rfl
  stage j := by
    unfold startRecord
    dsimp only
    rw [UnitRec.modStage, UnitRec.mapStages_stages]
    split
    · next hj =>
      subst hj
      exact {
        force := rfl
        stopped := .inl ⟨rfl, rfl⟩
        stayed := fun _ => .inr ⟨by dsimp only; split <;> rfl, .inr rfl⟩
        held := fun hheld => by
          rcases h with hqueued | hforced
          · exact absurd hqueued hheld.unqueued
          · exact absurd (hheld.forced.symm.trans hforced) nofun }
    · exact .refl _

/-! ### The plant -/

/-- Every unit before and after such work: the unit states and the acknowledged maps stay, and an ONLINE unit whose
target map has changed has a pending injection (R31). -/
structure Plant.Turns (e : Env) (p q : Plant) : Prop where
  state : ∀ v, (q.unit v).state = (p.unit v).state
  ack : ∀ v, (q.unit v).ack = (p.unit v).ack
  stage : ∀ v (i : Slot), (p.unit v).stages[i].TurnsTo e.now (minOffOf e.tables v i) (q.unit v).stages[i]
  asked : ∀ v ∈ p.injections, v ∈ q.injections
  asks : ∀ v, (p.unit v).state = .online → (q.unit v).target = (p.unit v).target ∨ v ∈ q.injections

theorem Plant.Turns.refl {e : Env} (p : Plant) : p.Turns e p :=
  ⟨fun _ => rfl, fun _ => rfl, fun _ _ => .refl _, fun _ => id, fun _ _ => .inl rfl⟩

theorem Plant.Turns.trans {e : Env} {p q r : Plant} (h : p.Turns e q) (k : q.Turns e r) : p.Turns e r where
  state v := (k.state v).trans (h.state v)
  ack v := (k.ack v).trans (h.ack v)
  stage v i := (h.stage v i).trans (k.stage v i)
  asked v hv := k.asked v (h.asked v hv)
  asks v hv := by
    rcases k.asks v ((h.state v).trans hv) with hsame | hasked
    · rw [hsame]
      exact (h.asks v hv).imp_right (k.asked v)
    · exact .inr hasked

/-- The unit records and the pending injections stay. -/
theorem Plant.Turns.of_units {e : Env} {p q : Plant} (hunits : q.units = p.units := by rfl)
    (hinj : q.injections = p.injections := by rfl) : p.Turns e q where
  state v := by rw [Plant.unit_congr hunits]
  ack v := by rw [Plant.unit_congr hunits]
  stage v i := by
    rw [Plant.unit_congr hunits]
    exact .refl _
  asked v hv := hinj ▸ hv
  asks v _ := .inl (by rw [Plant.unit_congr hunits])

theorem Plant.turns_modUnit {e : Env} {p : Plant} {u : UnitIx} {f : UnitRec → UnitRec}
    (h : (p.unit u).TurnsTo e u (f (p.unit u))) : p.Turns e (p.modUnit u f) := by
  have hunit (v : UnitIx) : (p.unit v).TurnsTo e v ((p.modUnit u f).unit v) := by
    rw [Plant.unit_modUnit]
    split
    · next hv =>
      rw [hv]
      exact h
    · exact ⟨rfl, rfl, rfl, fun _ => .refl _⟩
  exact ⟨fun v => (hunit v).state, fun v => (hunit v).ack, fun v => (hunit v).stage, fun _ => id,
    fun v _ => .inl (hunit v).target⟩

/-! ### The sequencer -/

theorem reselect_turns (e : Env) (u : UnitIx) (p : Plant) : p.Turns e (reselect u p) :=
  Plant.turns_modUnit (selectQueued_turnsTo ..)

/-- R31: a write of an ONLINE unit's target map that changes it asks for an injection. -/
theorem writeTarget_turns (e : Env) (prot : Bool) (u : UnitIx) (m : StageMap) (p : Plant) :
    p.Turns e (writeTarget prot u m p) := by
  obtain ⟨b, hunit⟩ := writeTarget_unit_self prot u m p
  have hmoves := (writeTarget_moves prot u m p).unit
  have hother (v : UnitIx) (h : v ≠ u) : (writeTarget prot u m p).unit v = p.unit v := by
    unfold writeTarget
    split
    · rfl
    · dsimp only
      split
      · rw [Plant.inject_unit, Plant.unit_modUnit_other _ _ _ _ h]
      · rw [Plant.unit_modUnit_other _ _ _ _ h]
  refine ⟨fun v => (hmoves v).state, fun v => (hmoves v).ack, fun v i => ?_,
    (writeTarget_injectionsStay prot u m p).injections, fun v honline => ?_⟩
  · by_cases h : v = u
    · subst h
      rw [hunit]
      exact .refl _
    · rw [hother v h]
      exact .refl _
  · by_cases h : v = u
    · subst h
      unfold writeTarget
      split
      · exact .inl rfl
      · dsimp only
        exact .inr (Plant.mem_inject ..)
    · exact .inl (by rw [hother v h])

theorem refreshTarget_turns (e : Env) (prot : Bool) (u : UnitIx) (p : Plant) : p.Turns e (refreshTarget prot u p) := by
  unfold refreshTarget
  split
  · exact writeTarget_turns ..
  · exact writeTarget_turns ..
  · exact writeTarget_turns ..
  · exact .refl p
  · exact .refl p

theorem moveUnit_turns (e : Env) (u : UnitIx) {f : Plant → Plant} {r : Roof} (h : r.plant.Turns e (f r.plant)) :
    r.plant.Turns e (moveUnit e u f r).plant := by
  rcases moveUnit_plant e u f r with hp | ⟨order, hp⟩
  · rwa [hp]
  · rw [hp]
    exact h.trans (Plant.turns_modUnit ⟨rfl, rfl, rfl, fun _ => .refl _⟩)

theorem examine_injections (e : Env) (u : UnitIx) (k : Kind) (p : Plant) :
    (examine e u k p).injections = p.injections := by
  unfold examine
  dsimp only
  split
  · split <;> rfl
  · split <;> rfl

theorem examine_turns (e : Env) (u : UnitIx) (k : Kind) (p : Plant) : p.Turns e (examine e u k p) :=
  .of_units (examine_units ..) (examine_injections ..)

theorem examineUnit_turns (e : Env) (u : UnitIx) (r : Roof) : r.plant.Turns e (examineUnit e u r).plant :=
  moveUnit_turns e u (((examine_turns ..).trans (examine_turns ..)).trans (reselect_turns ..))

theorem settleMarks_turns (e : Env) (u : UnitIx) (r : Roof) :
    r.plant.Turns e (moveUnit e u (fun p => p.modUnit u (settleMarks e u)) r).plant :=
  moveUnit_turns e u (Plant.turns_modUnit (UnitRec.turnsTo_mapStages fun _ => settleStage_turnsTo ..))

/-- What follows the marks of a settlement. -/
theorem settle_turns_marks (e : Env) {u : UnitIx} {r : Roof} (h : (r.plant.unit u).state.isSettled = true) :
    (moveUnit e u (fun p => p.modUnit u (settleMarks e u)) r).plant.Turns e (settle e u r).plant := by
  rw [settle, if_pos h]
  refine Plant.Turns.trans ?_ (examineUnit_turns ..)
  exact refreshTarget_turns ..

theorem settle_turns (e : Env) (u : UnitIx) (r : Roof) : r.plant.Turns e (settle e u r).plant := by
  by_cases h : (r.plant.unit u).state.isSettled = true
  · exact (settleMarks_turns e u r).trans (settle_turns_marks e h)
  · rw [settle, if_neg h]
    exact .refl _

theorem startSlot_turns (e : Env) (u : UnitIx) (pr : Profile) {i : Slot} {r : Roof}
    (h : (r.plant.unit u).stages[i].state = .queued ∨ (r.plant.unit u).stages[i].force = .forceOn) :
    r.plant.Turns e (startSlot e u i pr r).plant := by
  refine Plant.Turns.trans ?_ (settle_turns ..)
  exact (Plant.turns_modUnit (startRecord_turnsTo e u pr h)).trans (refreshTarget_turns ..)

theorem tripSlots_turns (e : Env) (u : UnitIx) (scope : Slot → Bool) (r : Roof) :
    r.plant.Turns e (tripSlots e u scope r).plant := by
  have hmoved : r.plant.Turns e (moveUnit e u (fun p => p.modUnit u (tripRecord e u scope)) r).plant := by
    refine moveUnit_turns e u (Plant.turns_modUnit (UnitRec.turnsTo_mapStages fun i => ?_))
    split
    · exact tripStage_turnsTo ..
    · exact .refl _
  rw [tripSlots_eq]
  refine Plant.Turns.trans ?_ (settle_turns ..)
  exact hmoved.trans (refreshTarget_turns ..)

/-- R73: the unit's record with its covered slots handed on for the causes left. -/
def releaseRecord (e : Env) (u : UnitIx) (scope : Slot → Bool) (x : UnitRec) : UnitRec :=
  x.mapStages fun i st =>
    if (e.cfg u).bound i && scope i then
      releaseStage (decide (x.state = .inLocal)) e.now (minOffOf e.tables u i) x.causes i st
    else st

theorem releaseSlots_eq (e : Env) (u : UnitIx) (scope : Slot → Bool) (r : Roof) : releaseSlots e u scope r =
    settle e u ((moveUnit e u (fun p => p.modUnit u (releaseRecord e u scope)) r).onPlant (refreshTarget false u)) := rfl

theorem releaseSlots_turns (e : Env) (u : UnitIx) (scope : Slot → Bool) (r : Roof) :
    r.plant.Turns e (releaseSlots e u scope r).plant := by
  have hmoved : r.plant.Turns e (moveUnit e u (fun p => p.modUnit u (releaseRecord e u scope)) r).plant := by
    refine moveUnit_turns e u (Plant.turns_modUnit (UnitRec.turnsTo_mapStages fun i => ?_))
    split
    · exact releaseStage_turnsTo ..
    · exact .refl _
  rw [releaseSlots_eq]
  refine Plant.Turns.trans ?_ (settle_turns ..)
  exact hmoved.trans (refreshTarget_turns ..)

/-! ### The admission unit -/

theorem queuedSlot_state {r : UnitRec} {k : Kind} {i : Slot} (h : queuedSlot r k = some i) :
    r.stages[i].state = .queued := by
  simpa using List.find?_some h

/-- R96: a manual start is made of a slot under FORCE_ON. -/
theorem firstManual_force {e : Env} {p : Plant} {u : UnitIx} {i : Slot} {pr : Profile}
    (h : firstManual e p = some (u, i, pr)) : (p.unit u).stages[i].force = .forceOn := by
  obtain ⟨ui, -, hready⟩ := List.exists_of_findSome?_eq_some h
  obtain ⟨pr', hready, hsame⟩ := Option.map_eq_some_iff.1 hready
  obtain ⟨rfl, rfl⟩ : ui.1 = u ∧ ui.2 = i := by simp_all
  unfold manualReady at hready
  dsimp only at hready
  split at hready
  · next hconditions => exact hconditions.1
  · cases hready

theorem grantSlot_turns (e : Env) (u : UnitIx) (pr : Profile) {i : Slot} {r : Roof}
    (h : (r.plant.unit u).stages[i].state = .queued ∨ (r.plant.unit u).stages[i].force = .forceOn) :
    r.plant.Turns e (grantSlot e u i pr r).plant :=
  Plant.Turns.trans .of_units (startSlot_turns e u pr h)

theorem requeue_turns (e : Env) (u : UnitIx) (k : Kind) (p : Plant) : p.Turns e (requeue e u k p) := by
  unfold requeue
  split
  · exact .refl p
  · exact Plant.Turns.trans .of_units (reselect_turns e u _)

theorem grantEntry_turns (e : Env) (n : Entry) (r : Roof) : r.plant.Turns e (grantEntry e n r).plant := by
  unfold grantEntry
  split
  · exact .refl _
  · next i hqueued =>
    split
    · exact .refl _
    · exact (grantSlot_turns e n.unit _ (.inl (queuedSlot_state hqueued))).trans (requeue_turns ..)

theorem admissionPass_turns (e : Env) (r : Roof) : r.plant.Turns e (admissionPass e r).plant := by
  unfold admissionPass
  split
  · next hmanual => exact grantSlot_turns e _ _ (.inr (firstManual_force hmanual))
  · dsimp only
    split
    · exact .of_units
    · exact Plant.Turns.trans .of_units (grantEntry_turns ..)

theorem runPasses_turns (e : Env) (n : Nat) (r : Roof) : r.plant.Turns e (runPasses e n r).plant := by
  induction n generalizing r with
  | zero => exact .of_units
  | succ n ih =>
    unfold runPasses
    split
    · exact (Plant.Turns.trans .of_units (admissionPass_turns ..)).trans (ih _)
    · exact .refl _

/-- What concludes a roof command is such work. -/
theorem conclude_turns (s : State) : s.plant.Turns s.env (conclude s).plant := by
  unfold conclude passAfterJoin
  split
  · exact runPasses_turns s.env 64 s.roof
  · exact .of_units

end Sys2Proof.Machine

namespace Sys2Proof.Machine

/-! ## Jobs served on the roof (R155, R156) -/

theorem JobWaits.queue {s : State} {req : Frame} {rest : List Frame} {p : List Byte} (h : JobWaits s req rest p) :
    s.link.jobs = req :: rest := h.2.2.1

theorem Calm.noPass {s : State} (h : Calm s) : s.plant.passDue = false := h.2.1

theorem serveJob_waiting {s : State} {req : Frame} {rest : List Frame} {code : Byte} {p : List Byte}
    (body : List Byte → State → Verdict) (h : JobWaits s req rest (code :: p)) :
    serveJob code body s = finishJob false req code s (body (code :: p) s) := by
  obtain ⟨-, hrestart, hjobs, hpayload⟩ := h
  exact serveWith_waiting id false code body s req rest p hjobs hrestart hpayload

/-- R19: the head job answered. -/
theorem Link.answerJob_cons {l : Link} {req : Frame} {rest : List Frame} (h : l.jobs = req :: rest) (f : Frame)
    (restart : Bool) :
    l.answerJob f restart = { l with jobs := rest, replies := l.replies ++ [⟨f, restart⟩] } := by
  rw [Link.answerJob, h]
  rfl

/-- R155, R156: a refused job changes nothing but the queues and the error list. -/
theorem refusesJob_of_verdict {c : Instr} {s : State} {req : Frame} {rest : List Frame} {code error : Byte}
    {p details : List Byte} {body : List Byte → State → Verdict}
    (hcommand : exec c s = roofCommand s (serveJob code body)) (hcalm : Calm s)
    (hwaits : JobWaits s req rest (code :: p)) (hbody : body (code :: p) s = .refused error details) :
    RefusesJob c s req rest code error details s.jobs := by
  have hserved : serveJob code body s = { s with
      link := jobAnswered s.link req rest 0x03 (error :: details)
      jobs := { s.jobs with errors := errorsAfter s code error } } := by
    rw [serveJob_waiting body hwaits, hbody, finishJob, State.onLink, logError_link,
      Link.answerJob_cons hwaits.queue]
    rfl
  have hcalm' : Calm (serveJob code body s) := by
    rw [hserved]
    exact hcalm
  rw [RefusesJob, hcommand, roofCommand_on _ hwaits.1, hcalm'.conclude_eq, hserved]

theorem OnlyPlantChanged.conclude {s m : State} {l : Link} (h : OnlyPlantChanged s m l) :
    OnlyPlantChanged s (conclude m) l := by
  obtain ⟨hpending, hpowered, hdraws, hseconds, htables, hmeter, hshed, hrotation, hcaptures, hlink, hjobs, hlines⟩ :=
    conclude_frame m
  unfold OnlyPlantChanged
  rw [hpending, hpowered, hdraws, hseconds, htables, hmeter, hshed, hrotation, hcaptures, hlink, hjobs, hlines]
  exact h

/-- The command carries out a job on the plant, which leaves the plant as `p` before the command is concluded. -/
structure ServedOn (c : Instr) (s t : State) (l : Link) (p : Plant) : Prop where
  command : exec c s = .next t
  only : OnlyPlantChanged s t l
  turns : p.Turns s.env t.plant
  moves : p.Moves t.plant
  still : p.passDue = false → t.plant = p

/-- R155: an accepted job on the roof that makes no capture. -/
theorem servedOn_of_verdict {c : Instr} {s : State} {req : Frame} {rest : List Frame} {code : Byte}
    {p results : List Byte} {body : List Byte → State → Verdict} {f : Env → Roof → Roof}
    (hcommand : exec c s = roofCommand s (serveJob code body)) (hwaits : JobWaits s req rest (code :: p))
    (hbody : body (code :: p) s = .accepted results (s.onRoof f))
    (hcaptures : (f s.env s.roof).captures = s.captures) :
    ∃ t, ServedOn c s t (jobAnswered s.link req rest 0x01 (code :: results)) (f s.env s.roof).plant := by
  let m : State := { s.onRoof f with link := jobAnswered s.link req rest 0x01 (code :: results) }
  have hserved : serveJob code body s = m := by
    rw [serveJob_waiting body hwaits, hbody, finishJob, State.onLink, State.onRoof_link,
      Link.answerJob_cons hwaits.queue]
    rfl
  have honly : OnlyPlantChanged s m (jobAnswered s.link req rest 0x01 (code :: results)) :=
    ⟨rfl, rfl, rfl, rfl, rfl, rfl, rfl, rfl, rfl, rfl, hcaptures, rfl, rfl, rfl, rfl⟩
  exact ⟨conclude m, by rw [hcommand, roofCommand_on _ hwaits.1, hserved], honly.conclude, conclude_turns m,
    conclude_moves m, conclude_plant_of_no_pass (s := m)⟩

/-! ## FORCE_STAGE (R153, R154) -/

/-- R155, R158: a job of the right length that names a unit. -/
theorem unitJob_addressed {n : Nat} {code a : Byte} {rest : List Byte} {u : UnitIx}
    (hlength : (code :: a :: rest).length = n) (ha : a.toNat = u.val + 1) (v : UnitIx → Verdict) :
    sized n (code :: a :: rest) (onUnit (code :: a :: rest) v) = v u := by
  have haddr : unitOfAddr (u8At (code :: a :: rest) 1) = some u := unitOfAddr_eq_some.2 ha
  rw [sized, if_pos hlength, onUnit, haddr]

section
variable {s : State} {u : UnitIx} {a : Byte} (ha : a.toNat = u.val + 1)
include ha

theorem forceStageJob_unfitted (b c : Byte) (h : s.tables.units[u].fitted = false) :
    forceStageJob [0x21, a, b, c] s = .refused 0x11 [1] := by
  refine Eq.trans (unitJob_addressed (by rfl) ha _) ?_
  rw [h]
  rfl

/-- R158: the fan is named by slot index 7. -/
theorem forceStageJob_fan (c : Byte) (h : s.tables.units[u].fitted = true) :
    forceStageJob [0x21, a, 7, c] s = forceFan u c.toNat s := by
  refine Eq.trans (unitJob_addressed (by rfl) ha _) ?_
  rw [h]
  rfl

theorem forceStageJob_slot {b : Byte} {i : Slot} (c : Byte) (hb : b.toNat = i.val)
    (h : s.tables.units[u].fitted = true) (hbound : s.tables.units[u].bound i = true) :
    forceStageJob [0x21, a, b, c] s = forceSlot u i c.toNat s := by
  have hnotFan : ¬u8At [0x21, a, b, c] 2 = 7 := by
    have hslot : u8At [0x21, a, b, c] 2 = i.val := hb
    omega
  have hslot : slotOfIndex (u8At [0x21, a, b, c] 2) = some i := by
    rw [show u8At [0x21, a, b, c] 2 = i.val from hb, slotOfIndex, dif_pos i.isLt]
  refine Eq.trans (unitJob_addressed (by rfl) ha _) ?_
  rw [h]
  simp only [Bool.not_true, Bool.false_eq_true, if_false, if_neg hnotFan, hslot, hbound, if_true]
  rfl

theorem forceStageJob_unbound {b : Byte} (c : Byte) (h : s.tables.units[u].fitted = true)
    (hb : 7 < b.toNat ∨ ∃ i : Slot, b.toNat = i.val ∧ s.tables.units[u].bound i = false) :
    forceStageJob [0x21, a, b, c] s = .refused 0x11 [2] := by
  have hnotFan : ¬u8At [0x21, a, b, c] 2 = 7 := by
    have hslot : u8At [0x21, a, b, c] 2 = b.toNat := rfl
    rcases hb with hlarge | ⟨i, hi, -⟩ <;> omega
  refine Eq.trans (unitJob_addressed (by rfl) ha _) ?_
  rw [h]
  simp only [Bool.not_true, Bool.false_eq_true, if_false, if_neg hnotFan]
  rcases hb with hlarge | ⟨i, hi, hbound⟩
  · rw [show u8At [0x21, a, b, c] 2 = b.toNat from rfl, slotOfIndex, dif_neg (by omega)]
    rfl
  · rw [show u8At [0x21, a, b, c] 2 = i.val from hi, slotOfIndex, dif_pos i.isLt]
    simp only [Fin.eta, hbound]
    rfl

end

/-- R153: the conflict that FORCE_ON is refused for. -/
theorem forceConflict_iff (r : UnitRec) (i : Slot) : forceConflict r i = true ↔
    ∃ j : Slot, slotKind j ≠ slotKind i ∧
      (r.target.has j = true ∨ r.ack.has j = true ∨ r.stages[j].force = .forceOn) := by
  have hkind (j : Slot) : slotKind j = otherKind (slotKind i) ↔ slotKind j ≠ slotKind i := by
    cases slotKind i <;> cases slotKind j <;> decide
  simp [forceConflict, slotsOf, mem_allSlots, hkind, onInEither, or_assoc]

theorem forceSlot_above {action : Nat} (u : UnitIx) (i : Slot) (s : State) (h : 2 < action) :
    forceSlot u i action s = .refused 0x11 [3] := by
  match action, h with
  | _ + 3, _ => rfl

theorem forceFan_other {action : Nat} (u : UnitIx) (s : State) (hon : action ≠ 1) (hrelease : action ≠ 2) :
    forceFan u action s = .refused 0x11 [3] := by
  match action, hon, hrelease with
  | 0, _, _ => rfl
  | _ + 3, _, _ => rfl

/-- R153: the slot's force written, before the settlement. -/
def forcedRoof (u : UnitIx) (i : Slot) (f : Force) (r : Roof) : Roof :=
  r.onPlant fun p => p.modUnit u fun x => x.modStage i fun st => { st with force := f }

theorem setForce_eq (e : Env) (u : UnitIx) (i : Slot) (f : Force) (r : Roof) :
    setForce e u i f r = settle e u (forcedRoof u i f r) := rfl

theorem forcedRoof_stage (u : UnitIx) (i : Slot) (f : Force) (r : Roof) :
    ((forcedRoof u i f r).plant.unit u).stages[i] = { (r.plant.unit u).stages[i] with force := f } := by
  rw [forcedRoof, Roof.onPlant_plant, Plant.unit_modUnit_self, UnitRec.modStage, UnitRec.mapStages_stages, if_pos rfl]

theorem setForce_force (e : Env) (u : UnitIx) (i : Slot) (f : Force) (r : Roof) :
    ((setForce e u i f r).plant.unit u).stages[i].force = f := by
  rw [setForce_eq, ((settle_turns e u (forcedRoof u i f r)).stage u i).force, forcedRoof_stage]

theorem setForce_captures (e : Env) (u : UnitIx) (i : Slot) (f : Force) (r : Roof) :
    (setForce e u i f r).captures = r.captures := settle_captures ..

/-- R68, R69: a settlement stops a RUNNING stage under FORCE_OFF, and does not queue it again. -/
theorem settle_heldOff (e : Env) {u : UnitIx} {i : Slot} {r : Roof} (hs : (r.plant.unit u).state.isSettled = true)
    (hforce : (r.plant.unit u).stages[i].force = .forceOff) (hrun : (r.plant.unit u).stages[i].state = .running) :
    ((settle e u r).plant.unit u).stages[i].HeldOff := by
  have hstop : settleStage e u (r.plant.unit u) i (r.plant.unit u).stages[i] =
      stopStage e.now (minOffOf e.tables u i) (r.plant.unit u).stages[i] := by
    have hon : (r.plant.unit u).stages[i].state.isOn = true := by rw [hrun]; rfl
    have hpending : pendingAfter e u (r.plant.unit u) i = true := by rw [pendingAfter, hforce]
    rw [settleStage, if_pos hon, if_pos hpending, if_pos hrun]
  obtain ⟨order, hunit⟩ := moveUnit_unit_self e u (fun p => p.modUnit u (settleMarks e u)) r
  rw [Plant.unit_modUnit_self] at hunit
  refine ((settle_turns_marks e hs).stage u i).held ?_
  rw [hunit, settleMarks]
  dsimp only
  rw [UnitRec.mapStages_stages, hstop]
  exact ⟨(stopStage_force ..).trans hforce, (stopStage_stoppedAt ..).off, stopStage_unqueued _ _ _⟩

/-- R153: FORCE_OFF stops a RUNNING stage of a settled unit. -/
theorem setForce_off (e : Env) {u : UnitIx} {i : Slot} {r : Roof} (hs : (r.plant.unit u).state.isSettled = true)
    (hrun : (r.plant.unit u).stages[i].state = .running) :
    ((setForce e u i .forceOff r).plant.unit u).stages[i].HeldOff := by
  have hstage := forcedRoof_stage u i .forceOff r
  have hstate : ((forcedRoof u i .forceOff r).plant.unit u).state = (r.plant.unit u).state := by
    rw [forcedRoof, Roof.onPlant_plant, Plant.unit_modUnit_self]
    rfl
  rw [setForce_eq]
  exact settle_heldOff e (hstate ▸ hs) (by rw [hstage]) (by rw [hstage]; exact hrun)

/-- R75, R154: the unit's record and the pass behind a change of the fan's force. -/
theorem setFanForce_leaves (u : UnitIx) (on : Bool) (p : Plant) :
    (setFanForce u on p).passDue = p.passDue ∧ ((setFanForce u on p).unit u).fanForce = on ∧
    ((p.unit u).state.isSettled = true → fanForcedOff (p.unit u) = false → on = true →
      ((setFanForce u on p).unit u).target.fan = true) := by
  have hunit : (p.modUnit u fun r => { r with fanForce := on }).unit u = { p.unit u with fanForce := on } :=
    Plant.unit_modUnit_self ..
  refine ⟨refreshTarget_passDue .., ?_, fun hs hfree hon => ?_⟩
  · rw [setFanForce, ((refreshTarget_moves ..).unit u).fanForce, hunit]
  · rw [setFanForce, refreshTarget_target false (by rw [hunit]; exact hs), scheduledMap_fan_iff, hunit]
    exact ⟨hfree, .inr (.inl hon)⟩

/-! ## ISOLATE and RESTORE (R47) -/

theorem isolateJob_addressed {s : State} {u : UnitIx} {a : Byte} (ha : a.toNat = u.val + 1) :
    isolateJob [0x22, a] s = .accepted [] (s.onRoof fun e => isolateUnit e u) :=
  unitJob_addressed (by rfl) ha _

theorem restoreJob_addressed {s : State} {u : UnitIx} {a : Byte} (ha : a.toNat = u.val + 1) :
    restoreJob [0x23, a] s = .accepted [] (s.onRoof fun e => restoreUnit e u) :=
  unitJob_addressed (by rfl) ha _

theorem isolateUnit_isolated {e : Env} {u : UnitIx} {r : Roof} (h : (r.plant.unit u).isolated = true) :
    isolateUnit e u r = r := if_pos h

theorem restoreUnit_free {e : Env} {u : UnitIx} {r : Roof} (h : (r.plant.unit u).isolated = false) :
    restoreUnit e u r = r := if_neg (by simp [h])

theorem withdrawEntries_unit_other (e : Env) {u v : UnitIx} (h : v ≠ u) (r : Roof) :
    (withdrawEntries e u r).plant.unit v = r.plant.unit v :=
  (moveUnit_unit_other e h _ r).trans (Plant.unit_modUnit_other _ _ _ _ h)

theorem withdrawEntries_captures (e : Env) (u : UnitIx) (r : Roof) : (withdrawEntries e u r).captures = r.captures :=
  moveUnit_captures ..

/-- R47: what an isolation leaves. -/
theorem isolateUnit_leaves (e : Env) (u : UnitIx) (r : Roof) :
    let p := (isolateUnit e u r).plant
    p.passDue = r.plant.passDue ∧ (isolateUnit e u r).captures = r.captures ∧ (p.unit u).isolated = true ∧
    (∀ v, v ≠ u → p.unit v = r.plant.unit v) ∧ (p.unit u).target = (r.plant.unit u).target ∧
    ((r.plant.unit u).isolated = false → ∀ n ∈ p.queue, n.unit ≠ u) := by
  by_cases h : (r.plant.unit u).isolated = true
  · rw [isolateUnit_isolated h]
    exact ⟨rfl, rfl, h, fun _ _ => rfl, rfl, fun hfree => by simp [h] at hfree⟩
  · have hset : isolateUnit e u r =
        withdrawEntries e u (r.onPlant fun p => p.modUnit u fun x => { x with isolated := true }) := if_neg h
    obtain ⟨order, hunit⟩ := withdrawEntries_unit_self e u
      (r.onPlant fun p => p.modUnit u fun x => { x with isolated := true })
    rw [Roof.onPlant_plant, Plant.unit_modUnit_self] at hunit
    dsimp only
    rw [hset, withdrawEntries_queue, hunit]
    exact ⟨withdrawEntries_passDue .., withdrawEntries_captures .., rfl,
      fun v hv => (withdrawEntries_unit_other e hv _).trans (Plant.unit_modUnit_other _ _ _ _ hv), rfl,
      fun _ n => unit_ne_of_mem_withoutEntries⟩

/-- R47: what a restoration leaves. -/
theorem restoreUnit_leaves (e : Env) (u : UnitIx) (r : Roof) :
    (restoreUnit e u r).captures = r.captures ∧ ((restoreUnit e u r).plant.unit u).isolated = false ∧
    ∀ v, v ≠ u → ((restoreUnit e u r).plant.unit v).isolated = (r.plant.unit v).isolated := by
  by_cases h : (r.plant.unit u).isolated = true
  · have hset : restoreUnit e u r =
        settle e u (r.onPlant fun p => p.modUnit u fun x => { x with isolated := false }) := if_pos h
    have hmoves := (settle_moves e u (r.onPlant fun p => p.modUnit u fun x => { x with isolated := false })).unit
    rw [hset]
    refine ⟨settle_captures .., (hmoves u).isolated.trans ?_, fun v hv => (hmoves v).isolated.trans ?_⟩
    · rw [Roof.onPlant_plant, Plant.unit_modUnit_self]
    · rw [Roof.onPlant_plant, Plant.unit_modUnit_other _ _ _ _ hv]
  · have hfree : (r.plant.unit u).isolated = false := by simpa using h
    rw [restoreUnit_free hfree]
    exact ⟨rfl, hfree, fun _ _ => rfl⟩

/-- Settles O46: each job by its verdict; a force survives the settlement and the passes behind it, and a stage that
FORCE_OFF has stopped is not started again. -/
theorem forceAndIsolationJobsSetTheirFlags : Obligations.ForceAndIsolationJobsSetTheirFlags := by
  intro s req rest a b u hcalm ha r conflict
  have hforce : exec .forceStage s = roofCommand s (serveJob 0x21 forceStageJob) := rfl
  have hconflict (i : Slot) : forceConflict (s.plant.unit u) i = true ↔ conflict i := forceConflict_iff ..
  refine ⟨fun i hb hfit hbound => ⟨?off, ?on, ?conflict, ?release, ?above⟩, ?unbound, ?fanOn, ?fanRelease, ?fanOther,
    ?unfitted, ?isolate, ?restore⟩
  case off =>
    intro hwaits
    obtain ⟨t, ht⟩ := servedOn_of_verdict hforce hwaits (forceStageJob_slot ha 0 hb hfit hbound)
      (setForce_captures s.env u i .forceOff s.roof)
    exact ⟨t, ht.command, ht.only, (ht.turns.stage u i).force.trans (setForce_force ..),
      fun hs hrun => ((ht.turns.stage u i).held (setForce_off s.env (r := s.roof) hs hrun)).off⟩
  case on =>
    intro hwaits hfree
    have hbody : forceStageJob [0x21, a, b, 1] s =
        .accepted [] (s.onRoof fun e r => (setForce e u i .forceOn r).onPlant callForPass) :=
      (forceStageJob_slot ha 1 hb hfit hbound).trans (if_neg fun h => hfree ((hconflict i).1 h))
    obtain ⟨t, ht⟩ := servedOn_of_verdict hforce hwaits hbody (setForce_captures s.env u i .forceOn s.roof)
    exact ⟨t, ht.command, ht.only, (ht.turns.stage u i).force.trans (setForce_force s.env u i .forceOn s.roof)⟩
  case conflict =>
    intro hwaits hheld
    have hdetail : BitVec.ofNat 8 i.val = b := by rw [← hb, BitVec.ofNat_toNat, BitVec.setWidth_eq]
    refine refusesJob_of_verdict hforce hcalm hwaits ((forceStageJob_slot ha 1 hb hfit hbound).trans ?_)
    exact (if_pos ((hconflict i).2 hheld)).trans (by rw [hdetail]; rfl)
  case release =>
    intro hwaits
    obtain ⟨t, ht⟩ := servedOn_of_verdict hforce hwaits (forceStageJob_slot ha 2 hb hfit hbound)
      (setForce_captures s.env u i .none s.roof)
    exact ⟨t, ht.command, ht.only, (ht.turns.stage u i).force.trans (setForce_force ..)⟩
  case above =>
    intro c hc hwaits
    exact refusesJob_of_verdict hforce hcalm hwaits
      ((forceStageJob_slot ha c hb hfit hbound).trans (forceSlot_above u i s hc))
  case unbound =>
    intro c hfit hunbound hwaits
    exact refusesJob_of_verdict hforce hcalm hwaits (forceStageJob_unbound ha c hfit hunbound)
  case fanOn =>
    intro hfit hwaits
    obtain ⟨t, ht⟩ := servedOn_of_verdict (f := fun _ r => r.onPlant (setFanForce u true)) hforce hwaits
      (forceStageJob_fan ha 1 hfit) rfl
    obtain ⟨hpass, hset, hfan⟩ := setFanForce_leaves u true s.plant
    have hplant : t.plant = setFanForce u true s.plant := ht.still (hpass.trans hcalm.noPass)
    exact ⟨t, ht.command, ht.only, hplant ▸ hset, fun hs hfree => hplant ▸ hfan hs hfree rfl⟩
  case fanRelease =>
    intro hfit hwaits
    obtain ⟨t, ht⟩ := servedOn_of_verdict (f := fun _ r => r.onPlant (setFanForce u false)) hforce hwaits
      (forceStageJob_fan ha 2 hfit) rfl
    obtain ⟨hpass, hset, -⟩ := setFanForce_leaves u false s.plant
    have hplant : t.plant = setFanForce u false s.plant := ht.still (hpass.trans hcalm.noPass)
    exact ⟨t, ht.command, ht.only, hplant ▸ hset⟩
  case fanOther =>
    intro c hfit hon hrelease hwaits
    exact refusesJob_of_verdict hforce hcalm hwaits ((forceStageJob_fan ha c hfit).trans
      (forceFan_other u s (fun h => hon (BitVec.eq_of_toNat_eq h)) fun h => hrelease (BitVec.eq_of_toNat_eq h)))
  case unfitted =>
    intro c hfit hwaits
    exact refusesJob_of_verdict hforce hcalm hwaits (forceStageJob_unfitted ha b c hfit)
  case isolate =>
    intro hwaits
    obtain ⟨hpass, hcaptures, hset, hother, htarget, hqueue⟩ := isolateUnit_leaves s.env u s.roof
    obtain ⟨t, ht⟩ := servedOn_of_verdict (c := .isolate) rfl hwaits (isolateJob_addressed ha) hcaptures
    have hplant : t.plant = (isolateUnit s.env u s.roof).plant := ht.still (hpass.trans hcalm.noPass)
    refine ⟨t, ht.command, ht.only, ?_⟩
    rw [hplant]
    exact ⟨hset, hother, htarget, hqueue, fun h => congrArg Roof.plant (isolateUnit_isolated (r := s.roof) h)⟩
  case restore =>
    intro hwaits
    obtain ⟨hcaptures, hset, hother⟩ := restoreUnit_leaves s.env u s.roof
    obtain ⟨t, ht⟩ := servedOn_of_verdict (c := .restore) rfl hwaits (restoreJob_addressed ha) hcaptures
    refine ⟨t, ht.command, ht.only, (ht.moves.unit u).isolated.trans hset,
      fun v hv => (ht.moves.unit v).isolated.trans (hother v hv), fun hfree => ?_⟩
    have hsame : restoreUnit s.env u s.roof = s.roof := restoreUnit_free hfree
    rw [hsame] at ht
    exact ht.still hcalm.noPass

end Sys2Proof.Machine

namespace Sys2Proof.Machine

/-! ## The protection steps of a fold as a walk (R79, R138) -/

/-- What proving, the cause lists and the bands write of a unit record: counts, causes, strikes and pairs. -/
def UnitRec.JudgedTo (a b : UnitRec) : Prop :=
  ∃ np cs ss ps, b = { a with notProven := np, causes := cs, strikes := ss, pairs := ps }

/-- A relation between roofs that every single step of a fold's protection work meets: judging the unit, tripping its
slots and handing them on. -/
structure ProtectionWalk (e : Env) (u : UnitIx) (R : Roof → Roof → Prop) : Prop where
  refl : ∀ r, R r r
  trans : ∀ a b c, R a b → R b c → R a c
  judge : ∀ (r q : Roof) (f : UnitRec → UnitRec), q.plant = r.plant.modUnit u f →
    (r.plant.unit u).JudgedTo (f (r.plant.unit u)) → R r q
  trip : ∀ scope r, R r (tripSlots e u scope r)
  release : ∀ scope r, R r (releaseSlots e u scope r)

theorem heldRoof_plant (e : Env) (u : UnitIx) (c : Cause) (r : Roof) :
    (heldRoof e u c r).plant = r.plant.modUnit u fun x => { x with causes := x.causes ++ [c] } := by
  rw [heldRoof, Roof.raise_plant, addCapture_plant]
  rfl

section
variable {e : Env} {u : UnitIx} {R : Roof → Roof → Prop}

/-- The unit's record judged, and nothing else. -/
theorem ProtectionWalk.judged (w : ProtectionWalk e u R) (r : Roof) {f : UnitRec → UnitRec}
    (h : (r.plant.unit u).JudgedTo (f (r.plant.unit u))) : R r { r with plant := r.plant.modUnit u f } :=
  w.judge r _ f rfl h

/-- A step of the lists only. -/
theorem ProtectionWalk.same (w : ProtectionWalk e u R) {r q : Roof} (h : q.plant = r.plant) : R r q :=
  w.judge r q id (h.trans (Plant.modUnit_eq_self rfl).symm) ⟨_, _, _, _, rfl⟩

theorem ProtectionWalk.foldl (w : ProtectionWalk e u R) {α : Type} {f : Roof → α → Roof} {l : List α}
    (h : ∀ r : Roof, ∀ x ∈ l, R r (f r x)) (r : Roof) : R r (l.foldl f r) :=
  foldl_related w.refl w.trans f l h r

theorem ProtectionWalk.enterCause (w : ProtectionWalk e u R) (cls : TripClass) (pos : Option Nat) (ap : AppliesWhen)
    (r : Roof) : R r (enterCause e u cls pos ap r) := by
  rw [enterCause_eq]
  exact w.trans _ _ _ (w.judge r _ _ (heldRoof_plant ..) ⟨_, _, _, _, rfl⟩) (w.trip ..)

theorem ProtectionWalk.enterIfShown (w : ProtectionWalk e u R) (shown : Bool) (cls : TripClass) (pos : Option Nat)
    (ap : AppliesWhen) (r : Roof) : R r (enterIfShown e u shown cls pos ap r) := by
  unfold Machine.enterIfShown
  dsimp only
  split
  · exact w.enterCause ..
  · exact w.refl r

theorem ProtectionWalk.removeCause (w : ProtectionWalk e u R) (c : Cause) (r : Roof) : R r (removeCause e u c r) :=
  w.trans _ _ _ (w.judge r _ (fun x => { x with causes := x.causes.filter fun d => !d.isOf c.tripClass c.position })
    (Roof.raise_plant ..) ⟨_, _, _, _, rfl⟩) (w.release ..)

theorem ProtectionWalk.escalateCause (w : ProtectionWalk e u R) (c : Cause) (held : Nat) (r : Roof) :
    R r (escalateCause e u c held r) := by
  have hmarked : R r (r.onPlant fun p => p.modUnit u fun x => { x with
      causes := x.causes.map fun d =>
        if d.isOf c.tripClass c.position then { d with latched := true, present := false } else d }) :=
    w.judged r ⟨_, _, _, _, rfl⟩
  exact w.trans _ _ _ (w.trans _ _ _ hmarked (w.trip ..)) (w.same (Roof.raise_plant ..))

theorem ProtectionWalk.releaseCause (w : ProtectionWalk e u R) (c : Cause) (r : Roof) : R r (releaseCause e u c r) := by
  unfold Machine.releaseCause
  split
  · exact w.removeCause ..
  · dsimp only
    split
    · exact w.trans _ _ _ (w.judged r ⟨_, _, _, _, rfl⟩) (w.escalateCause ..)
    · exact w.trans _ _ _ (w.judged r ⟨_, _, _, _, rfl⟩) (w.removeCause ..)

theorem ProtectionWalk.followCondition (w : ProtectionWalk e u R) (shown : Bool) (cls : TripClass) (pos : Option Nat)
    (r : Roof) : R r (followCondition e u shown cls pos r) := by
  have hflag : R r { r with plant := setPresent u cls pos shown r.plant } := w.judged r ⟨_, _, _, _, rfl⟩
  unfold Machine.followCondition
  dsimp only
  split
  · exact hflag
  · split
    · exact hflag
    · exact w.trans _ _ _ hflag (w.releaseCause ..)

theorem ProtectionWalk.foldFaults (w : ProtectionWalk e u R) (st : Status) (r : Roof) : R r (foldFaults e u st r) :=
  w.trans _ _ _ (w.foldl (fun _ _ _ => w.enterIfShown ..) r) (w.foldl (fun _ _ _ => w.followCondition ..) _)

theorem ProtectionWalk.evaluateBand (w : ProtectionWalk e u R) (st : Status) (b : Fin 16) (r : Roof) :
    R r (evaluateBand e u st b r) := by
  obtain ⟨q, hplant⟩ := evaluateBand_plant e u st b r
  exact w.judge r _ _ hplant ⟨_, _, _, _, rfl⟩

theorem ProtectionWalk.foldBands (w : ProtectionWalk e u R) (st : Status) (r : Roof) : R r (foldBands e u st r) :=
  w.trans _ _ _ (w.trans _ _ _ (w.foldl (fun _ _ _ => w.evaluateBand ..) r)
    (w.foldl (fun _ _ _ => w.enterIfShown ..) _)) (w.foldl (fun _ _ _ => w.followCondition ..) _)

theorem ProtectionWalk.foldProving (w : ProtectionWalk e u R) (st : Status) (r : Roof) : R r (foldProving e u st r) := by
  unfold Machine.foldProving
  split
  · refine w.foldl (fun q i _ => ?_) r
    obtain ⟨n, hplant⟩ := proveSlot_plant e u st q i
    exact w.judge q _ _ hplant ⟨_, _, _, _, rfl⟩
  · exact w.refl r

/-- The steps of a fold behind the maps of a LOCAL unit. -/
theorem ProtectionWalk.fold (w : ProtectionWalk e u R) (st : Status) (r : Roof) :
    R r (Machine.foldBands e u st (Machine.foldFaults e u st (Machine.foldProving e u st r))) :=
  w.trans _ _ _ (w.foldProving st r) (w.trans _ _ _ (w.foldFaults st _) (w.foldBands st _))

end

/-! ### The stages of every unit along the walk -/

theorem UnitRec.JudgedTo.turnsTo (e : Env) (u : UnitIx) {a b : UnitRec} (h : a.JudgedTo b) : a.TurnsTo e u b := by
  obtain ⟨np, cs, ss, ps, rfl⟩ := h
  exact ⟨rfl, rfl, rfl, fun _ => .refl _⟩

theorem turns_protectionWalk (e : Env) (u : UnitIx) : ProtectionWalk e u fun a b => a.plant.Turns e b.plant where
  refl r := .refl _
  trans _ _ _ := .trans
  judge r q f hq hf := by
    rw [hq]
    exact Plant.turns_modUnit (hf.turnsTo e u)
  trip scope r := tripSlots_turns ..
  release scope r := releaseSlots_turns ..

/-! ### A LOCAL unit along the walk (R55, R72, R73) -/

/-- A LOCAL slot, or a tripped one. -/
def Stage.IsLocal (st : Stage) : Prop := st.state = .inLocal ∨ st.state.isTripped = true

/-- A unit that is LOCAL stays LOCAL with its maps and its slots; the queue, the pending injections and the due pass
stay. -/
structure Plant.LocalStays (u : UnitIx) (p q : Plant) : Prop where
  state : (q.unit u).state = .inLocal
  target : (q.unit u).target = (p.unit u).target
  ack : (q.unit u).ack = (p.unit u).ack
  stage : ∀ i : Slot, (p.unit u).stages[i].IsLocal → (q.unit u).stages[i].IsLocal
  queue : q.queue = p.queue
  injections : q.injections = p.injections
  passDue : q.passDue = p.passDue

theorem Plant.LocalStays.trans {u : UnitIx} {p q r : Plant} (h : p.LocalStays u q) (k : q.LocalStays u r) :
    p.LocalStays u r where
  state := k.state
  target := k.target.trans h.target
  ack := k.ack.trans h.ack
  stage i := k.stage i ∘ h.stage i
  queue := k.queue.trans h.queue
  injections := k.injections.trans h.injections
  passDue := k.passDue.trans h.passDue

/-- A change of the LOCAL unit's record. -/
theorem Plant.localStays_modUnit {u : UnitIx} {p : Plant} {f : UnitRec → UnitRec} (hlocal : (p.unit u).state = .inLocal)
    (hstate : (f (p.unit u)).state = (p.unit u).state) (htarget : (f (p.unit u)).target = (p.unit u).target)
    (hack : (f (p.unit u)).ack = (p.unit u).ack)
    (hstage : ∀ i : Slot, (p.unit u).stages[i].IsLocal → (f (p.unit u)).stages[i].IsLocal) :
    p.LocalStays u (p.modUnit u f) := by
  have hunit : (p.modUnit u f).unit u = f (p.unit u) := Plant.unit_modUnit_self ..
  exact ⟨by rw [hunit, hstate, hlocal], by rw [hunit, htarget], by rw [hunit, hack],
    fun i => by rw [hunit]; exact hstage i, rfl, rfl, rfl⟩

theorem tripStage_isLocal (now minOff : Nat) (causes : List Cause) (i : Slot) {st : Stage} (h : st.IsLocal) :
    (tripStage now minOff causes i st).IsLocal := by
  unfold tripStage
  split
  · exact h
  · next hts =>
    have htripped := trippedState_isTripped hts
    split <;> exact .inr htripped

theorem releaseStage_isLocal (now minOff : Nat) (causes : List Cause) (i : Slot) {st : Stage} (h : st.IsLocal) :
    (releaseStage true now minOff causes i st).IsLocal := by
  unfold releaseStage
  split
  · split
    · next hts => exact .inr (trippedState_isTripped hts)
    · exact .inl rfl
  · exact h

/-- Moves of a LOCAL unit's slots: neither the map written again nor the settlement finds anything to do. -/
theorem moved_localStays (e : Env) {u : UnitIx} (prot : Bool) (f : UnitRec → Slot → Stage → Stage) {r : Roof}
    (hlocal : (r.plant.unit u).state = .inLocal)
    (hstage : ∀ i : Slot, (r.plant.unit u).stages[i].IsLocal →
      (f (r.plant.unit u) i (r.plant.unit u).stages[i]).IsLocal) :
    r.plant.LocalStays u (settle e u ((moveUnit e u (fun p => p.modUnit u fun x => x.mapStages (f x)) r).onPlant
      (refreshTarget prot u))).plant := by
  have hmapped : r.plant.LocalStays u (r.plant.modUnit u fun x => x.mapStages (f x)) :=
    Plant.localStays_modUnit hlocal rfl rfl rfl fun i hi => by
      rw [UnitRec.mapStages_stages]
      exact hstage i hi
  have hmoved : r.plant.LocalStays u (moveUnit e u (fun p => p.modUnit u fun x => x.mapStages (f x)) r).plant := by
    rcases moveUnit_plant e u (fun p => p.modUnit u fun x => x.mapStages (f x)) r with hp | ⟨order, hp⟩
    · rw [hp]
      exact hmapped
    · rw [hp]
      exact hmapped.trans (Plant.localStays_modUnit hmapped.state rfl rfl rfl fun _ => id)
  have hrefresh : refreshTarget prot u (moveUnit e u (fun p => p.modUnit u fun x => x.mapStages (f x)) r).plant =
      (moveUnit e u (fun p => p.modUnit u fun x => x.mapStages (f x)) r).plant := by
    simp only [refreshTarget, hmoved.state]
  rw [settle, Roof.onPlant_plant, hrefresh, if_neg (by simp [hmoved.state, UnitState.isSettled]), Roof.onPlant_plant,
    hrefresh]
  exact hmoved

theorem local_protectionWalk (e : Env) (u : UnitIx) : ProtectionWalk e u fun a b =>
    (a.plant.unit u).state = .inLocal → a.plant.LocalStays u b.plant where
  refl r h := ⟨h, rfl, rfl, fun _ => id, rfl, rfl, rfl⟩
  trans a b c hab hbc h := (hab h).trans (hbc (hab h).state)
  judge r q f hq hf h := by
    obtain ⟨np, cs, ss, ps, hf⟩ := hf
    rw [hq]
    exact Plant.localStays_modUnit h (by rw [hf]) (by rw [hf]) (by rw [hf]) fun i hi => by rw [hf]; exact hi
  trip scope r h := by
    refine moved_localStays e true _ h fun i hi => ?_
    split
    · exact tripStage_isLocal _ _ _ _ hi
    · exact hi
  release scope r h := by
    refine moved_localStays e false _ h fun i hi => ?_
    split
    · rw [decide_eq_true h]
      exact releaseStage_isLocal _ _ _ _ hi
    · exact hi

/-! ## A fold into LOCAL (R52, R55) -/

/-- R55: the maps of a LOCAL unit behind its report. -/
theorem foldLocalMaps_local {u : UnitIx} (st : Status) {r : Roof} (hlocal : (r.plant.unit u).state = .inLocal) :
    let p := (foldLocalMaps u st r).plant
    (p.unit u).state = .inLocal ∧ (p.unit u).target = st.run ∧ (p.unit u).ack = st.run ∧
    (p.unit u).stages = (r.plant.unit u).stages ∧ p.queue = r.plant.queue ∧ p.injections = r.plant.injections ∧
    p.passDue = r.plant.passDue := by
  obtain ⟨b, hunit⟩ := writeTarget_unit_self false u st.run r.plant
  have hinjections : (writeTarget false u st.run r.plant).injections = r.plant.injections := by
    unfold writeTarget
    split
    · rfl
    · dsimp only
      rw [if_neg (by simp [hlocal])]
      rfl
  have hwritten : (foldLocalMaps u st r).plant = followReport u st.run r.plant := by
    rw [foldLocalMaps, if_pos hlocal]
  have hself : (followReport u st.run r.plant).unit u =
      { r.plant.unit u with target := st.run, fresh := b, ack := st.run } := by
    rw [followReport, Plant.unit_modUnit_self, hunit]
  dsimp only
  rw [hwritten, hself]
  exact ⟨hlocal, rfl, rfl, rfl, writeTarget_queue .., hinjections, writeTarget_passDue ..⟩

theorem foldLocalMaps_remote {u : UnitIx} (st : Status) {r : Roof} (h : (r.plant.unit u).state ≠ .inLocal) :
    foldLocalMaps u st r = r := if_neg h

/-- R55: what entering LOCAL leaves. -/
theorem enterLocal_leaves (e : Env) (u : UnitIx) (r : Roof) :
    let p := (enterLocal e u r).plant
    (p.unit u).state = .inLocal ∧ (∀ i : Slot, (e.cfg u).bound i = true → (p.unit u).stages[i].IsLocal) ∧
    p.queue = withoutEntries u r.plant.queue ∧ u ∉ p.injections ∧ p.passDue = r.plant.passDue := by
  let moved := r.onPlant fun p => p.modUnit u fun x =>
    { x.mapStages fun i st =>
        if (e.cfg u).bound i && !st.state.isTripped then { st with state := .inLocal, stopPending := false }
        else st with
      state := .inLocal }
  obtain ⟨order, hunit⟩ := withdrawEntries_unit_self e u moved
  have hentered : (enterLocal e u r).plant = (withdrawEntries e u moved).plant.dropInjection u := rfl
  have hmoved (i : Slot) (hbound : (e.cfg u).bound i = true) : (moved.plant.unit u).stages[i].IsLocal := by
    rw [Roof.onPlant_plant, Plant.unit_modUnit_self]
    dsimp only
    rw [UnitRec.mapStages_stages, hbound]
    by_cases htripped : (r.plant.unit u).stages[i].state.isTripped = true
    · rw [htripped]
      exact .inr htripped
    · rw [Bool.eq_false_of_not_eq_true htripped]
      exact .inl rfl
  have hstate : (moved.plant.unit u).state = .inLocal := by
    rw [Roof.onPlant_plant, Plant.unit_modUnit_self]
  dsimp only
  rw [hentered, Plant.dropInjection_unit, hunit]
  refine ⟨hstate, fun i hbound => ?_, withdrawEntries_queue .., (Plant.not_mem_dropInjection ..).1,
    withdrawEntries_passDue ..⟩
  rcases selectQueued_reselected false false (moved.plant.unit u) i with hsame | ⟨hfree, -⟩
  · dsimp only
    rw [hsame]
    exact hmoved i hbound
  · rcases hmoved i hbound with hlocal | htripped
    · rw [hlocal] at hfree
      cases hfree
    · rw [(StageState.isTripped_off htripped).2] at hfree
      cases hfree

/-- R52: the unit's record before it enters LOCAL at its adoption. -/
def clearedRoof (u : UnitIx) (r : Roof) : Roof :=
  r.onPlant fun p => p.modUnit u fun x => { x with failures := 0, notProven := tabulate fun _ => 0 }

theorem adoptLocal_plant (e : Env) (u : UnitIx) (r : Roof) :
    (adoptLocal e u r).plant = (enterLocal e u (clearedRoof u r)).plant := by
  rw [adoptLocal, Roof.raise_plant, Roof.raise_plant, clearedRoof]

/-- R46, R52, R55: a hand report takes a unit that was not LOCAL into LOCAL. -/
theorem foldState_hand (e : Env) {u : UnitIx} {st : Status} {r : Roof} (hhand : st.hand = true)
    (hpresent : (r.plant.unit u).state ≠ .absent) (hremote : (r.plant.unit u).state ≠ .inLocal) :
    ∃ r', (foldState e u st r).plant = (enterLocal e u r').plant ∧ r'.plant.queue = r.plant.queue ∧
      r'.plant.passDue = r.plant.passDue := by
  have hadopts : (clearedRoof u r).plant.queue = r.plant.queue ∧ (clearedRoof u r).plant.passDue = r.plant.passDue :=
    ⟨Plant.modUnit_queue .., Plant.modUnit_passDue ..⟩
  cases hs : (r.plant.unit u).state <;> simp only [foldState, hhand, hs]
  case absent => exact absurd hs hpresent
  case inLocal => exact absurd hs hremote
  case online => exact ⟨r, Roof.raise_plant .., rfl, rfl⟩
  case unadopted | offline => exact ⟨clearedRoof u r, adoptLocal_plant .., hadopts⟩

theorem foldState_local_hand (e : Env) {u : UnitIx} {st : Status} {r : Roof} (hhand : st.hand = true)
    (hlocal : (r.plant.unit u).state = .inLocal) : foldState e u st r = r := by
  simp only [foldState, hhand, hlocal]

/-- What a fold of a hand report leaves behind the unit state. -/
theorem foldEffects_local (e : Env) {u : UnitIx} (st : Status) {r : Roof}
    (hlocal : ((foldState e u st r).plant.unit u).state = .inLocal) :
    let m := (foldState e u st r).plant
    let p := (foldEffects e u st r).plant
    (p.unit u).state = .inLocal ∧ (p.unit u).target = st.run ∧ (p.unit u).ack = st.run ∧
    (∀ i : Slot, (m.unit u).stages[i].IsLocal → (p.unit u).stages[i].IsLocal) ∧ p.queue = m.queue ∧
    p.injections = m.injections ∧ p.passDue = m.passDue := by
  obtain ⟨hstate, htarget, hack, hstages, hqueue, hinjections, hpass⟩ := foldLocalMaps_local st hlocal
  have hwalk : (foldLocalMaps u st (foldState e u st r)).plant.LocalStays u (foldEffects e u st r).plant :=
    (local_protectionWalk e u).fold st _ hstate
  refine ⟨hwalk.state, hwalk.target.trans htarget, hwalk.ack.trans hack, fun i hi => hwalk.stage i ?_,
    hwalk.queue.trans hqueue, hwalk.injections.trans hinjections, hwalk.passDue.trans hpass⟩
  rw [hstages]
  exact hi

/-! ## A fold into ONLINE (R50, R51, R56) -/

/-- R34: where the unit's acknowledged and target maps differ, an injection is pending. -/
def Plant.AskedWhereDiffers (u : UnitIx) (p : Plant) : Prop := (p.unit u).ack ≠ (p.unit u).target → u ∈ p.injections

theorem Plant.Turns.askedWhereDiffers {e : Env} {u : UnitIx} {p q : Plant} (h : p.Turns e q)
    (honline : (p.unit u).state = .online) (hp : p.AskedWhereDiffers u) : q.AskedWhereDiffers u := by
  intro hdiffer
  rcases h.asks u honline with hsame | hasked
  · rw [h.ack, hsame] at hdiffer
    exact h.asked u (hp hdiffer)
  · exact hasked

/-- R34, R51: behind the repetition rule. -/
theorem repetition_askedWhereDiffers {u : UnitIx} {p : Plant} (honline : (p.unit u).state = .online) :
    (repetition u p).AskedWhereDiffers u := by
  intro hdiffer
  have hunit : (repetition u p).unit u = p.unit u := Plant.unit_congr (repetition_frame u p).1 u
  rw [hunit] at hdiffer
  by_cases hin : u ∈ p.injections
  · have hsame : repetition u p = p := if_neg (by simp [hin])
    rwa [hsame]
  · exact (mem_repetition_iff honline hin).2 hdiffer

/-- The stages of the record `x` moved on in the plant `p`, whose unit is ONLINE with the acknowledged map `ack`. -/
structure Plant.OnlineFrom (e : Env) (u : UnitIx) (x : UnitRec) (ack : StageMap) (p : Plant) : Prop where
  state : (p.unit u).state = .online
  ack : (p.unit u).ack = ack
  stage : ∀ i : Slot, x.stages[i].TurnsTo e.now (minOffOf e.tables u i) (p.unit u).stages[i]

theorem Plant.OnlineFrom.turns {e : Env} {u : UnitIx} {x : UnitRec} {ack : StageMap} {p q : Plant}
    (h : p.OnlineFrom e u x ack) (k : p.Turns e q) : q.OnlineFrom e u x ack where
  state := (k.state u).trans h.state
  ack := (k.ack u).trans h.ack
  stage i := (h.stage i).trans (k.stage u i)

/-- R51: the acknowledged map at adoption is read from the stages. -/
theorem adoptedAck_congr (run : StageMap) {a b : UnitRec} (h : a.stages = b.stages) :
    adoptedAck run a = adoptedAck run b := by
  rw [adoptedAck, adoptedAck, h]

/-- R50: the roof with the unit's stages compared. -/
def comparedRoof (e : Env) (u : UnitIx) (run : StageMap) (r : Roof) : Roof :=
  moveUnit e u (fun p => p.modUnit u (adoptStages e u run)) r

/-- R51: the adopted map written, and the unit ONLINE with its acknowledged map. -/
def adoptedPlant (u : UnitIx) (run : StageMap) (p : Plant) : Plant :=
  (writeTarget false u (adoptedMap run (p.unit u)) p).modUnit u fun x =>
    { x with ack := adoptedAck run x, state := .online, failures := 0 }

theorem adoptOnline_eq (e : Env) (u : UnitIx) (run : StageMap) (r : Roof) : adoptOnline e u run r =
    (settle e u (((comparedRoof e u run r).onPlant (adoptedPlant u run)).raise e .unitOnline (unitAddr u) none
      (some UnitState.online.code))).onPlant (repetition u) := rfl

theorem comparedRoof_stages (e : Env) (u : UnitIx) (run : StageMap) (r : Roof) :
    ((comparedRoof e u run r).plant.unit u).stages = (adoptStages e u run (r.plant.unit u)).stages := by
  obtain ⟨order, hunit⟩ := moveUnit_unit_self e u (fun p => p.modUnit u (adoptStages e u run)) r
  rw [comparedRoof, hunit, Plant.unit_modUnit_self]

theorem adoptedPlant_onlineFrom (e : Env) (u : UnitIx) (run : StageMap) (p : Plant) :
    (adoptedPlant u run p).OnlineFrom e u (p.unit u) (adoptedAck run (p.unit u)) := by
  obtain ⟨b, hwritten⟩ := writeTarget_unit_self false u (adoptedMap run (p.unit u)) p
  have hunit : (adoptedPlant u run p).unit u = { p.unit u with
      target := adoptedMap run (p.unit u), fresh := b, ack := adoptedAck run (p.unit u), state := .online,
      failures := 0 } := by
    rw [adoptedPlant, Plant.unit_modUnit_self, hwritten]
    rfl
  exact ⟨by rw [hunit], by rw [hunit], fun i => by rw [hunit]; exact .refl _⟩

theorem Plant.OnlineFrom.congr {e : Env} {u : UnitIx} {x y : UnitRec} {a b : StageMap} {p q : Plant}
    (h : p.OnlineFrom e u x a) (hunits : q.units = p.units) (hstages : x.stages = y.stages) (hack : a = b) :
    q.OnlineFrom e u y b := by
  have hunit := Plant.unit_congr hunits u
  exact ⟨by rw [hunit, h.state], by rw [hunit, h.ack, hack], fun i => by rw [hunit, ← hstages]; exact h.stage i⟩

/-- R50, R51: what an adoption into ONLINE leaves. -/
theorem adoptOnline_leaves (e : Env) (u : UnitIx) (run : StageMap) (r : Roof) :
    let x := adoptStages e u run (r.plant.unit u)
    let p := (adoptOnline e u run r).plant
    p.OnlineFrom e u x (adoptedAck run x) ∧ p.AskedWhereDiffers u := by
  have hstages := comparedRoof_stages e u run r
  have hadopted := adoptedPlant_onlineFrom e u run (comparedRoof e u run r).plant
  rw [adoptedAck_congr run hstages] at hadopted
  have hsettled := hadopted.turns (settle_turns e u (((comparedRoof e u run r).onPlant (adoptedPlant u run)).raise e
    .unitOnline (unitAddr u) none (some UnitState.online.code)))
  dsimp only
  rw [adoptOnline_eq, Roof.onPlant_plant]
  exact ⟨hsettled.congr (repetition_frame ..).1 hstages rfl, repetition_askedWhereDiffers hsettled.state⟩

/-- R56: the record of a unit that leaves LOCAL for ONLINE, before its map is written. -/
def remoteRecord (e : Env) (u : UnitIx) (x : UnitRec) : UnitRec := { stopLocal e u x with state := .online }

theorem leaveLocal_online_eq (e : Env) (u : UnitIx) (r : Roof) : leaveLocal e u .online r =
    (moveUnit e u (fun p => p.modUnit u (remoteRecord e u)) r).onPlant (refreshTarget false u) := rfl

/-- R56: what leaving LOCAL for ONLINE leaves. -/
theorem leaveLocal_online (e : Env) (u : UnitIx) (r : Roof) :
    let x := r.plant.unit u
    let p := (leaveLocal e u .online r).plant
    p.OnlineFrom e u (stopLocal e u x) x.ack ∧ (x.ack = x.target → p.AskedWhereDiffers u) := by
  intro x p
  obtain ⟨order, hunit⟩ := moveUnit_unit_self e u (fun p => p.modUnit u (remoteRecord e u)) r
  rw [Plant.unit_modUnit_self] at hunit
  have hturns := refreshTarget_turns e false u (moveUnit e u (fun p => p.modUnit u (remoteRecord e u)) r).plant
  have hstate : ((moveUnit e u (fun p => p.modUnit u (remoteRecord e u)) r).plant.unit u).state = .online := by
    rw [hunit]
    rfl
  refine ⟨Plant.OnlineFrom.turns ⟨hstate, ?_, fun i => ?_⟩ hturns,
    fun hsame => hturns.askedWhereDiffers hstate fun hdiffer => absurd ?_ hdiffer⟩
  · rw [hunit]
    rfl
  · rw [hunit]
    exact .refl _
  · rw [hunit]
    exact hsame

/-- R46, R50: a report of an unadopted or OFFLINE unit that is not in hand mode. -/
theorem foldState_adopts (e : Env) {u : UnitIx} {st : Status} {r : Roof} (hhand : st.hand = false)
    (h : (r.plant.unit u).state = .unadopted ∨ (r.plant.unit u).state = .offline) :
    foldState e u st r = adoptOnline e u st.run r := by
  rcases h with h | h <;> simp only [foldState, hhand, h]

/-- R46, R56: a report of a LOCAL unit that is no longer in hand mode. -/
theorem foldState_remote (e : Env) {u : UnitIx} {st : Status} {r : Roof} (hhand : st.hand = false)
    (h : (r.plant.unit u).state = .inLocal) :
    foldState e u st r =
      (settle e u (leaveLocal e u .online r)).raise e .unitRemote (unitAddr u) none none := by
  simp only [foldState, hhand, h]

theorem foldState_online (e : Env) {u : UnitIx} {st : Status} {r : Roof} (hhand : st.hand = false)
    (h : (r.plant.unit u).state = .online) : foldState e u st r = r := by
  simp only [foldState, hhand, h]

/-- Behind the unit state, a fold of an ONLINE unit only judges, trips and releases. -/
theorem foldEffects_online (e : Env) {u : UnitIx} (st : Status) {r : Roof}
    (honline : ((foldState e u st r).plant.unit u).state = .online) :
    (foldState e u st r).plant.Turns e (foldEffects e u st r).plant := by
  rw [foldEffects, foldLocalMaps_remote st (by simp [honline])]
  exact (turns_protectionWalk e u).fold st _

/-! ## The command (R29, R48) -/

theorem freeTrunk_env (s : State) : (freeTrunk s).env = s.env := rfl

theorem answerRelay_env (x : Transaction) (answer : State → Frame → Frame) (s : State) :
    (answerRelay x answer s).env = s.env := by
  rw [answerRelay_frame]
  rfl

theorem State.onRoof_env (s : State) (f : Env → Roof → Roof) : (s.onRoof f).env = s.env := rfl

theorem State.folded_env (s : State) (u : UnitIx) (p : List Byte) : (s.folded u p).env = s.env :=
  State.onRoof_env s.heard _

/-- R27: a status payload's reply is the attempt's matching reply. -/
theorem isMatch_statusReply {s : State} {x : Transaction} {u : UnitIx} {p : List Byte} (hf : FoldAwaits s x u p) :
    isMatch x (statusReply x p) = true := by
  obtain ⟨-, hrequest, -, -, hlong, hshort, hmode, hhand⟩ := hf
  have haddr : x.request.addr.toNat = u.val + 1 := by
    rw [hrequest]
    exact toNat_unitAddr u
  have hfits : ReplyFits x.request 0x01 p := by
    rw [hrequest]
    exact ⟨hshort, by simp [hlong, hmode, hhand]⟩
  rw [statusReply_eq p hrequest]
  exact isMatch_replyTo (by omega) (by omega) (by decide) hfits

/-- R29, R48: a status reply ends its transaction with the fold. -/
theorem endAnswered_statusReply {s : State} {x : Transaction} {u : UnitIx} {p : List Byte} (hf : FoldAwaits s x u p) :
    endAnswered x (statusReply x p) s.heard =
      freeTrunk (answerRelay x (statusAnswer s x u p) (s.folded u p)) := by
  obtain ⟨-, hrequest, hunit, hreported, -⟩ := hf
  have hend := endAnswered_fold s.heard (f := statusReply x p) (Transaction.reportsTo_of_reported hunit hreported)
    hrequest (by simp [statusReply, flagError])
  rwa [repeatMap_other _ (by rw [hrequest]; nofun)] at hend

/-- R29, R48: a status reply's command is the fold and what concludes it. -/
theorem statusReply_concludes {s : State} {x : Transaction} {u : UnitIx} {p : List Byte} (hready : Ready s)
    (hf : FoldAwaits s x u p) :
    ∃ m : State, exec (.trunkFrameReceived (statusReply x p)) s = .next (conclude m) ∧
      m.roof = fold s.env u p s.roof ∧ m.env = s.env := by
  have hmatch := isMatch_statusReply hf
  have hend := endAnswered_statusReply hf
  obtain ⟨hawait, -⟩ := hf
  have hcommand := exec_matchingReply hready.1 hawait hmatch
  rw [hend] at hcommand
  refine ⟨_, hcommand, ?_, ?_⟩
  · rw [freeTrunk_roof, answerRelay_roof, State.folded_roof]
  · rw [freeTrunk_env, answerRelay_env, State.folded_env]

/-! ## The comparison of an adoption (R50) -/

theorem adoptStages_stage (e : Env) (u : UnitIx) (run : StageMap) (r : UnitRec) (i : Slot) :
    (adoptStages e u run r).stages[i] = adoptStage e u run i r.stages[i] := by
  unfold adoptStages
  dsimp only
  rw [UnitRec.mapStages_stages]

section
variable (e : Env) {u : UnitIx} {run : StageMap} {i : Slot} {st : Stage}

theorem adoptStage_left (h : (e.cfg u).bound i = false ∨ st.state.isTripped = true) : adoptStage e u run i st = st := by
  rw [adoptStage, if_pos (by simpa using h)]

variable (hbound : (e.cfg u).bound i = true) (htripped : st.state.isTripped = false)
include hbound htripped

theorem adoptStage_agrees (h : st.state.isOn = run.has i) : adoptStage e u run i st = st := by
  rw [adoptStage, if_neg (by simp [hbound, htripped]), h]
  cases run.has i <;> rfl

/-- R50: a slot found stopped. -/
theorem adoptStage_stops (hon : st.state.isOn = true) (hrun : run.has i = false) :
    adoptStage e u run i st = stopStage e.now (minOffOf e.tables u i) st := by
  rw [adoptStage, if_neg (by simp [hbound, htripped]), hon, hrun]

/-- R50: a slot found running. -/
theorem adoptStage_runs (hoff : st.state.isOn = false) (hrun : run.has i = true) :
    adoptStage e u run i st = { st with
      state := .running
      stopPending := false
      startTime := some e.now
      minOnEnd := none
      startToStartEnd := some (e.now + ((e.profile u i).map (·.startToStart)).getD 0) } := by
  rw [adoptStage, if_neg (by simp [hbound, htripped]), hoff, hrun]
  cases e.profile u i <;> rfl

end

/-- R68: what a stop writes. -/
theorem stopStage_fields (now minOff : Nat) (st : Stage) :
    (stopStage now minOff st).state.isTripped = false ∧ stopStage now minOff st = { st with
      state := (stopStage now minOff st).state
      stopPending := false
      stopTime := some now
      minOffEnd := some (now + minOff) } := by
  unfold stopStage passOn
  split <;> exact ⟨rfl, rfl⟩

/-- R51: the acknowledged map at adoption is the report, for the bound slots. -/
theorem adoptedAck_has (e : Env) {u : UnitIx} (run : StageMap) (r : UnitRec) {i : Slot}
    (hbound : (e.cfg u).bound i = true) : (adoptedAck run (adoptStages e u run r)).has i = run.has i := by
  have hbit : (adoptedAck run (adoptStages e u run r)).has i =
      ((adoptStage e u run i r.stages[i]).state.isOn ||
        ((adoptStage e u run i r.stages[i]).state.isTripped && run.has i)) := by
    rw [← adoptStages_stage]
    exact slotBits_getLsbD (fun j => (adoptStages e u run r).stages[j].state.isOn ||
      ((adoptStages e u run r).stages[j].state.isTripped && run.has j)) i
  rw [hbit, adoptStage_isOn, hbound]
  by_cases htripped : r.stages[i].state.isTripped = true
  · rw [adoptStage_left e (.inr htripped), htripped, (StageState.isTripped_off htripped).1]
    rfl
  · rw [Bool.eq_false_of_not_eq_true htripped]
    cases run.has i <;> simp

/-- R50: the stages of an adopted unit, wherever the work behind the comparison has taken them. -/
theorem adopted_stage {e : Env} {u : UnitIx} {run : StageMap} {r : UnitRec} {i : Slot} {st : Stage}
    (hbound : (e.cfg u).bound i = true) (htripped : r.stages[i].state.isTripped = false)
    (h : (adoptStages e u run r).stages[i].TurnsTo e.now (minOffOf e.tables u i) st) :
    (r.stages[i].state.isOn = false → run.has i = true →
      (st.state.isOn = true ∧ st.startTime = some e.now) ∨ st.stopTime = some e.now) ∧
    (r.stages[i].state.isOn = true → run.has i = false → st.stopTime = some e.now) := by
  rw [adoptStages_stage] at h
  refine ⟨fun hoff hrun => ?_, fun hon hrun => ?_⟩
  · rw [adoptStage_runs e hbound htripped hoff hrun] at h
    rcases h.stayed rfl with hstop | ⟨hon, hstart | hstart⟩
    · exact .inr hstop
    · exact .inl ⟨hon, hstart⟩
    · exact .inl ⟨hon, hstart⟩
  · rw [adoptStage_stops e hbound htripped hon hrun] at h
    exact h.stopTime_now (stopStage_stoppedAt ..).stopTime

theorem stopLocal_stage (e : Env) (u : UnitIx) {x : UnitRec} {i : Slot} (h : x.stages[i].state = .inLocal) :
    (stopLocal e u x).stages[i] = stopStage e.now (minOffOf e.tables u i) x.stages[i] := by
  rw [stopLocal, UnitRec.mapStages_stages, if_pos h]

/-! ## A fold, by what it reports and finds -/

theorem storedRoof_state (e : Env) (u : UnitIx) (l : List Byte) (r : Roof) :
    ((storedRoof e u l r).plant.unit u).state = (r.plant.unit u).state := by
  rw [storedRoof_unit]
  rfl

section
variable {s : State} {u : UnitIx} {p : List Byte}

/-- R52, R55: a fold of a hand report. -/
theorem fold_hand (hhand : u8At p 1 = 1) (hpresent : (s.plant.unit u).state ≠ .absent) :
    let run := mapOfByte s.tables.units[u] (byteAt p 2)
    let q := (fold s.env u p s.roof).plant
    (q.unit u).state = .inLocal ∧ (q.unit u).target = run ∧ (q.unit u).ack = run ∧
    q.passDue = s.plant.passDue ∧ ((s.plant.unit u).state ≠ .inLocal →
      (∀ n ∈ q.queue, n.unit ≠ u) ∧ u ∉ q.injections ∧
      ∀ i : Slot, s.tables.units[u].bound i = true → (q.unit u).stages[i].IsLocal) := by
  have hhands : (statusOf (s.env.cfg u) p).hand = true := (statusOf_hand_iff hhand.le).2 hhand
  have hstored : ((storedRoof s.env u p s.roof).plant.unit u).state = (s.plant.unit u).state := storedRoof_state ..
  have hpassDue : (storedRoof s.env u p s.roof).plant.passDue = s.plant.passDue := by
    rw [storedRoof_plant]
    rfl
  intro run q
  have hq : q = (foldEffects s.env u (statusOf (s.env.cfg u) p) (storedRoof s.env u p s.roof)).plant := rfl
  rw [hq]
  by_cases hlocal : (s.plant.unit u).state = .inLocal
  · have hsame := foldState_local_hand s.env hhands (hstored.trans hlocal)
    obtain ⟨hstate, htarget, hack, -, -, -, hpass⟩ := foldEffects_local s.env (statusOf (s.env.cfg u) p)
      (r := storedRoof s.env u p s.roof) (by rw [hsame]; exact hstored.trans hlocal)
    rw [hsame] at hpass
    exact ⟨hstate, htarget, hack, hpass.trans hpassDue, fun hremote => absurd hlocal hremote⟩
  · obtain ⟨r', hentered, hqueue', hpass'⟩ := foldState_hand s.env (r := storedRoof s.env u p s.roof) hhands
      (hstored ▸ hpresent) (hstored ▸ hlocal)
    obtain ⟨hlocal', hstages', hwithout, hdropped, hkept⟩ := enterLocal_leaves s.env u r'
    rw [← hentered] at hlocal' hstages' hwithout hdropped hkept
    obtain ⟨hstate, htarget, hack, hstages, hqueue, hinjections, hpass⟩ :=
      foldEffects_local s.env (statusOf (s.env.cfg u) p) hlocal'
    refine ⟨hstate, htarget, hack, hpass.trans (hkept.trans (hpass'.trans hpassDue)),
      fun _ => ⟨fun n hn => ?_, ?_, fun i hbound => hstages i (hstages' i hbound)⟩⟩
    · rw [hqueue, hwithout] at hn
      exact unit_ne_of_mem_withoutEntries hn
    · rw [hinjections]
      exact hdropped

variable (hhand : u8At p 1 = 0)
include hhand

theorem statusOf_remote (c : UnitCfg) : (statusOf c p).hand = false := by
  rw [Bool.eq_false_iff, Ne, statusOf_hand_iff (by omega)]
  omega

/-- R50, R51: a fold that adopts the unit into ONLINE. -/
theorem fold_adopts (h : (s.plant.unit u).state = .unadopted ∨ (s.plant.unit u).state = .offline) :
    let x := adoptStages s.env u (mapOfByte s.tables.units[u] (byteAt p 2)) (s.plant.unit u)
    let q := (fold s.env u p s.roof).plant
    q.OnlineFrom s.env u x (adoptedAck (mapOfByte s.tables.units[u] (byteAt p 2)) x) ∧ q.AskedWhereDiffers u := by
  have hstored : ((storedRoof s.env u p s.roof).plant.unit u).state = (s.plant.unit u).state := storedRoof_state ..
  have hadopts := foldState_adopts s.env (r := storedRoof s.env u p s.roof) (statusOf_remote hhand (s.env.cfg u))
    (hstored ▸ h)
  obtain ⟨honline, hasked⟩ := adoptOnline_leaves s.env u (statusOf (s.env.cfg u) p).run (storedRoof s.env u p s.roof)
  rw [storedRoof_unit] at honline
  rw [← hadopts] at honline hasked
  have heffects := foldEffects_online s.env _ honline.state
  dsimp only
  rw [fold_eq_effects]
  exact ⟨(honline.turns heffects).congr rfl rfl (adoptedAck_congr _ rfl),
    heffects.askedWhereDiffers honline.state hasked⟩

/-- R56: a fold by which the unit leaves LOCAL. -/
theorem fold_leavesLocal (h : (s.plant.unit u).state = .inLocal) :
    let r := s.plant.unit u
    let q := (fold s.env u p s.roof).plant
    q.OnlineFrom s.env u (stopLocal s.env u r) r.ack ∧ (r.ack = r.target → q.AskedWhereDiffers u) := by
  have hstored : ((storedRoof s.env u p s.roof).plant.unit u).state = (s.plant.unit u).state := storedRoof_state ..
  have hremote := foldState_remote s.env (r := storedRoof s.env u p s.roof) (statusOf_remote hhand (s.env.cfg u))
    (hstored.trans h)
  obtain ⟨hleft, hasked⟩ := leaveLocal_online s.env u (storedRoof s.env u p s.roof)
  have hsettle := settle_turns s.env u (leaveLocal s.env u .online (storedRoof s.env u p s.roof))
  have honline := hleft.turns hsettle
  rw [storedRoof_unit] at honline hasked
  have hplant := congrArg Roof.plant hremote
  rw [Roof.raise_plant] at hplant
  rw [← hplant] at honline hsettle
  have heffects := foldEffects_online s.env _ honline.state
  dsimp only
  rw [fold_eq_effects]
  exact ⟨(honline.turns heffects).congr rfl rfl rfl,
    fun hsame => (hsettle.trans heffects).askedWhereDiffers hleft.state (hasked hsame)⟩

/-- R46: a fold that finds the unit ONLINE leaves it ONLINE. -/
theorem fold_staysOnline (h : (s.plant.unit u).state = .online) :
    ((fold s.env u p s.roof).plant.unit u).state = .online := by
  have hstored : ((storedRoof s.env u p s.roof).plant.unit u).state = .online := (storedRoof_state ..).trans h
  have hsame := foldState_online s.env (statusOf_remote hhand (s.env.cfg u)) hstored
  have heffects := foldEffects_online s.env (statusOf (s.env.cfg u) p) (r := storedRoof s.env u p s.roof)
    (by rw [hsame]; exact hstored)
  rw [hsame] at heffects
  exact (heffects.state u).trans hstored

/-- R46: a fold of a report that is not in hand mode leaves a fitted unit ONLINE. -/
theorem fold_online (h : (s.plant.unit u).state ≠ .absent) : ((fold s.env u p s.roof).plant.unit u).state = .online := by
  cases hs : (s.plant.unit u).state with
  | absent => exact absurd hs h
  | unadopted => exact (fold_adopts hhand (.inl hs)).1.state
  | offline => exact (fold_adopts hhand (.inr hs)).1.state
  | inLocal => exact (fold_leavesLocal hhand hs).1.state
  | online => exact fold_staysOnline hhand hs

end

/-- R50, R51: the comparison of every slot at an adoption, and the adopted map. -/
theorem adoptStages_table (e : Env) (u : UnitIx) (run : StageMap) (r : UnitRec) (i : Slot) :
    let x := adoptStages e u run r
    let old := r.stages[i]
    let new := x.stages[i]
    x.notProven[i] = 0 ∧
    (((e.cfg u).bound i = false ∨ old.state.isTripped = true) → new = old) ∧
    ((e.cfg u).bound i = true → old.state.isTripped = false →
      (old.state.isOn = run.has i → new = old) ∧
      (∀ pr, old.state.isOn = false → run.has i = true → e.profile u i = some pr →
        new = { old with
          state := .running
          stopPending := false
          startTime := some e.now
          minOnEnd := none
          startToStartEnd := some (e.now + pr.startToStart) }) ∧
      (old.state.isOn = true → run.has i = false → new.state.isOn = false ∧ new.state.isTripped = false ∧
        new = { old with
          state := new.state
          stopPending := false
          stopTime := some e.now
          minOffEnd := some (e.now + minOffOf e.tables u i) })) := by
  have hstage := adoptStages_stage e u run r i
  intro x old new
  refine ⟨tabulate_getElem .., fun h => hstage.trans (adoptStage_left e h), fun hbound htripped =>
    ⟨fun h => hstage.trans (adoptStage_agrees e hbound htripped h), fun pr hoff hrun hpr => ?_, fun hon hrun => ?_⟩⟩
  · refine hstage.trans ((adoptStage_runs e hbound htripped hoff hrun).trans ?_)
    rw [hpr]
    rfl
  · have hnew : new = stopStage e.now (minOffOf e.tables u i) old :=
      hstage.trans (adoptStage_stops e hbound htripped hon hrun)
    obtain ⟨hnotTripped, hfields⟩ := stopStage_fields e.now (minOffOf e.tables u i) old
    rw [hnew]
    exact ⟨(stopStage_stoppedAt ..).off, hnotTripped, hfields⟩

/-- Settles O18: the fold's own steps by the report and the unit state found, then what concludes the command. -/
theorem foldSettlesTheUnitState : Obligations.FoldSettlesTheUnitState := by
  refine ⟨fun s x u p hready hf hpresent => ?_, fun e u run r i => ?_⟩
  · obtain ⟨m, hcommand, hroof, henv⟩ := statusReply_concludes hready hf
    have hplant : m.plant = (fold s.env u p s.roof).plant := congrArg Roof.plant hroof
    have hturns := conclude_turns m
    rw [hplant, henv] at hturns
    by_cases hhand : u8At p 1 = 1
    · obtain ⟨hstate, htarget, hack, hpass, hentered⟩ := fold_hand hhand hpresent
      have hstill : (conclude m).plant = (fold s.env u p s.roof).plant := by
        rw [conclude_plant_of_no_pass (by rw [hplant, hpass]; exact hready.2), hplant]
      refine ⟨_, hcommand, ?_⟩
      rw [hstill, if_pos hhand]
      exact ⟨hstate, fun _ => ⟨htarget, hack⟩, fun _ => hentered, fun h => absurd hhand (by omega),
        fun h => absurd hhand (by omega)⟩
    · have hremote : u8At p 1 = 0 := by
        obtain ⟨-, -, -, -, -, -, -, hflag⟩ := hf
        omega
      refine ⟨_, hcommand, ?_⟩
      rw [if_neg hhand]
      refine ⟨(hturns.state u).trans (fold_online hremote hpresent), fun h => absurd h hhand, fun h => absurd h hhand,
        fun _ hadopted => ?adopted, fun _ hlocal => ?left⟩
      case adopted =>
        obtain ⟨honline, hasked⟩ := fold_adopts hremote hadopted
        have hfinal := honline.turns hturns
        refine ⟨congrArg StageMap.fan hfinal.ack, hturns.askedWhereDiffers honline.state hasked, fun i hbound => ?_⟩
        have hrun : (mapOfByte s.tables.units[u] (byteAt p 2)).has i = (byteAt p 2).getLsbD i.val := by
          rw [mapOfByte_has, hbound, Bool.true_and]
        rw [hfinal.ack, ← hrun]
        exact ⟨adoptedAck_has s.env _ _ hbound, fun htripped =>
          adopted_stage (e := s.env) hbound htripped (hfinal.stage i)⟩
      case left =>
        obtain ⟨honline, hasked⟩ := fold_leavesLocal hremote hlocal
        have hfinal := honline.turns hturns
        refine ⟨hfinal.ack, fun hsame => hturns.askedWhereDiffers honline.state (hasked hsame), fun i hi => ?_⟩
        have hstage := hfinal.stage i
        have hstopped := stopStage_stoppedAt s.seconds (minOffOf s.tables u i) (s.plant.unit u).stages[i]
        rw [stopLocal_stage s.env u hi] at hstage
        exact ⟨hstage.stopTime_now hstopped.stopTime, hstage.minOffEnd_now hstopped.minOffEnd⟩
  · obtain ⟨hproven, hleft, hcompared⟩ := adoptStages_table e u run r i
    exact ⟨hproven, hleft, hcompared, adoptedMap_has .., rfl⟩

end Sys2Proof.Machine

namespace Sys2Proof.Machine

/-! ## A level that rises over slots no profile is bound to (R78, R96, R124, R127) -/

theorem exec_shedReaction {s : State} (h : s.powered = true) : exec .shedReaction s = .next (conclude (react s)) :=
  roofCommand_on _ h

/-- Unit 1 fitted with C1 and C2 alone bound to a profile, the lead/lag enable set; every level cuts a cap to 1. -/
def strayTables : Tables :=
  { factoryTables with
    units := factoryTables.units.set 0
      { factoryUnit with fitted := true, bind := #v[some 0, some 0, none, none, none, none, none], leadLag := true }
    shed := tabulate fun _ => ⟨tabulate fun _ => 1, 0⟩ }

/-- C1 runs and C2 waits under FORCE_ON; C3 runs and C4 starts, although no profile is bound to either. The three that
are on began in the same second. -/
def strayStage (i : Slot) : Stage :=
  match i with
  | 0 | 2 => { blankStage with state := .running, startTime := some 0 }
  | 1 => { blankStage with state := .offReady, force := .forceOn }
  | 3 => { blankStage with state := .starting, startTime := some 0 }
  | _ => blankStage

/-- Unit 1 ONLINE, called for two cooling stages: C3 leads, and C4 has the fewest run hours. -/
def strayUnit : UnitRec :=
  { freshUnit strayTables 0 0 with
    state := .online
    call := { emptyCall with cool := 2 }
    lead := [2, 3, 0]
    runHours := #v[200000, 0, 200000, 0]
    stages := tabulate strayStage }

/-- The forecast exceeds the ceiling, so that the reaction raises the level to 1. -/
def strayState : State :=
  { State.reset with
    tables := strayTables
    meter := { freshMeter with sampleForecast := 1 }
    shed := { freshShed strayTables false with ceiling := 0 }
    plant := (freshPlant strayTables).modUnit 0 fun _ => strayUnit }

theorem strayState_ready : Ready strayState := ⟨rfl, rfl⟩

/-- What the statement asks of C3: no stage on under no force is earlier, and one is held at level 1. -/
theorem strayState_leads :
    strayState.tables.units[(0 : UnitIx)].fitted = true ∧ (strayState.plant.unit 0).state.isSettled = true ∧
    capAt strayState.tables 1 strayState.tables.units[(0 : UnitIx)].priority = 1 ∧
    capAt strayState.tables strayState.shed.level strayState.tables.units[(0 : UnitIx)].priority = 4 ∧
    (strayState.plant.unit 0).call.cool = 2 ∧
    (strayState.plant.unit 0).stages[(2 : Slot)].force = .none ∧
    (strayState.plant.unit 0).stages[(2 : Slot)].state = .running ∧
    (∀ j : Slot, (strayState.plant.unit 0).stages[j].startTime.getD 0 = 0) ∧
    (∀ j : Slot, ¬(strayState.plant.unit 0).lead.idxOf j < (strayState.plant.unit 0).lead.idxOf 2) := by
  decide +kernel

/-- The settlement for the cap stops C1 alone; the bound cooling slots then rest, and the lead passes to C4. The COOL
entry that joins brings a pass, which starts C2, and the settlement behind that start stops C3. -/
theorem strayState_after :
    (conclude (react strayState)).shed.level = 1 ∧
    ((conclude (react strayState)).plant.unit 0).gateClosed = false ∧
    ((conclude (react strayState)).plant.unit 0).stages[(2 : Slot)].state.isOn = false := by
  decide +kernel

/-- Refutes O29: the statement takes every state, also one in which a slot is on that no profile is bound to. The
lead/lag check does not wait for such a slot to rest (R78), so the start order can change between the settlement for the
cap and the one behind a start of the same command, which then stops the stage that was the earliest. -/
theorem not_shedReactionMovesTheLevelByOne : ¬Obligations.ShedReactionMovesTheLevelByOne := by
  intro h
  obtain ⟨t, hexec, -, -, -, -, -, -, -, -, -, -, -, hunits⟩ := h strayState strayState_ready
  obtain rfl := Host.Outcome.next.inj (hexec.symm.trans (exec_shedReaction strayState_ready.1))
  obtain ⟨hlevel, hgate, hoff⟩ := strayState_after
  obtain ⟨hfitted, hsettled, hcap, hcapBefore, hcall, hforce, hrunning, hbegan, hfirst⟩ := strayState_leads
  obtain ⟨-, -, hstages⟩ := hunits 0 hfitted hsettled (by rw [hlevel, hcap, hcapBefore]; decide)
  obtain ⟨hkept, -⟩ := hstages 2 (by decide) hforce (by rw [hrunning]; rfl)
  obtain ⟨hstate, -⟩ := hkept (by
    simp only [hbegan, hfirst, hgate, hlevel, hcap, hcall]
    simp)
  rw [hstate, hrunning] at hoff
  cases hoff

end Sys2Proof.Machine

namespace Sys2Proof.Machine

/-! ## Proving (R79) -/

/-! ### When a slot is found unproven -/

/-- 11.3: no unit fault bit is set. -/
theorem unitFaults_clear (b : Byte) : decide (b &&& 0x0F = 0) = (b.extractLsb' 0 4 == 0) := by
  have hmask : b.toNat &&& 15 = b.toNat % 16 := Nat.and_two_pow_sub_one_eq_mod _ 4
  rw [Bool.eq_iff_iff, decide_eq_true_eq, beq_iff_eq, ← BitVec.toNat_inj, ← BitVec.toNat_inj]
  simp [hmask]

/-- 11.3: no fault bit of the slot at `o` is set. -/
theorem circuitFaults_clear (b : BitVec 16) (o : Nat) :
    (!(b.getLsbD o || b.getLsbD (o + 1) || b.getLsbD (o + 2))) = (b.extractLsb' o 3 == 0) := by
  rw [Bool.eq_iff_iff, beq_iff_eq]
  constructor
  · intro h
    simp only [Bool.not_eq_true', Bool.or_eq_false_iff] at h
    obtain ⟨⟨h0, h1⟩, h2⟩ := h
    refine BitVec.eq_of_getLsbD_eq fun k hk => ?_
    interval_cases k <;> simp [h0, h1, h2]
  · intro h
    have hbit (k : Nat) (hk : k < 3) : b.getLsbD (o + k) = false := by
      have := congrArg (BitVec.getLsbD · k) h
      simpa [hk] using this
    have h0 := hbit 0 (by decide)
    simp_all

theorem slotKind_heat_iff (i : Slot) : slotKind i = .heat ↔ 4 ≤ i.val := by
  unfold slotKind
  split <;> simp <;> omega

theorem StageState.isProving_eq (st : StageState) :
    st.isProving = (decide (st = .runMin) || decide (st = .running)) := by
  cases st <;> rfl

/-- R79: the slot is examined, acknowledged on and reported off, with no fault that explains it. -/
theorem unproven_eq (c : UnitCfg) (st : Status) (r : UnitRec) (i : Slot) : unproven c st r i =
    (c.bound i && (decide (r.stages[i].state = .runMin) || decide (r.stages[i].state = .running)) && r.ack.has i &&
      !st.run.has i && (st.unitFaults.extractLsb' 0 4 == 0 &&
        (decide (4 ≤ i.val) || st.circuitFaults.extractLsb' (3 * i.val) 3 == 0))) := by
  unfold unproven
  rw [StageState.isProving_eq, unitFaults_clear, circuitFaults_clear, decide_eq_decide.2 (slotKind_heat_iff i),
    Bool.and_assoc (_ && _)]

/-! ### The counts and the notices of a walk over slots -/

/-- R79: the NOT_PROVEN count of a slot behind a fold. -/
def provedCount (c : UnitCfg) (st : Status) (x : UnitRec) (i : Slot) : Nat :=
  if unproven c st x i then min 255 (x.notProven[i] + 1) else 0

/-- R79: the fold brings the slot's count to 2. -/
def reachesTwo (c : UnitCfg) (st : Status) (x : UnitRec) (i : Slot) : Bool :=
  unproven c st x i && decide (x.notProven[i] = 1)

/-- R79: one slot proved. -/
theorem proveSlot_eq (e : Env) (u : UnitIx) (st : Status) (r : Roof) (i : Slot) :
    let x := r.plant.unit u
    let t := proveSlot e u st r i
    t.plant = r.plant.modUnit u (fun y => { y with
      notProven := y.notProven.set i (provedCount (e.cfg u) st x i) }) ∧
    t.captures = r.captures ∧
    t.notices = if reachesTwo (e.cfg u) st x i
      then raiseNotice e.tables e.now .notProven (u.val + 1) (some i.val) (some 2) r.notices else r.notices := by
  intro x t
  have ht : t = (if provedCount (e.cfg u) st x i = 2 ∧ x.notProven[i] = 1 then
      (Roof.raise e .notProven (unitAddr u) (some i.val) (some (provedCount (e.cfg u) st x i))
        (r.onPlant fun p => p.modUnit u fun y => { y with
          notProven := y.notProven.set i (provedCount (e.cfg u) st x i) }))
      else r.onPlant fun p => p.modUnit u fun y => { y with
        notProven := y.notProven.set i (provedCount (e.cfg u) st x i) }) := rfl
  have hreaches : (provedCount (e.cfg u) st x i = 2 ∧ x.notProven[i] = 1) ↔ reachesTwo (e.cfg u) st x i = true := by
    unfold reachesTwo provedCount
    rw [Bool.and_eq_true, decide_eq_true_eq]
    constructor
    · rintro ⟨hcount, hone⟩
      by_contra hproven
      simp_all
    · rintro ⟨hunproven, hone⟩
      simp [hunproven, hone]
  rw [ht]
  by_cases hr : reachesTwo (e.cfg u) st x i = true
  · rw [if_pos (hreaches.2 hr), if_pos hr, (hreaches.2 hr).1]
    exact ⟨rfl, rfl, rfl⟩
  · rw [if_neg (hreaches.not.2 hr), if_neg hr]
    exact ⟨rfl, rfl, rfl⟩

/-- What proving reads of a unit is its stages and its acknowledged map. -/
theorem unproven_congr {c : UnitCfg} {st : Status} {x y : UnitRec} (hstages : y.stages = x.stages)
    (hack : y.ack = x.ack) (i : Slot) : unproven c st y i = unproven c st x i := by
  unfold unproven
  rw [hstages, hack]

/-- R79: the slots of a list proved, each once. -/
theorem foldl_proveSlot (e : Env) (u : UnitIx) (st : Status) {l : List Slot} (hl : l.Nodup) (r : Roof) :
    let x := r.plant.unit u
    let t := l.foldl (proveSlot e u st) r
    (∃ counts, t.plant = r.plant.modUnit u (fun y => { y with notProven := counts }) ∧
      ∀ i : Slot, counts[i] = if i ∈ l then provedCount (e.cfg u) st x i else x.notProven[i]) ∧
    t.captures = r.captures ∧
    t.notices = (l.filter (reachesTwo (e.cfg u) st x)).foldl
      (fun ns i => raiseNotice e.tables e.now .notProven (u.val + 1) (some i.val) (some 2) ns) r.notices := by
  induction l generalizing r with
  | nil => exact ⟨⟨(r.plant.unit u).notProven, (Plant.modUnit_eq_self rfl).symm, fun i => rfl⟩, rfl, rfl⟩
  | cons j l ih =>
    intro x t
    obtain ⟨hj, hl⟩ := List.nodup_cons.1 hl
    obtain ⟨hplant, hcaptures, hnotices⟩ := proveSlot_eq e u st r j
    obtain ⟨⟨counts, hplant', hcounts⟩, hcaptures', hnotices'⟩ := ih hl (proveSlot e u st r j)
    have hunit : (proveSlot e u st r j).plant.unit u = { x with
        notProven := x.notProven.set j (provedCount (e.cfg u) st x j) } := by
      rw [hplant, Plant.unit_modUnit_self]
    have hother (i : Slot) (hi : i ≠ j) : (x.notProven.set j (provedCount (e.cfg u) st x j))[i] = x.notProven[i] :=
      Vector.getElem_set_ne _ _ fun h => hi (Fin.ext h.symm)
    rw [hunit] at hcounts hnotices'
    refine ⟨⟨counts, ?_, fun i => ?_⟩, hcaptures'.trans hcaptures, ?_⟩
    · refine hplant'.trans ?_
      rw [hplant, Plant.modUnit_modUnit]
    · rw [hcounts]
      by_cases hi : i = j
      · subst hi
        simp [hj]
      · simp only [List.mem_cons, hi, false_or]
        split
        · exact congrArg₂ (fun b n => if b = true then min 255 (n + 1) else 0) (unproven_congr rfl rfl i) (hother i hi)
        · exact hother i hi
    · refine hnotices'.trans ?_
      have hfilter : l.filter (reachesTwo (e.cfg u) st { x with
          notProven := x.notProven.set j (provedCount (e.cfg u) st x j) }) =
          l.filter (reachesTwo (e.cfg u) st x) := List.filter_congr fun i hi => by
        have hij : i ≠ j := fun h => hj (h ▸ hi)
        exact congrArg₂ (fun b n => b && decide (n = 1)) (unproven_congr rfl rfl i) (hother i hij)
      rw [hfilter, hnotices, List.filter_cons]
      split <;> rfl

theorem allSlots_nodup : allSlots.Nodup := by decide

/-- R79: proving at a fold of an ONLINE unit. -/
theorem foldProving_online (e : Env) {u : UnitIx} (st : Status) {r : Roof} (h : (r.plant.unit u).state = .online) :
    let x := r.plant.unit u
    let t := foldProving e u st r
    (∃ counts, t.plant = r.plant.modUnit u (fun y => { y with notProven := counts }) ∧
      ∀ i : Slot, counts[i] = provedCount (e.cfg u) st x i) ∧
    t.captures = r.captures ∧
    t.notices = (allSlots.filter (reachesTwo (e.cfg u) st x)).foldl
      (fun ns i => raiseNotice e.tables e.now .notProven (u.val + 1) (some i.val) (some 2) ns) r.notices := by
  have hprove := foldl_proveSlot e u st allSlots_nodup r
  unfold foldProving
  rw [if_pos h]
  simpa only [mem_allSlots, if_true] using hprove

/-! ### A fold in which nothing trips -/

/-- R79: work on a unit without a cause that enters none and leaves its NOT_PROVEN counts. -/
structure Roof.KeepsCounts (u : UnitIx) (a b : Roof) : Prop where
  kept : (a.plant.unit u).causes = [] →
    (b.plant.unit u).causes = [] ∧ (b.plant.unit u).notProven = (a.plant.unit u).notProven

theorem Roof.KeepsCounts.refl {u : UnitIx} (a : Roof) : a.KeepsCounts u a := ⟨fun h => ⟨h, rfl⟩⟩

theorem Roof.KeepsCounts.trans {u : UnitIx} {a b c : Roof} (h : a.KeepsCounts u b) (k : b.KeepsCounts u c) :
    a.KeepsCounts u c := by
  refine ⟨fun ha => ?_⟩
  obtain ⟨hb, hcounts⟩ := h.kept ha
  obtain ⟨hc, hcounts'⟩ := k.kept hb
  exact ⟨hc, hcounts'.trans hcounts⟩

theorem Roof.KeepsCounts.foldl {u : UnitIx} {α : Type} {f : Roof → α → Roof} {l : List α}
    (h : ∀ r : Roof, ∀ x ∈ l, r.KeepsCounts u (f r x)) (r : Roof) : r.KeepsCounts u (l.foldl f r) :=
  foldl_related Roof.KeepsCounts.refl (fun _ _ _ => .trans) f l h r

/-- R138: a unit without a cause has none whose condition is followed. -/
theorem followCondition_keepsCounts (e : Env) (u : UnitIx) (shown : Bool) (cls : TripClass) (pos : Option Nat)
    (r : Roof) : r.KeepsCounts u (followCondition e u shown cls pos r) := by
  refine ⟨fun hcauses => ?_⟩
  have hunit : (setPresent u cls pos shown r.plant).unit u = r.plant.unit u := by
    rw [setPresent, Plant.unit_modUnit_self, hcauses, List.map_nil, ← hcauses]
  unfold followCondition
  simp only [hunit, hcauses, List.find?_nil]
  exact ⟨trivial, trivial⟩

theorem evaluateBand_keepsCounts (e : Env) (u : UnitIx) (st : Status) (b : Fin 16) (r : Roof) :
    r.KeepsCounts u (evaluateBand e u st b r) := by
  obtain ⟨q, hplant⟩ := evaluateBand_plant e u st b r
  refine ⟨fun hcauses => ?_⟩
  rw [hplant, Plant.unit_modUnit_self]
  exact ⟨hcauses, rfl⟩

theorem foldFaults_keepsCounts {e : Env} {u : UnitIx} {st : Status} (hcircuit : st.circuitFaults = 0)
    (hunit : st.unitFaults = 0) (r : Roof) : r.KeepsCounts u (foldFaults e u st r) := by
  refine Roof.KeepsCounts.trans (.foldl (fun q cp _ => ?_) r)
    (.foldl (fun q cp _ => followCondition_keepsCounts ..) _)
  rw [conditionShown_clear hcircuit hunit, enterIfShown_hidden]
  exact .refl q

theorem foldBands_keepsCounts {e : Env} {u : UnitIx} {st : Status} (h : ∀ b : Fin 16, e.tables.bands[b].action ≠ .trip)
    (r : Roof) : r.KeepsCounts u (foldBands e u st r) := by
  refine Roof.KeepsCounts.trans (.trans (.foldl (fun q b _ => evaluateBand_keepsCounts ..) r)
    (.foldl (fun q b _ => ?_) _)) (.foldl (fun q b _ => followCondition_keepsCounts ..) _)
  have hhidden : bandCondition e (q.plant.unit u) b = false := by
    rw [bandCondition, decide_eq_false (h b), Bool.false_and]
  rw [hhidden, enterIfShown_hidden]
  exact .refl q

/-- The status of a quiet fold: the hand flag and every fault bit clear. -/
theorem QuietFold.status {s : State} {u : UnitIx} {p : List Byte} (h : QuietFold s u p) :
    (statusOf (s.env.cfg u) p).hand = false ∧ (statusOf (s.env.cfg u) p).circuitFaults = 0 ∧
      (statusOf (s.env.cfg u) p).unitFaults = 0 := by
  obtain ⟨-, hhand, hcircuit, hunit, -⟩ := h
  refine ⟨by simp [statusOf, hhand], BitVec.eq_of_toNat_eq ?_, BitVec.eq_of_toNat_eq hunit⟩
  rw [statusOf_circuitFaults, hcircuit]
  rfl

/-- R79: a quiet fold leaves the counts as the proving of the stored unit does. -/
theorem fold_quiet_counts {s : State} {u : UnitIx} {p : List Byte} (h : QuietFold s u p) (i : Slot) :
    ((fold s.env u p s.roof).plant.unit u).notProven[i] =
      provedCount (s.env.cfg u) (statusOf (s.env.cfg u) p) (s.plant.unit u) i := by
  obtain ⟨hremote, hcircuit, hfaults⟩ := h.status
  obtain ⟨honline, -, -, -, hcauses, hbands⟩ := h
  have hstored := storedRoof_unit s.env u p s.roof
  have hstate : ((storedRoof s.env u p s.roof).plant.unit u).state = .online := by
    rw [hstored]
    exact honline
  have hfirst : foldLocalMaps u (statusOf (s.env.cfg u) p)
      (foldState s.env u (statusOf (s.env.cfg u) p) (storedRoof s.env u p s.roof)) = storedRoof s.env u p s.roof := by
    rw [foldState_online s.env hremote hstate]
    exact foldLocalMaps_remote _ (by rw [hstate]; nofun)
  obtain ⟨⟨counts, hproved, hcounts⟩, -, -⟩ := foldProving_online s.env (statusOf (s.env.cfg u) p) hstate
  have hkeeps : (foldProving s.env u (statusOf (s.env.cfg u) p) (storedRoof s.env u p s.roof)).KeepsCounts u
      (fold s.env u p s.roof) := by
    rw [fold_eq_effects, foldEffects, hfirst]
    exact (foldFaults_keepsCounts hcircuit hfaults _).trans (foldBands_keepsCounts hbands _)
  have hkept := hkeeps.kept (by rw [hproved, Plant.unit_modUnit_self, hstored]; exact hcauses)
  rw [hkept.2, hproved, Plant.unit_modUnit_self, hcounts, hstored]
  rfl

/-- R79: where the status shows no fault, a slot is unproven by its stage, the acknowledged map and the report. -/
theorem unproven_faultless {c : UnitCfg} {p : List Byte} (hcircuit : (statusOf c p).circuitFaults = 0)
    (hfaults : (statusOf c p).unitFaults = 0) (r : UnitRec) (i : Slot) : unproven c (statusOf c p) r i = true ↔
      c.bound i = true ∧ (r.stages[i].state = .runMin ∨ r.stages[i].state = .running) ∧ r.ack.has i = true ∧
        (byteAt p 2).getLsbD i.val = false := by
  have hreport : (statusOf c p).run.has i = (c.bound i && (byteAt p 2).getLsbD i.val) := mapOfByte_has ..
  rw [unproven_eq, hcircuit, hfaults, hreport]
  cases c.bound i <;> simp [and_assoc]

/-- Settles O19: by induction on the slots, whose counts and notices do not touch one another; behind a quiet fold
no cause moves the counts. -/
theorem unprovenFoldsAreCounted : Obligations.UnprovenFoldsAreCounted := by
  refine ⟨fun e u st r => ?_, fun s x u p hready hf hquiet => ?_⟩
  · intro x t noFault unproved
    have hunproved : unproved = unproven (e.cfg u) st x := funext fun i => (unproven_eq ..).symm
    refine ⟨fun hstate => if_neg hstate, fun hstate => ?_⟩
    obtain ⟨⟨counts, hplant, hcounts⟩, hcaptures, hnotices⟩ := foldProving_online e st hstate
    have hunit : (t.plant.unit u).notProven = counts := by
      rw [hplant, Plant.unit_modUnit_self]
    rw [hunit, hunproved]
    exact ⟨hcounts, hplant, hcaptures, hnotices⟩
  · obtain ⟨t, hexec, -, -, hplant, -⟩ := statusReply_leaves hready hf
    obtain ⟨np, ps, hfolded⟩ := fold_quiet hquiet
    obtain ⟨-, hcircuit, hfaults⟩ := hquiet.status
    refine ⟨t, hexec, fun i => ?_⟩
    rw [hplant (by rw [hfolded]; exact hready.2), fold_quiet_counts hquiet]
    exact if_congr (unproven_faultless hcircuit hfaults _ i) rfl rfl

end Sys2Proof.Machine

namespace Sys2Proof.Machine

/-! ## The lead/lag check (R78) -/

/-! ### The extremes of a list of counters -/

theorem foldl_min_eq {l : List Nat} {a m : Nat} (hm : m = a ∨ m ∈ l) (ha : m ≤ a) (hl : ∀ x ∈ l, m ≤ x) :
    l.foldl min a = m := by
  induction l generalizing a with
  | nil => simpa [eq_comm] using hm
  | cons x l ih =>
    obtain ⟨hx, hl⟩ := List.forall_mem_cons.1 hl
    refine ih ?_ (le_min ha hx) hl
    rcases hm with rfl | hm
    · exact .inl (min_eq_left hx).symm
    · rcases List.mem_cons.1 hm with rfl | hm
      · exact .inl (min_eq_right ha).symm
      · exact .inr hm

theorem lt_foldl_max_iff (l : List Nat) (a n : Nat) : n < l.foldl max a ↔ n < a ∨ ∃ x ∈ l, n < x := by
  induction l generalizing a with
  | nil => simp
  | cons x l ih => simp [ih, or_assoc]

/-! ### The rotation -/

/-- R78: the slot with the fewest run hours, the first of those that share them. -/
structure LeastUsed (x : UnitRec) (before : List Slot) (i : Slot) (after : List Slot) : Prop where
  order : x.lead = before ++ i :: after
  less : ∀ j ∈ before, runHoursOf x i < runHoursOf x j
  least : ∀ j ∈ after, runHoursOf x i ≤ runHoursOf x j

/-- R78: the lead order rotates to the least used slot where some counter is far enough above its own. -/
theorem leadRotation_eq {x : UnitRec} {before after : List Slot} {i : Slot} (h : LeastUsed x before i after)
    (thresholdHours : Nat) : leadRotation x thresholdHours =
      if (∃ j ∈ x.lead, thresholdHours * 3600 < runHoursOf x j - runHoursOf x i) ∧ before ≠ [] then
        some (i :: after ++ before) else none := by
  have hmap : x.lead.map (runHoursOf x) =
      before.map (runHoursOf x) ++ runHoursOf x i :: after.map (runHoursOf x) := by simp [h.order]
  have hall : ∀ n ∈ x.lead.map (runHoursOf x), runHoursOf x i ≤ n := by
    rw [hmap]
    simp only [List.mem_append, List.mem_cons, List.mem_map]
    rintro n (⟨j, hj, rfl⟩ | rfl | ⟨j, hj, rfl⟩)
    · exact (h.less j hj).le
    · exact le_rfl
    · exact h.least j hj
  have hmem : runHoursOf x i ∈ x.lead.map (runHoursOf x) := by simp [hmap]
  have hleast : (x.lead.map (runHoursOf x)).foldl min ((x.lead.map (runHoursOf x)).headD 0) = runHoursOf x i := by
    refine foldl_min_eq (.inr hmem) ?_ hall
    obtain ⟨a, l, hl⟩ := List.exists_cons_of_ne_nil (List.ne_nil_of_mem hmem)
    rw [hl] at hall ⊢
    exact hall a (List.mem_cons_self ..)
  have hplace : (x.lead.map (runHoursOf x)).idxOf (runHoursOf x i) = before.length := by
    have hnot : runHoursOf x i ∉ before.map (runHoursOf x) := by
      rintro hin
      obtain ⟨j, hj, hsame⟩ := List.mem_map.1 hin
      exact (h.less j hj).ne' hsame
    rw [hmap, List.idxOf_append_of_notMem hnot]
    simp
  have hspread : thresholdHours * 3600 < (x.lead.map (runHoursOf x)).foldl max 0 - runHoursOf x i ↔
      ∃ j ∈ x.lead, thresholdHours * 3600 < runHoursOf x j - runHoursOf x i := by
    rw [Nat.lt_sub_iff_add_lt, lt_foldl_max_iff]
    simp [Nat.lt_sub_iff_add_lt]
  have hrotated : x.lead.drop before.length ++ x.lead.take before.length = i :: after ++ before := by
    simp [h.order]
  have hnonempty : before.length ≠ 0 ↔ before ≠ [] := List.length_eq_zero_iff.not
  unfold leadRotation
  simp only [hleast, hplace, hspread, hrotated, hnonempty]

theorem leadCheck_of_none {e : Env} {u : UnitIx} {r : Roof}
    (h : leadRotation (r.plant.unit u) e.tables.roof.swapThreshold = none) : leadCheck e u r = r := by
  unfold leadCheck
  rw [h]

/-- R78: a rotated lead order is written, and LEAD_SWAPPED raised with the slot that leads now. -/
theorem leadCheck_of_some {e : Env} {u : UnitIx} {r : Roof} {i : Slot} {rest : List Slot}
    (h : leadRotation (r.plant.unit u) e.tables.roof.swapThreshold = some (i :: rest)) :
    leadCheck e u r = (r.onPlant fun p => p.modUnit u fun x => { x with lead := i :: rest }).raise e .leadSwapped
      (u.val + 1) none (some (i.val : Int)) := by
  unfold leadCheck
  rw [h]
  rfl

/-! ### The check of a minimum-on end (R67, R78) -/

theorem exec_minimumOnEnd {s : State} (u : UnitIx) (i : Slot) (h : s.powered = true) :
    exec (.minimumOnEnd u i) s = .next (conclude (s.onRoof fun e => minimumOnEnds e u i)) :=
  roofCommand_on (fun s => s.onRoof fun e => minimumOnEnds e u i) h

/-- R67: the unit's record with the minimum-on end of one stage taken. -/
def minOnRecord (e : Env) (u : UnitIx) (i : Slot) (x : UnitRec) : UnitRec :=
  x.modStage i (endMinOn e.now (minOffOf e.tables u i))

/-- R67: the minimum-on end of a stage: the move, and the target map and the queued slots behind it. -/
theorem minimumOnEnds_eq (e : Env) (u : UnitIx) (i : Slot) (r : Roof) : minimumOnEnds e u i r =
    (moveUnit e u (fun p => p.modUnit u (minOnRecord e u i)) r).onPlant
      fun p => reselect u (refreshTarget false u p) := rfl

/-- R83: no entry joins at a minimum-on end, so no pass follows it. -/
theorem minimumOnEnds_passDue (e : Env) (u : UnitIx) (i : Slot) (r : Roof) :
    (minimumOnEnds e u i r).plant.passDue = r.plant.passDue :=
  (refreshTarget_passDue ..).trans (moveUnit_passDue ..)

/-- With no pass due the end of a roof command leaves the plant and the notices. -/
theorem conclude_roof_of_no_pass {s : State} (h : s.plant.passDue = false) :
    (conclude s).plant = s.plant ∧ (conclude s).notices = s.notices := by
  rw [conclude_no_pass s h]
  exact ⟨rfl, rfl⟩

theorem modStage_stages (x : UnitRec) (i j : Slot) (f : Stage → Stage) :
    (x.modStage i f).stages[j] = if j = i then f x.stages[j] else x.stages[j] := by
  rw [UnitRec.modStage, UnitRec.mapStages_stages]

theorem minOnRecord_stages (e : Env) (u : UnitIx) (i j : Slot) (x : UnitRec) : (minOnRecord e u i x).stages[j] =
    if j = i then endMinOn e.now (minOffOf e.tables u i) x.stages[j] else x.stages[j] := modStage_stages ..

/-- R67, R68: a marked stage at its minimum-on end stops. -/
theorem endMinOn_marked {now : Nat} (minOff : Nat) {st : Stage} (hstate : st.state = .runMin)
    (hdue : elapsed now st.minOnEnd = true) (hmark : st.stopPending = true) :
    endMinOn now minOff st = stopStage now minOff { st with state := .running } := by
  rw [endMinOn, if_pos ⟨hstate, hdue⟩, if_pos hmark]

theorem stopStage_rests (now minOff : Nat) (st : Stage) : (stopStage now minOff st).state.rests = true := by
  unfold stopStage passOn
  split <;> rfl

/-- The queued slots chosen again keep the unit's lead order; the target map written again does too. -/
theorem minOnEnds_lead (u : UnitIx) (p : Plant) :
    ((reselect u (refreshTarget false u p)).unit u).lead = (p.unit u).lead := by
  obtain ⟨m, b, hunit⟩ := refreshTarget_unit_self false u p
  rw [reselect, Plant.unit_modUnit_self, hunit]
  rfl

theorem leadCheck_lead (e : Env) (u : UnitIx) (r : Roof) : ((leadCheck e u r).plant.unit u).lead =
    (leadRotation (r.plant.unit u) e.tables.roof.swapThreshold).getD (r.plant.unit u).lead := by
  unfold leadCheck
  split
  · next h => rw [h]; rfl
  · next order h => rw [h, Roof.raise_plant, Plant.unit_modUnit_self]; rfl

/-- R78: the check reads the lead order and the run hours, and writes the lead order and a notice. -/
theorem leadCheck_congr (e : Env) {u : UnitIx} {r q : Roof} (hlead : (q.plant.unit u).lead = (r.plant.unit u).lead)
    (hhours : (q.plant.unit u).runHours = (r.plant.unit u).runHours) (hnotices : q.notices = r.notices) :
    ((leadCheck e u q).plant.unit u).lead = ((leadCheck e u r).plant.unit u).lead ∧
      (leadCheck e u q).notices = (leadCheck e u r).notices := by
  have hrotation (h : Nat) : leadRotation (q.plant.unit u) h = leadRotation (r.plant.unit u) h := by
    have hof : runHoursOf (q.plant.unit u) = runHoursOf (r.plant.unit u) := funext fun i => by
      rw [runHoursOf, runHoursOf, hhours]
    unfold leadRotation
    rw [hlead, hof]
  refine ⟨by rw [leadCheck_lead, leadCheck_lead, hrotation, hlead], ?_⟩
  unfold leadCheck
  rw [hrotation]
  split
  · exact hnotices
  · rw [Roof.raise_notices, Roof.raise_notices, hnotices]

theorem mem_slotsOf_cool (j : Slot) : j ∈ slotsOf .cool ↔ j.val < 4 := by
  revert j
  decide

theorem StageState.isTripped_rests {st : StageState} (h : st.isTripped = true) : st.rests = true := by
  cases st with
  | trippedAuto | trippedLatched => rfl
  | notFitted | offLocked | offReady | queued | starting | runMin | running | inLocal => cases h

/-- R67, R78: the unit's last cooling stage that does not rest is marked and at its minimum-on end, the lead/lag enable
is set, the lead order holds two slots or more, and no COOL entry waits. -/
structure LastCoolingStops (s : State) (u : UnitIx) (i : Slot) : Prop where
  cooling : i.val < 4
  bound : (s.env.cfg u).bound i = true
  enabled : (s.env.cfg u).leadLag = true
  order : 2 ≤ (s.plant.unit u).lead.length
  entryless : s.plant.hasEntry u .cool = false
  runs : (s.plant.unit u).stages[i].state = .runMin
  marked : (s.plant.unit u).stages[i].stopPending = true
  due : elapsed s.env.now (s.plant.unit u).stages[i].minOnEnd = true
  others : ∀ j : Slot, j.val < 4 → j ≠ i → (s.env.cfg u).bound j = true →
    (s.plant.unit u).stages[j].state.rests = true

/-- R78: the condition does not hold before the stop. -/
theorem LastCoolingStops.before {s : State} {u : UnitIx} {i : Slot} (h : LastCoolingStops s u i) :
    leadCondition s.env u s.plant = false := by
  refine Bool.eq_false_iff.2 fun hcond => ?_
  simp only [leadCondition, Bool.and_eq_true, List.all_eq_true] at hcond
  obtain ⟨⟨-, hrest⟩, -⟩ := hcond
  have hi := hrest i ((mem_slotsOf_cool i).2 h.cooling)
  rw [h.bound, h.runs] at hi
  cases hi

/-- R78: the condition holds behind the stop. -/
theorem LastCoolingStops.after {s : State} {u : UnitIx} {i : Slot} (h : LastCoolingStops s u i) :
    leadCondition s.env u (s.plant.modUnit u (minOnRecord s.env u i)) = true := by
  have hnone : (s.plant.modUnit u (minOnRecord s.env u i)).hasEntry u .cool = false := h.entryless
  simp only [leadCondition, Bool.and_eq_true, List.all_eq_true, Plant.unit_modUnit_self, hnone]
  refine ⟨⟨⟨h.enabled, decide_eq_true h.order⟩, fun j hj => ?_⟩, rfl⟩
  rw [minOnRecord_stages]
  by_cases hi : j = i
  · subst hi
    rw [if_pos rfl, endMinOn_marked _ h.runs h.due h.marked, stopStage_rests, Bool.or_true]
  · rw [if_neg hi]
    cases hb : (s.env.cfg u).bound j
    · rfl
    · rw [h.others j ((mem_slotsOf_cool j).1 hj) hi hb]
      rfl

/-- R78: the stop brings the check, of the lead order and the run hours as they were. -/
theorem LastCoolingStops.check {s : State} {u : UnitIx} {i : Slot} (h : LastCoolingStops s u i) :
    ((minimumOnEnds s.env u i s.roof).plant.unit u).lead = ((leadCheck s.env u s.roof).plant.unit u).lead ∧
      (minimumOnEnds s.env u i s.roof).notices = (leadCheck s.env u s.roof).notices := by
  have hmove : moveUnit s.env u (fun p => p.modUnit u (minOnRecord s.env u i)) s.roof =
      leadCheck s.env u (s.roof.onPlant fun p => p.modUnit u (minOnRecord s.env u i)) := by
    unfold moveUnit
    rw [State.roof_plant, h.before, h.after]
    rfl
  have hkept : (s.roof.onPlant fun p => p.modUnit u (minOnRecord s.env u i)).plant.unit u =
      minOnRecord s.env u i (s.plant.unit u) := Plant.unit_modUnit_self ..
  rw [minimumOnEnds_eq, Roof.onPlant_plant, Roof.onPlant_notices, minOnEnds_lead, hmove]
  exact leadCheck_congr s.env (by rw [hkept]; rfl) (by rw [hkept]; rfl) rfl

/-- Settles O40: the least counter stands at the slot that takes the lead; the stop of the last cooling stage makes the
lead/lag condition true, so the move brings the check. -/
theorem leadPassesToTheLeastUsedSlot : Obligations.LeadPassesToTheLeastUsedSlot := by
  refine ⟨fun e u r i before after => ?_, fun s u i hready => ?_⟩
  · intro x hours limit horder hless hleast
    have hrotation := leadRotation_eq (x := x) ⟨horder, hless, hleast⟩ e.tables.roof.swapThreshold
    refine ⟨fun hclose => leadCheck_of_none ?_, fun hfirst => leadCheck_of_none ?_, fun hbehind hfar => ?_⟩
    · rw [hrotation, if_neg]
      rintro ⟨⟨j, hj, hfar⟩, -⟩
      exact Nat.not_lt.2 (hclose j hj) hfar
    · rw [hrotation, if_neg fun h => h.2 hfirst]
    · rw [if_pos ⟨hfar, hbehind⟩] at hrotation
      rw [leadCheck_of_some hrotation]
      exact ⟨rfl, rfl, rfl⟩
  · intro r hcool hbound hlag hlead hentry hstate hmark hdue hothers
    have hstops : LastCoolingStops s u i := {
      cooling := hcool, bound := hbound, enabled := hlag, order := hlead, entryless := hentry, runs := hstate
      marked := hmark, due := hdue
      others := fun j hj hi hb => by
        rcases hothers j hj hi hb with h | h | h
        · rw [h]; rfl
        · rw [h]; rfl
        · exact StageState.isTripped_rests h }
    obtain ⟨hplant, hnotices⟩ := conclude_roof_of_no_pass (s := s.onRoof fun e => minimumOnEnds e u i)
      ((minimumOnEnds_passDue ..).trans hready.2)
    refine ⟨_, exec_minimumOnEnd u i hready.1, ?_, ?_⟩
    · rw [hplant]
      exact hstops.check.1
    · rw [hnotices]
      exact hstops.check.2

end Sys2Proof.Machine

namespace Sys2Proof.Machine

/-! ## A cause whose condition is gone (R73, R141, R142) -/

/-! ### Strikes -/

theorem strike_ne_nil (now window : Nat) (times : List Nat) : strike now window times ≠ [] := by
  unfold strike
  dsimp only
  split
  · next h =>
    rw [← List.length_pos_iff, List.length_drop]
    simp only [Config.strikePlaces] at h
    omega
  · simp

/-- R142: the strike list of a class and position, written and read. -/
theorem strikesOf_setStrikes (cls : TripClass) (pos : Option Nat) {times : List Nat} (h : times ≠ []) (x : UnitRec) :
    strikesOf (setStrikes cls pos times x) cls pos = times := by
  have hwritten : (setStrikes cls pos times x).strikes = (x.strikes.filter fun s =>
      !(decide (s.tripClass = cls) && decide (s.position = pos))) ++ [⟨cls, pos, times⟩] :=
    if_neg (by simpa using h)
  have hothers : (x.strikes.filter fun s => !(decide (s.tripClass = cls) && decide (s.position = pos))).find?
      (fun s => decide (s.tripClass = cls) && decide (s.position = pos)) = none :=
    List.find?_eq_none.2 fun s hs hkey => by
      have hother := (List.mem_filter.1 hs).2
      rw [hkey] at hother
      cases hother
  unfold strikesOf
  rw [hwritten, List.find?_append, hothers]
  simp

/-! ### Slots handed on (R73) -/

/-- R63, R69: a settlement moves a stage that is off among the free states at most. -/
theorem settle_reselects_off (e : Env) {u : UnitIx} {r : Roof} {i : Slot}
    (h : (r.plant.unit u).stages[i].state.isOn = false) :
    (r.plant.unit u).stages[i].Reselected ((settle e u r).plant.unit u).stages[i] := by
  by_cases hs : (r.plant.unit u).state.isSettled = true
  · have hmarks : (settleMarks e u (r.plant.unit u)).stages[i] = (r.plant.unit u).stages[i] := by
      rw [settleMarks, UnitRec.mapStages_stages, settleStage, h]
      rfl
    rw [← hmarks]
    exact (settle_unit e hs).2 i
  · rw [settle, if_neg hs]
    exact .inl rfl

theorem Stage.Reselected.off {a b : Stage} (h : a.Reselected b) (ha : a.state.isOn = false) : b.state.isOn = false := by
  rcases h with rfl | ⟨-, hfree⟩
  · exact ha
  · exact StageState.isFree_off hfree

theorem Stage.Reselected.untripped {a b : Stage} (h : a.Reselected b) (ha : a.state.isTripped = false) :
    b.state.isTripped = false := by
  rcases h with rfl | ⟨-, hfree⟩
  · exact ha
  · cases hb : b.state <;> simp_all [StageState.isFree, StageState.isTripped]

/-- R73: a tripped stage that no cause holds any longer. -/
theorem releaseStage_freed {causes : List Cause} {i : Slot} {st : Stage} (inLocal : Bool) (now minOff : Nat)
    (h : ∀ d ∈ causes, d.covers i = false) (htripped : st.state.isTripped = true) :
    releaseStage inLocal now minOff causes i st =
      if inLocal then { st with state := .inLocal } else stopStage now minOff st := by
  have hnone : trippedState causes i = none := by
    unfold trippedState
    rw [if_neg, if_neg]
    · simpa using h
    · simp only [List.any_eq_true, Bool.and_eq_true, not_exists, not_and]
      intro d hd hcovers
      rw [h d hd] at hcovers
      cases hcovers
  rw [releaseStage, if_pos htripped, hnone]

/-- R73, R69: a slot of the scope that no cause holds any longer, behind its release and the settlement. -/
theorem releaseSlots_freed (e : Env) {u : UnitIx} {scope : Slot → Bool} {r : Roof} {i : Slot}
    (hbound : (e.cfg u).bound i = true) (hscope : scope i = true)
    (htripped : (r.plant.unit u).stages[i].state.isTripped = true)
    (hfreed : ∀ d ∈ (r.plant.unit u).causes, d.covers i = false) :
    let x := r.plant.unit u
    let y := (releaseSlots e u scope r).plant.unit u
    (x.state ≠ .inLocal → y.stages[i].state.isTripped = false ∧ y.stages[i].state.isOn = false ∧
      y.stages[i].stopTime = some e.now ∧ y.stages[i].minOffEnd = some (e.now + minOffOf e.tables u i)) ∧
    (x.state = .inLocal → y.stages[i].state = .inLocal) := by
  intro x y
  let released := (moveUnit e u (fun p => p.modUnit u (releaseRecord e u scope)) r).onPlant (refreshTarget false u)
  have hy : y = (settle e u released).plant.unit u := rfl
  have hstage : (released.plant.unit u).stages[i] =
      if x.state = .inLocal then { x.stages[i] with state := .inLocal }
      else stopStage e.now (minOffOf e.tables u i) x.stages[i] := by
    obtain ⟨order, hunit⟩ := moveUnit_unit_self e u (fun p => p.modUnit u (releaseRecord e u scope)) r
    obtain ⟨m, b, hrefreshed⟩ := refreshTarget_unit_self false u
      (moveUnit e u (fun p => p.modUnit u (releaseRecord e u scope)) r).plant
    rw [Plant.unit_modUnit_self] at hunit
    rw [Roof.onPlant_plant, hrefreshed, hunit]
    refine (UnitRec.mapStages_stages ..).trans ?_
    rw [hbound, hscope, releaseStage_freed _ _ _ hfreed htripped]
    simp only [decide_eq_true_eq]
    rfl
  refine ⟨fun hremote => ?_, fun hlocal => ?_⟩
  · rw [if_neg hremote] at hstage
    have hstopped := stopStage_stoppedAt e.now (minOffOf e.tables u i) x.stages[i]
    have hkept := settle_reselects_off e (r := released) (i := i) (by rw [hstage]; exact hstopped.off)
    have hturns := (settle_turns e u released).stage u i
    rw [hstage] at hkept hturns
    exact ⟨hkept.untripped (stopStage_fields ..).1, hkept.off hstopped.off,
      hturns.stopTime_now hstopped.stopTime, hturns.minOffEnd_now hstopped.minOffEnd⟩
  · rw [if_pos hlocal] at hstage
    have hkept := settle_reselects_off e (r := released) (i := i) (by rw [hstage]; rfl)
    rw [hstage] at hkept
    rcases hkept with hsame | ⟨hfree, -⟩
    · rw [hy, hsame]
    · cases hfree

/-- R78: the release of slots makes no capture, and raises LEAD_SWAPPED once at most. -/
theorem releaseSlots_lists (e : Env) (u : UnitIx) (scope : Slot → Bool) (r : Roof) :
    (releaseSlots e u scope r).captures = r.captures ∧
      SwapMayFollow e u r.notices (releaseSlots e u scope r).notices := by
  have hrelease := Roof.swappedOnce_moveUnit e u (fun p => p.modUnit u (releaseRecord e u scope)) r
  rw [releaseSlots_eq]
  exact ⟨by rw [settle_captures, Roof.onPlant_captures, moveUnit_captures], (hrelease.refreshTarget false).settle⟩

/-! ### The two ends of a strike (R141) -/

/-- R142: the roof with the unit's strikes of a class and position written. -/
def struckRoof (u : UnitIx) (c : Cause) (times : List Nat) (r : Roof) : Roof :=
  r.onPlant fun p => p.modUnit u (setStrikes c.tripClass c.position times)

theorem releaseCause_editable (e : Env) (u : UnitIx) (c : Cause) (r : Roof) {pol : Policy}
    (h : policyOf e.tables c.tripClass = some pol) :
    let times := strike e.now e.tables.roof.strikeWindow (strikesOf (r.plant.unit u) c.tripClass c.position)
    releaseCause e u c r = if pol.strikeLimit ≤ times.length
      then escalateCause e u c times.length (struckRoof u c times r) else removeCause e u c (struckRoof u c times r) := by
  unfold releaseCause
  rw [h]
  rfl

theorem struckRoof_unit (u : UnitIx) (c : Cause) (times : List Nat) (r : Roof) :
    (struckRoof u c times r).plant.unit u = setStrikes c.tripClass c.position times (r.plant.unit u) :=
  Plant.unit_modUnit_self ..

/-- R141: the roof with the cause out of the unit's list and TRIP_CLEARED raised. -/
def clearedOf (e : Env) (u : UnitIx) (c : Cause) (r : Roof) : Roof :=
  (r.onPlant fun p => p.modUnit u fun x =>
    { x with causes := x.causes.filter fun d => !d.isOf c.tripClass c.position }).raise e .tripCleared (unitAddr u)
    c.position (some c.tripClass.code)

theorem removeCause_eq (e : Env) (u : UnitIx) (c : Cause) (r : Roof) :
    removeCause e u c r = releaseSlots e u c.covers (clearedOf e u c r) := rfl

/-- R141: a cause with its mark set and its condition absent. -/
def Cause.escalated (c d : Cause) : Cause :=
  if d.isOf c.tripClass c.position then { d with latched := true, present := false } else d

/-- R141: the roof with the cause escalated in the unit's list. -/
def escalatedOf (u : UnitIx) (c : Cause) (r : Roof) : Roof :=
  r.onPlant fun p => p.modUnit u fun x => { x with causes := x.causes.map c.escalated }

theorem escalateCause_eq (e : Env) (u : UnitIx) (c : Cause) (held : Nat) (r : Roof) :
    escalateCause e u c held r =
      (tripSlots e u c.covers (escalatedOf u c r)).raise e .latchEscalated (unitAddr u) c.position (some held) := rfl

theorem escalatedOf_unit (u : UnitIx) (c : Cause) (r : Roof) : (escalatedOf u c r).plant.unit u =
    { r.plant.unit u with causes := (r.plant.unit u).causes.map c.escalated } := Plant.unit_modUnit_self ..

/-- R141, R142: an escalated cause latches the slots it covers. -/
theorem trippedState_escalated {c : Cause} {causes : List Cause} {i : Slot} (h : c ∈ causes)
    (hcovers : c.covers i = true) : trippedState (causes.map c.escalated) i = some .trippedLatched := by
  have hself : c.escalated c = { c with latched := true, present := false } :=
    if_pos ((c.isOf_iff ..).2 ⟨rfl, rfl⟩)
  have hmem : { c with latched := true, present := false } ∈ causes.map c.escalated := hself ▸ List.mem_map_of_mem h
  have hcovers' : Cause.covers { c with latched := true, present := false } i = true := hcovers
  rw [trippedState_covered ⟨_, hmem, hcovers'⟩, if_pos ⟨_, hmem, hcovers', rfl⟩]

/-- Settles O37: the strike is written first; then the cause leaves, with the slots no other cause holds stopped, or is
escalated, with its slots latched; the settlement behind either keeps them. -/
theorem goneConditionStrikesAndReleases : Obligations.GoneConditionStrikesAndReleases := by
  intro e u c r pol hpol hc x times t y
  have ht := releaseCause_editable e u c r hpol
  have hstruck := struckRoof_unit u c times r
  have hstrikes := strikesOf_setStrikes c.tripClass c.position (strike_ne_nil e.now e.tables.roof.strikeWindow
    (strikesOf x c.tripClass c.position)) x
  by_cases hlimit : pol.strikeLimit ≤ times.length
  case pos =>
    have hescalated := escalatedOf_unit u c (struckRoof u c times r)
    have ht' : t = (tripSlots e u c.covers (escalatedOf u c (struckRoof u c times r))).raise e .latchEscalated
        (unitAddr u) c.position (some times.length) := ht.trans (if_pos hlimit)
    obtain ⟨hcaptures, hswap⟩ := tripSlots_lists e u c.covers (escalatedOf u c (struckRoof u c times r))
    have hmoves := (tripSlots_moves e u c.covers (escalatedOf u c (struckRoof u c times r))).unit u
    rw [hescalated, hstruck] at hmoves
    have hy : y = (tripSlots e u c.covers (escalatedOf u c (struckRoof u c times r))).plant.unit u := by
      rw [← Roof.raise_plant, ← ht']
    have hcauses : y.causes = x.causes.map c.escalated := by rw [hy]; exact hmoves.causes
    refine ⟨?_, ?_, fun hbelow => absurd hlimit (Nat.not_le.2 hbelow), fun _ => ⟨?_, ?_, ?_, ?_⟩⟩
    · rw [hy, strikesOf_congr hmoves.strikes]
      exact hstrikes
    · rw [ht']
      exact hcaptures
    · rw [hcauses]
      intro d hd hcls hpos
      obtain ⟨b, -, rfl⟩ := List.mem_map.1 hd
      unfold Cause.escalated at hcls hpos ⊢
      split at hcls <;> simp_all [Cause.isOf_iff]
    · rw [hcauses, List.length_map]
    · exact ⟨_, hswap, by rw [ht']; rfl⟩
    · intro i hbound hcovers
      have hstate := trippedState_escalated hc hcovers
      obtain ⟨htripped, -, -⟩ := tripSlots_unit e (r := escalatedOf u c (struckRoof u c times r)) hbound hcovers
        (by rw [hescalated, hstruck]; exact hstate)
      rw [hy]
      exact htripped.state
  case neg =>
    have hcleared : (clearedOf e u c (struckRoof u c times r)).plant.unit u =
        { setStrikes c.tripClass c.position times x with
          causes := x.causes.filter fun d => !d.isOf c.tripClass c.position } := by
      rw [clearedOf, Roof.raise_plant, Roof.onPlant_plant, Plant.unit_modUnit_self, hstruck]
      rfl
    have ht' : t = releaseSlots e u c.covers (clearedOf e u c (struckRoof u c times r)) := ht.trans (if_neg hlimit)
    obtain ⟨hcaptures, hswap⟩ := releaseSlots_lists e u c.covers (clearedOf e u c (struckRoof u c times r))
    have hmoves := (releaseSlots_moves e u c.covers (clearedOf e u c (struckRoof u c times r))).unit u
    rw [← ht'] at hcaptures hswap hmoves
    rw [hcleared] at hmoves
    refine ⟨?_, hcaptures, fun _ => ⟨hmoves.causes, hswap, fun i hbound hcovers htripped hfreed => ?_⟩,
      fun habove => absurd habove hlimit⟩
    · rw [strikesOf_congr hmoves.strikes]
      exact hstrikes
    · have hreleased := releaseSlots_freed e (r := clearedOf e u c (struckRoof u c times r)) hbound hcovers
        (by rw [hcleared]; exact htripped) (by rw [hcleared, ← hmoves.causes]; exact hfreed)
      rw [← ht', hcleared] at hreleased
      exact hreleased

end Sys2Proof.Machine

namespace Sys2Proof.Machine

/-! ## The ends of the windows and of the minimum on time (R62, R63, R66 to R68) -/

/-! ### The queued slots chosen again (R63) -/

/-- R63: what becomes of one stage: of a free one the state is chosen, QUEUED for a kind with an entry alone. -/
theorem selectQueued_stage (hasCool hasHeat : Bool) (r : UnitRec) (i : Slot) :
    ∃ next, (selectQueued hasCool hasHeat r).stages[i] = { r.stages[i] with state := next } ∧
      (r.stages[i].state.isFree = false → next = r.stages[i].state) ∧
      (r.stages[i].state.isFree = true →
        next = .offReady ∨ (next = .queued ∧ hasEntryOf hasCool hasHeat (slotKind i) = true)) := by
  rw [selectQueued, UnitRec.mapStages_stages]
  by_cases hfree : r.stages[i].state.isFree = true
  · rw [if_pos hfree]
    refine ⟨_, rfl, fun h => absurd hfree (by rw [h]; nofun), fun _ => ?_⟩
    split
    · next hchosen => exact .inr ⟨rfl, hchosen.1⟩
    · exact .inl rfl
  · rw [if_neg hfree]
    exact ⟨r.stages[i].state, rfl, fun _ => rfl, fun h => absurd h hfree⟩

theorem hasEntryOf_hasEntry (p : Plant) (u : UnitIx) (k : Kind) :
    hasEntryOf (p.hasEntry u .cool) (p.hasEntry u .heat) k = p.hasEntry u k := by
  cases k <;> rfl

/-- R79: behind a change of every stage a NOT_PROVEN count stands only where the stage may be proved. -/
theorem UnitRec.mapStages_notProven (r : UnitRec) (f : Slot → Stage → Stage) (i : Slot) : (r.mapStages f).notProven[i] =
    if (r.mapStages f).stages[i].state.isProving then r.notProven[i] else 0 := by
  simp [UnitRec.mapStages]

theorem StageState.isProving_isOn {st : StageState} (h : st.isProving = true) : st.isOn = true := by
  cases st with
  | runMin | running => rfl
  | notFitted | offLocked | offReady | queued | starting | trippedAuto | trippedLatched | inLocal => cases h

/-! ### The off windows (R62) -/

theorem exec_offWindowsElapsed {s : State} (u : UnitIx) (i : Slot) (h : s.powered = true) :
    exec (.offWindowsElapsed u i) s = .next (conclude (s.onPlant fun e p => offWindowsEnd e u i p)) :=
  roofCommand_on (fun s => s.onPlant fun e p => offWindowsEnd e u i p) h

/-- R62: a stage leaves OFF_LOCKED where both its windows have elapsed. -/
theorem passOn_locked {now : Nat} {st : Stage} (h : st.state = .offLocked) :
    passOn now st = if elapsed now st.minOffEnd = true ∧ elapsed now st.startToStartEnd = true
      then { st with state := .offReady } else st := by
  simp [passOn, h]

/-- R62, R63: the stage behind the end of its off windows. -/
theorem offWindowsEnd_stage (e : Env) {u : UnitIx} {i : Slot} {p : Plant} (h : (p.unit u).stages[i].state = .offLocked) :
    let old := (p.unit u).stages[i]
    ∃ st, ((offWindowsEnd e u i p).unit u).stages[i] = { old with state := st } ∧
      (elapsed e.now old.minOffEnd = true → elapsed e.now old.startToStartEnd = true →
        st = .offReady ∨ (st = .queued ∧ p.hasEntry u (slotKind i) = true)) ∧
      ((elapsed e.now old.minOffEnd = false ∨ elapsed e.now old.startToStartEnd = false) → st = .offLocked) := by
  intro old
  obtain ⟨next, hstage, hkept, hchosen⟩ := selectQueued_stage (p.hasEntry u .cool) (p.hasEntry u .heat)
    ((p.unit u).modStage i (passOn e.now)) i
  have hpassed : ((p.unit u).modStage i (passOn e.now)).stages[i] = passOn e.now old := by
    rw [modStage_stages, if_pos rfl]
  rw [hpassed, passOn_locked h] at hstage hkept hchosen
  rw [hasEntryOf_hasEntry] at hchosen
  have hunit : (offWindowsEnd e u i p).unit u = selectQueued (p.hasEntry u .cool) (p.hasEntry u .heat)
      ((p.unit u).modStage i (passOn e.now)) := by
    rw [offWindowsEnd, reselect, Plant.unit_modUnit_self, Plant.unit_modUnit_self]
    rfl
  rw [hunit]
  by_cases hdue : elapsed e.now old.minOffEnd = true ∧ elapsed e.now old.startToStartEnd = true
  · rw [if_pos hdue] at hstage hchosen
    refine ⟨next, hstage, fun _ _ => hchosen rfl, ?_⟩
    rintro (hnot | hnot) <;> simp [hnot] at hdue
  · rw [if_neg hdue] at hstage hkept
    have hlocked : next = .offLocked := (hkept (by rw [h]; rfl)).trans h
    exact ⟨next, hstage, fun hoff hstart => absurd ⟨hoff, hstart⟩ hdue, fun _ => hlocked⟩

/-! ### A move with the target map and the queued slots behind it (R61, R63) -/

/-- R66, R67: a move of one unit's record, behind which the target map is written and the queued slots chosen. -/
def restaged (e : Env) (u : UnitIx) (g : UnitRec → UnitRec) (r : Roof) : Roof :=
  (moveUnit e u (fun p => p.modUnit u g) r).onPlant fun p => reselect u (refreshTarget false u p)

theorem minimumOnEnds_restaged (e : Env) (u : UnitIx) (i : Slot) (r : Roof) :
    minimumOnEnds e u i r = restaged e u (minOnRecord e u i) r := rfl

theorem restaged_frame (e : Env) (u : UnitIx) (g : UnitRec → UnitRec) (r : Roof) :
    (restaged e u g r).plant.queue = r.plant.queue ∧ (restaged e u g r).plant.passDue = r.plant.passDue ∧
      (restaged e u g r).captures = r.captures :=
  ⟨(refreshTarget_queue ..).trans (moveUnit_queue ..), (refreshTarget_passDue ..).trans (moveUnit_passDue ..),
    moveUnit_captures ..⟩

/-- R61, R63: the unit behind such a move. -/
theorem restaged_unit (e : Env) (u : UnitIx) (g : UnitRec → UnitRec) (r : Roof) :
    let x := g (r.plant.unit u)
    ∃ order m b hasCool hasHeat, (restaged e u g r).plant.unit u =
        selectQueued hasCool hasHeat { x with lead := order, target := m, fresh := b } ∧
      (x.state.isSettled = true → m = scheduledMap x) := by
  intro x
  let q := (moveUnit e u (fun p => p.modUnit u g) r).plant
  obtain ⟨order, hmoved⟩ := moveUnit_unit_self e u (fun p => p.modUnit u g) r
  rw [Plant.unit_modUnit_self] at hmoved
  obtain ⟨m, b, hrefreshed⟩ := refreshTarget_unit_self false u q
  refine ⟨order, m, b, (refreshTarget false u q).hasEntry u .cool, (refreshTarget false u q).hasEntry u .heat, ?_,
    fun hs => ?_⟩
  · rw [restaged, Roof.onPlant_plant, reselect, Plant.unit_modUnit_self, hrefreshed, hmoved]
  · have htarget := refreshTarget_target false (u := u) (p := q) (by rw [hmoved]; exact hs)
    rw [hrefreshed, hmoved] at htarget
    exact htarget

/-- R31: an ONLINE unit whose target map has changed behind such a move has a pending injection. -/
theorem restaged_asks (e : Env) {u : UnitIx} {g : UnitRec → UnitRec} {r : Roof}
    (hstate : (g (r.plant.unit u)).state = .online) :
    ((restaged e u g r).plant.unit u).target = (g (r.plant.unit u)).target ∨
      u ∈ (restaged e u g r).plant.injections := by
  let q := (moveUnit e u (fun p => p.modUnit u g) r).plant
  obtain ⟨order, hmoved⟩ := moveUnit_unit_self e u (fun p => p.modUnit u g) r
  rw [Plant.unit_modUnit_self] at hmoved
  have hturns : q.Turns e (restaged e u g r).plant := (refreshTarget_turns ..).trans (reselect_turns ..)
  rcases hturns.asks u (by rw [hmoved]; exact hstate) with hsame | hasked
  · exact .inl (hsame.trans (by rw [hmoved]))
  · exact .inr hasked

/-- R63, R79: a stage behind such a move, with its slot in the target map and its NOT_PROVEN count. -/
theorem restaged_stage (e : Env) (u : UnitIx) (g : UnitRec → UnitRec) (r : Roof) (i : Slot) :
    let st := (g (r.plant.unit u)).stages[i]
    let y := (restaged e u g r).plant.unit u
    (∃ next, y.stages[i] = { st with state := next }) ∧ (st.state.isOn = true → y.stages[i] = st) ∧
    (st.state.isOn = false → y.stages[i].state.isOn = false ∧ y.notProven[i] = 0 ∧
      ((g (r.plant.unit u)).state.isSettled = true → y.target.has i = false)) := by
  intro st y
  obtain ⟨order, m, b, hasCool, hasHeat, hunit, htarget⟩ := restaged_unit e u g r
  let x : UnitRec := { g (r.plant.unit u) with lead := order, target := m, fresh := b }
  obtain ⟨next, hstage, hkept, -⟩ := selectQueued_stage hasCool hasHeat x i
  have hreselected : st.Reselected (selectQueued hasCool hasHeat x).stages[i] := selectQueued_reselected ..
  have hy : y = selectQueued hasCool hasHeat x := hunit
  rw [hy]
  refine ⟨⟨next, hstage⟩, fun hon => ?_, fun hoff => ?_⟩
  · rcases hreselected with hsame | ⟨hfree, -⟩
    · exact hsame
    · rw [StageState.isFree_off hfree] at hon
      cases hon
  · have hstopped := hreselected.off hoff
    refine ⟨hstopped, ?_, fun hs => ?_⟩
    · refine (UnitRec.mapStages_notProven x _ i).trans (if_neg fun hproving => ?_)
      have hon : (selectQueued hasCool hasHeat x).stages[i].state.isOn = true := StageState.isProving_isOn hproving
      rw [hstopped] at hon
      cases hon
    · have hmap : (selectQueued hasCool hasHeat x).target = scheduledMap (g (r.plant.unit u)) := htarget hs
      rw [hmap, scheduledMap_has]
      exact hoff

/-! ### The minimum on time (R67, R68) -/

/-- R67: an unmarked stage at its minimum-on end runs on. -/
theorem endMinOn_unmarked {now : Nat} (minOff : Nat) {st : Stage} (hstate : st.state = .runMin)
    (hdue : elapsed now st.minOnEnd = true) (hmark : st.stopPending = false) :
    endMinOn now minOff st = { st with state := .running } := by
  rw [endMinOn, if_pos ⟨hstate, hdue⟩, if_neg (by rw [hmark]; nofun)]

theorem endMinOn_early {now : Nat} (minOff : Nat) {st : Stage} (hdue : elapsed now st.minOnEnd = false) :
    endMinOn now minOff st = st := by
  rw [endMinOn, if_neg]
  rintro ⟨-, h⟩
  rw [hdue] at h
  cases h

/-- A command on the roof that makes no capture changes only the plant and what follows from it. -/
theorem onlyPlantChanged_onRoof {s : State} {f : Env → Roof → Roof} (h : (f s.env s.roof).captures = s.captures) :
    OnlyPlantChanged s (s.onRoof f) s.link :=
  ⟨rfl, rfl, rfl, rfl, rfl, rfl, rfl, rfl, rfl, rfl, h, rfl, rfl, rfl, rfl⟩

/-- R67, R68, R79: the stage at its minimum-on end. -/
theorem minimumOnEnds_stage (e : Env) {u : UnitIx} {i : Slot} {r : Roof} (hs : (r.plant.unit u).state = .online)
    (hstate : (r.plant.unit u).stages[i].state = .runMin)
    (hdue : elapsed e.now (r.plant.unit u).stages[i].minOnEnd = true) :
    let st := (r.plant.unit u).stages[i]
    let p := (minimumOnEnds e u i r).plant
    let y := p.unit u
    (st.stopPending = false → y.stages[i] = { st with state := .running }) ∧
    (st.stopPending = true → y.stages[i].state.isOn = false ∧ y.stages[i].stopPending = false ∧
      y.stages[i].stopTime = some e.now ∧ y.stages[i].minOffEnd = some (e.now + minOffOf e.tables u i) ∧
      y.stages[i].startToStartEnd = st.startToStartEnd ∧ y.notProven[i] = 0 ∧ y.target.has i = false ∧
      ((r.plant.unit u).target.has i = true → u ∈ p.injections)) := by
  intro st p y
  obtain ⟨⟨next, hnext⟩, hkept, hstopped⟩ := restaged_stage e u (minOnRecord e u i) r i
  rw [← minimumOnEnds_restaged] at hnext hkept hstopped
  have hended : (minOnRecord e u i (r.plant.unit u)).stages[i] = endMinOn e.now (minOffOf e.tables u i) st := by
    rw [minOnRecord_stages, if_pos rfl]
  rw [hended] at hnext hkept hstopped
  refine ⟨fun hmark => ?_, fun hmark => ?_⟩
  · rw [endMinOn_unmarked _ hstate hdue hmark] at hkept
    exact hkept rfl
  · rw [endMinOn_marked _ hstate hdue hmark] at hnext hstopped
    rw [(stopStage_fields ..).2] at hnext
    obtain ⟨hoff, hproven, htarget⟩ := hstopped (stopStage_stoppedAt ..).off
    have hcleared : y.target.has i = false := htarget (by rw [show (minOnRecord e u i (r.plant.unit u)).state = _ from hs]; rfl)
    refine ⟨hoff, ?_, ?_, ?_, ?_, hproven, hcleared, fun hon => ?_⟩
    · rw [hnext]
    · rw [hnext]
    · rw [hnext]
    · rw [hnext]
    · refine (restaged_asks e (g := minOnRecord e u i) hs).resolve_left fun hsame => ?_
      have hmap : y.target = (r.plant.unit u).target := hsame
      rw [hmap, hon] at hcleared
      cases hcleared

/-! ### The blanking window (R66) -/

theorem exec_blankingWindowEnd {s : State} (u : UnitIx) (h : s.powered = true) :
    exec (.blankingWindowEnd u) s = .next (conclude (s.onRoof fun e => blankingEnds e u)) :=
  roofCommand_on (fun s => s.onRoof fun e => blankingEnds e u) h

/-- R66: the unit's record at the end of its blanking window. -/
def unblankedRecord (e : Env) (u : UnitIx) (x : UnitRec) : UnitRec :=
  { x.mapStages fun i st => endStarting e.now (minOffOf e.tables u i) st with window := none }

theorem blankingEnds_eq (e : Env) (u : UnitIx) (r : Roof) : blankingEnds e u r =
    if windowDue e.now (r.plant.unit u).window then restaged e u (unblankedRecord e u) r else r := rfl

theorem blankingEnds_frame (e : Env) (u : UnitIx) (r : Roof) :
    (blankingEnds e u r).plant.passDue = r.plant.passDue ∧ (blankingEnds e u r).captures = r.captures := by
  rw [blankingEnds_eq]
  split
  · exact (restaged_frame ..).2
  · exact ⟨rfl, rfl⟩

/-- R66: the window behind its end. -/
theorem restaged_window (e : Env) (u : UnitIx) (g : UnitRec → UnitRec) (r : Roof) :
    ((restaged e u g r).plant.unit u).window = (g (r.plant.unit u)).window := by
  obtain ⟨order, m, b, hasCool, hasHeat, hunit, -⟩ := restaged_unit e u g r
  rw [hunit]
  rfl

/-- R66, R67: a STARTING stage at the end of its unit's window. -/
theorem blankingEnds_stage (e : Env) {u : UnitIx} {i : Slot} {r : Roof}
    (hdue : windowDue e.now (r.plant.unit u).window = true)
    (hstate : (r.plant.unit u).stages[i].state = .starting) :
    let st := (r.plant.unit u).stages[i]
    let y := (blankingEnds e u r).plant.unit u
    (elapsed e.now st.minOnEnd = false → y.stages[i].state = .runMin) ∧
    (elapsed e.now st.minOnEnd = true → st.stopPending = false → y.stages[i].state = .running) ∧
    (elapsed e.now st.minOnEnd = true → st.stopPending = true → y.stages[i].state.isOn = false) := by
  intro st y
  obtain ⟨-, hkept, hstopped⟩ := restaged_stage e u (unblankedRecord e u) r i
  have hy : y = (restaged e u (unblankedRecord e u) r).plant.unit u := by
    rw [← show blankingEnds e u r = restaged e u (unblankedRecord e u) r from if_pos hdue]
  have hended : (unblankedRecord e u (r.plant.unit u)).stages[i] =
      endMinOn e.now (minOffOf e.tables u i) { st with state := .runMin } :=
    (UnitRec.mapStages_stages ..).trans (if_pos hstate)
  rw [hended, ← hy] at hkept hstopped
  refine ⟨fun hearly => ?_, fun hlate hmark => ?_, fun hlate hmark => ?_⟩
  · rw [endMinOn_early (st := { st with state := .runMin }) _ hearly] at hkept
    rw [hkept rfl]
  · rw [endMinOn_unmarked (st := { st with state := .runMin }) _ rfl hlate hmark] at hkept
    rw [hkept rfl]
  · rw [endMinOn_marked (st := { st with state := .runMin }) _ rfl hlate hmark] at hstopped
    exact (hstopped (stopStage_stoppedAt ..).off).1

/-- Settles O23: no entry joins at these ends, so what the command writes of the unit stays; the choice of the queued
slots behind it moves free stages alone. -/
theorem windowEndsMoveTheStages : Obligations.WindowEndsMoveTheStages := by
  refine ⟨fun s u i hready hlocked => ?_, fun s u i hready hstate hdue honline => ?_, fun s u w hready hwindow => ?_⟩
  · obtain ⟨st, hstage, hleaves, hstays⟩ := offWindowsEnd_stage s.env (p := s.plant) hlocked
    have hplant := conclude_plant_of_no_pass (s := s.onPlant fun e p => offWindowsEnd e u i p) hready.2
    have honly : OnlyPlantChanged s (s.onPlant fun e p => offWindowsEnd e u i p) s.link :=
      ⟨rfl, rfl, rfl, rfl, rfl, rfl, rfl, rfl, rfl, rfl, rfl, rfl, rfl, rfl, rfl⟩
    refine ⟨_, st, exec_offWindowsElapsed u i hready.1, ?_, fun hoff hstart => ⟨?_, fun hnone => ?_⟩, hstays, ?_, ?_, ?_,
      honly.conclude⟩
    · rw [hplant]
      exact hstage
    · exact hleaves hoff hstart
    · refine (hleaves hoff hstart).resolve_right fun hqueued => ?_
      rw [hnone] at hqueued
      cases hqueued.2
    · rw [hplant, State.onPlant_plant, offWindowsEnd, reselect, Plant.unit_modUnit_self, Plant.unit_modUnit_self]
      rfl
    · rw [hplant, State.onPlant_plant, offWindowsEnd, reselect, Plant.unit_modUnit_self, Plant.unit_modUnit_self]
      rfl
    · rw [hplant]
      rfl
  · obtain ⟨hqueue, hpass, hcaptures⟩ := restaged_frame s.env u (minOnRecord s.env u i) s.roof
    have hplant := conclude_plant_of_no_pass (s := s.onRoof fun e => minimumOnEnds e u i) (hpass.trans hready.2)
    obtain ⟨hruns, hstops⟩ := minimumOnEnds_stage s.env (r := s.roof) honline hstate hdue
    refine ⟨_, exec_minimumOnEnd u i hready.1, ?_, (onlyPlantChanged_onRoof hcaptures).conclude, fun hmark => ?_, ?_⟩
    · rw [hplant]
      exact hqueue
    · rw [hplant, State.onRoof_plant, hruns hmark]
      exact ⟨rfl, rfl⟩
    · rw [hplant]
      exact hstops
  · obtain ⟨hpass, hcaptures⟩ := blankingEnds_frame s.env u s.roof
    have hplant := conclude_plant_of_no_pass (s := s.onRoof fun e => blankingEnds e u) (hpass.trans hready.2)
    have hends : windowDue s.seconds (s.plant.unit u).window = decide (w.anchor + w.length ≤ s.seconds) := by
      rw [hwindow]
      rfl
    refine ⟨_, exec_blankingWindowEnd u hready.1, (onlyPlantChanged_onRoof hcaptures).conclude, fun hearly => ?_,
      fun hlate => ?_⟩
    · have hsame : blankingEnds s.env u s.roof = s.roof := if_neg (by
        rw [State.roof_plant, State.env_now, hends]
        simpa using hearly)
      rw [hplant, State.onRoof_plant, hsame]
      exact ⟨hwindow, rfl⟩
    · have hdue : windowDue s.seconds (s.plant.unit u).window = true := by rw [hends]; exact decide_eq_true hlate
      have hends' : blankingEnds s.env u s.roof = restaged s.env u (unblankedRecord s.env u) s.roof := if_pos hdue
      rw [hplant]
      refine ⟨?_, fun i hstarting => blankingEnds_stage s.env (r := s.roof) hdue hstarting⟩
      rw [State.onRoof_plant, hends', restaged_window]
      rfl

end Sys2Proof.Machine

namespace Sys2Proof.Machine

/-! ## A started slot runs on (R64, R67 to R69) -/

/-- The stage has been started and its minimum-on end is to come: STARTING or RUN_MIN. -/
def Stage.RunsIn (st : Stage) : Prop := st.state = .starting ∨ st.state = .runMin

/-- R67 to R69: of a stage that runs in nothing but the stop mark changes. -/
structure Stage.RunsOnTo (a b : Stage) : Prop where
  kept : a.RunsIn → b = { a with stopPending := b.stopPending }

theorem Stage.RunsOnTo.refl (a : Stage) : a.RunsOnTo a := ⟨fun _ => rfl⟩

theorem Stage.RunsOnTo.trans {a b c : Stage} (h : a.RunsOnTo b) (k : b.RunsOnTo c) : a.RunsOnTo c where
  kept hin := by
    have hb := h.kept hin
    have hbin : b.RunsIn := by
      rw [hb]
      exact hin
    rw [k.kept hbin, hb]

theorem Stage.RunsIn.isOn {st : Stage} (h : st.RunsIn) : st.state.isOn = true := by
  rcases h with h | h <;> rw [h] <;> rfl

/-- A stage that does not run in may be moved in any way. -/
theorem Stage.RunsOnTo.of_off {a : Stage} (h : a.state.isOn = false) (b : Stage) : a.RunsOnTo b where
  kept hin := by
    rw [hin.isOn] at h
    cases h

/-- R69: a settlement marks a stage that runs in, and stops it nowhere. -/
theorem settleStage_runsOn (e : Env) (u : UnitIx) (r : UnitRec) (i : Slot) (st : Stage) :
    st.RunsOnTo (settleStage e u r i st) := by
  unfold settleStage
  split
  · split
    · split
      · next hrunning =>
        refine ⟨?_⟩
        rintro (hin | hin) <;> rw [hin] at hrunning <;> cases hrunning
      · exact ⟨fun _ => rfl⟩
    · exact ⟨fun _ => rfl⟩
  · exact .refl st

/-! ### The plant -/

/-- Every stage that runs in runs on, and the stagger timer runs as before or is started at this moment (R92). -/
structure Plant.RunsOn (e : Env) (p q : Plant) : Prop where
  stage : ∀ v (i : Slot), (p.unit v).stages[i].RunsOnTo (q.unit v).stages[i]
  stagger : q.staggerEnd = p.staggerEnd ∨ q.staggerEnd = some (e.now + e.tables.roof.staggerTime)

theorem Plant.RunsOn.trans {e : Env} {p q r : Plant} (h : p.RunsOn e q) (k : q.RunsOn e r) : p.RunsOn e r where
  stage v i := (h.stage v i).trans (k.stage v i)
  stagger := by
    rcases k.stagger with hsame | hnow
    · rw [hsame]
      exact h.stagger
    · exact .inr hnow

theorem Plant.RunsOn.of_units {e : Env} {p q : Plant} (hunits : q.units = p.units := by rfl)
    (hstagger : q.staggerEnd = p.staggerEnd ∨ q.staggerEnd = some (e.now + e.tables.roof.staggerTime) := by
      exact .inl rfl) : p.RunsOn e q where
  stage v i := by
    rw [Plant.unit_congr hunits]
    exact .refl _
  stagger := hstagger

theorem Plant.RunsOn.refl {e : Env} (p : Plant) : p.RunsOn e p := .of_units

theorem Plant.runsOn_modUnit {e : Env} {p : Plant} {u : UnitIx} {f : UnitRec → UnitRec}
    (h : ∀ i : Slot, (p.unit u).stages[i].RunsOnTo (f (p.unit u)).stages[i]) : p.RunsOn e (p.modUnit u f) where
  stage v i := by
    rw [Plant.unit_modUnit]
    split
    · next hv =>
      subst hv
      exact h i
    · exact .refl _
  stagger := .inl rfl

/-! ### The sequencer -/

theorem Stage.Reselected.runsOn {a b : Stage} (h : a.Reselected b) : a.RunsOnTo b := by
  rcases h with rfl | ⟨hfree, -⟩
  · exact .refl _
  · exact .of_off (StageState.isFree_off hfree) b

theorem reselect_runsOn (e : Env) (u : UnitIx) (p : Plant) : p.RunsOn e (reselect u p) :=
  Plant.runsOn_modUnit fun i => (selectQueued_reselected _ _ _ i).runsOn

theorem writeTarget_runsOn (e : Env) (prot : Bool) (u : UnitIx) (m : StageMap) (p : Plant) :
    p.RunsOn e (writeTarget prot u m p) := by
  unfold writeTarget
  split
  · exact .refl p
  · have hwrite : p.RunsOn e (p.modUnit u fun r => { r with target := m, fresh := false }) :=
      Plant.runsOn_modUnit fun _ => .refl _
    dsimp only
    split
    · exact hwrite.trans .of_units
    · exact hwrite

theorem refreshTarget_runsOn (e : Env) (prot : Bool) (u : UnitIx) (p : Plant) :
    p.RunsOn e (refreshTarget prot u p) := by
  unfold refreshTarget
  split
  · exact writeTarget_runsOn ..
  · exact writeTarget_runsOn ..
  · exact writeTarget_runsOn ..
  · exact .refl p
  · exact .refl p

theorem moveUnit_runsOn (e : Env) (u : UnitIx) {f : Plant → Plant} {r : Roof} (h : r.plant.RunsOn e (f r.plant)) :
    r.plant.RunsOn e (moveUnit e u f r).plant := by
  rcases moveUnit_plant e u f r with hp | ⟨order, hp⟩
  · rwa [hp]
  · rw [hp]
    exact h.trans (Plant.runsOn_modUnit fun _ => .refl _)

theorem examine_staggerEnd (e : Env) (u : UnitIx) (k : Kind) (p : Plant) :
    (examine e u k p).staggerEnd = p.staggerEnd := by
  unfold examine
  dsimp only
  split
  · split <;> rfl
  · split <;> rfl

theorem examine_runsOn (e : Env) (u : UnitIx) (k : Kind) (p : Plant) : p.RunsOn e (examine e u k p) :=
  .of_units (examine_units ..) (.inl (examine_staggerEnd ..))

theorem examineUnit_runsOn (e : Env) (u : UnitIx) (r : Roof) : r.plant.RunsOn e (examineUnit e u r).plant :=
  moveUnit_runsOn e u (((examine_runsOn ..).trans (examine_runsOn ..)).trans (reselect_runsOn ..))

theorem settle_runsOn (e : Env) (u : UnitIx) (r : Roof) : r.plant.RunsOn e (settle e u r).plant := by
  unfold settle
  split
  · have hmarks : r.plant.RunsOn e (moveUnit e u (fun p => p.modUnit u (settleMarks e u)) r).plant := by
      refine moveUnit_runsOn e u (Plant.runsOn_modUnit fun i => ?_)
      rw [settleMarks, UnitRec.mapStages_stages]
      exact settleStage_runsOn ..
    refine hmarks.trans (Plant.RunsOn.trans ?_ (examineUnit_runsOn ..))
    exact refreshTarget_runsOn ..
  · exact .refl _

/-! ### Grants (R64, R92, R93) -/

/-- R64, R65: the stages of a unit whose slot starts. -/
theorem startRecord_stages (now : Nat) (pr : Profile) (i j : Slot) (r : UnitRec) : (startRecord now pr i r).stages[j] =
    if j = i then { r.stages[j] with
      state := if (windowAfterStart now pr r.window).isSome then .starting else .runMin
      stopPending := false, startTime := some now, minOnEnd := some (now + pr.minOn),
      startToStartEnd := some (now + pr.startToStart) }
    else r.stages[j] := by
  unfold startRecord
  dsimp only
  rw [modStage_stages]

/-- R92, R93: the plant with the stagger timer and G as a grant leaves them. -/
def countedGrant (e : Env) (u : UnitIx) (pr : Profile) (p : Plant) : Plant :=
  { p with
    staggerEnd := if pr.inrush then some (e.now + e.tables.roof.staggerTime) else p.staggerEnd
    grantSum := satAdd 65535 p.grantSum (candidateRating e u pr p) }

/-- R64: the plant with a slot granted, before its unit is settled. -/
def grantedPlant (e : Env) (u : UnitIx) (i : Slot) (pr : Profile) (p : Plant) : Plant :=
  refreshTarget false u ((countedGrant e u pr p).modUnit u (startRecord e.now pr i))

theorem grantSlot_eq (e : Env) (u : UnitIx) (i : Slot) (pr : Profile) (r : Roof) :
    grantSlot e u i pr r = settle e u (r.onPlant (grantedPlant e u i pr)) := rfl

theorem countedGrant_runsOn (e : Env) (u : UnitIx) (pr : Profile) (p : Plant) : p.RunsOn e (countedGrant e u pr p) := by
  refine .of_units rfl ?_
  unfold countedGrant
  dsimp only
  split
  · exact .inr rfl
  · exact .inl rfl

/-- R64: a grant starts a stage that is off. -/
theorem grantedPlant_runsOn (e : Env) {u : UnitIx} {i : Slot} (pr : Profile) {p : Plant}
    (h : (p.unit u).stages[i].state.isOn = false) : p.RunsOn e (grantedPlant e u i pr p) := by
  have hstart : (countedGrant e u pr p).RunsOn e ((countedGrant e u pr p).modUnit u (startRecord e.now pr i)) := by
    refine Plant.runsOn_modUnit fun j => ?_
    rw [startRecord_stages]
    split
    · next hj =>
      subst hj
      exact .of_off h _
    · exact .refl _
  exact (countedGrant_runsOn ..).trans (hstart.trans (refreshTarget_runsOn ..))

theorem grantSlot_runsOn (e : Env) {u : UnitIx} {i : Slot} (pr : Profile) {r : Roof}
    (h : (r.plant.unit u).stages[i].state.isOn = false) : r.plant.RunsOn e (grantSlot e u i pr r).plant :=
  (grantedPlant_runsOn e pr h).trans (settle_runsOn e u (r.onPlant (grantedPlant e u i pr)))

/-! ### The manual start (R96) -/

/-- R96: the conditions of a manual start. -/
theorem manualReady_eq_some_iff {e : Env} {p : Plant} {u : UnitIx} {i : Slot} {pr : Profile} :
    manualReady e p u i = some pr ↔
      ((p.unit u).stages[i].force = .forceOn ∧ (p.unit u).stages[i].state.isFree = true ∧ (p.unit u).state = .online ∧
        (p.unit u).isolated = false ∧ onForChangeover (p.unit u) (otherKind (slotKind i)) = false) ∧
      e.profile u i = some pr ∧ (pr.inrush && staggerRunning e p) = false := by
  unfold manualReady
  dsimp only
  split
  · next hconditions =>
    simp only [Bool.not_eq_true', Option.filter_eq_some_iff] at hconditions ⊢
    exact ⟨fun h => ⟨hconditions, h⟩, fun h => h.2⟩
  · next hconditions =>
    simp only [Bool.not_eq_true'] at hconditions
    exact ⟨nofun, fun h => absurd h.1 hconditions⟩

/-- R96: the manual start granted meets every condition. -/
theorem manualReady_of_firstManual {e : Env} {p : Plant} {u : UnitIx} {i : Slot} {pr : Profile}
    (h : firstManual e p = some (u, i, pr)) : manualReady e p u i = some pr := by
  obtain ⟨ui, -, hready⟩ := List.exists_of_findSome?_eq_some h
  obtain ⟨pr', hready, hsame⟩ := Option.map_eq_some_iff.1 hready
  obtain ⟨hu, hi, hpr⟩ : ui.1 = u ∧ ui.2 = i ∧ pr' = pr := by simpa using hsame
  rwa [hu, hi, hpr] at hready

/-! ### Passes (R89) -/

theorem requeue_runsOn (e : Env) (u : UnitIx) (k : Kind) (p : Plant) : p.RunsOn e (requeue e u k p) := by
  unfold requeue
  split
  · exact .refl p
  · exact Plant.RunsOn.trans .of_units (reselect_runsOn e u _)

theorem grantEntry_runsOn (e : Env) (n : Entry) (r : Roof) : r.plant.RunsOn e (grantEntry e n r).plant := by
  unfold grantEntry
  split
  · exact .refl _
  · next i hqueued =>
    split
    · exact .refl _
    · refine (grantSlot_runsOn e _ ?_).trans (requeue_runsOn ..)
      rw [queuedSlot_state hqueued]
      rfl

theorem admissionPass_runsOn (e : Env) (r : Roof) : r.plant.RunsOn e (admissionPass e r).plant := by
  unfold admissionPass
  split
  · next hmanual =>
    obtain ⟨⟨-, hfree, -⟩, -⟩ := manualReady_eq_some_iff.1 (manualReady_of_firstManual hmanual)
    exact grantSlot_runsOn e _ (StageState.isFree_off hfree)
  · dsimp only
    split
    · exact .of_units
    · exact Plant.RunsOn.trans .of_units (grantEntry_runsOn ..)

theorem runPasses_runsOn (e : Env) (n : Nat) (r : Roof) : r.plant.RunsOn e (runPasses e n r).plant := by
  induction n generalizing r with
  | zero => exact .of_units
  | succ n ih =>
    unfold runPasses
    split
    · exact (Plant.RunsOn.trans .of_units (admissionPass_runsOn ..)).trans (ih _)
    · exact .refl _

theorem conclude_runsOn (s : State) : s.plant.RunsOn s.env (conclude s).plant := by
  unfold conclude passAfterJoin
  split
  · exact runPasses_runsOn s.env 64 s.roof
  · exact .of_units

/-! ### What a grant leaves of its slot -/

/-- R64, R92: the slot has been started at this moment with the profile. -/
structure Plant.Started (e : Env) (u : UnitIx) (i : Slot) (pr : Profile) (p : Plant) : Prop where
  runs : (p.unit u).stages[i].RunsIn
  start : (p.unit u).stages[i].startTime = some e.now
  minOn : (p.unit u).stages[i].minOnEnd = some (e.now + pr.minOn)
  startToStart : (p.unit u).stages[i].startToStartEnd = some (e.now + pr.startToStart)
  stagger : pr.inrush = true → p.staggerEnd = some (e.now + e.tables.roof.staggerTime)

theorem Plant.Started.runsOn {e : Env} {u : UnitIx} {i : Slot} {pr : Profile} {p q : Plant} (h : p.Started e u i pr)
    (k : p.RunsOn e q) : q.Started e u i pr := by
  have hstage := (k.stage u i).kept h.runs
  refine ⟨?_, ?_, ?_, ?_, fun hinrush => ?_⟩
  · rw [hstage]
    exact h.runs
  · rw [hstage]
    exact h.start
  · rw [hstage]
    exact h.minOn
  · rw [hstage]
    exact h.startToStart
  · exact k.stagger.elim (fun hsame => hsame.trans (h.stagger hinrush)) id

theorem grantedPlant_started (e : Env) (u : UnitIx) (i : Slot) (pr : Profile) (p : Plant) :
    (grantedPlant e u i pr p).Started e u i pr := by
  refine Plant.Started.runsOn ?_ (refreshTarget_runsOn ..)
  have hstage := startRecord_stages e.now pr i i (p.unit u)
  rw [if_pos rfl] at hstage
  refine ⟨?_, ?_, ?_, ?_, fun hinrush => ?_⟩
  · rw [Plant.unit_modUnit_self]
    change (startRecord e.now pr i (p.unit u)).stages[i].RunsIn
    rw [hstage]
    dsimp only [Stage.RunsIn]
    split
    · exact .inl rfl
    · exact .inr rfl
  · rw [Plant.unit_modUnit_self]
    exact congrArg Stage.startTime hstage
  · rw [Plant.unit_modUnit_self]
    exact congrArg Stage.minOnEnd hstage
  · rw [Plant.unit_modUnit_self]
    exact congrArg Stage.startToStartEnd hstage
  · exact if_pos hinrush

theorem grantSlot_started (e : Env) (u : UnitIx) (i : Slot) (pr : Profile) (r : Roof) :
    (grantSlot e u i pr r).plant.Started e u i pr :=
  (grantedPlant_started e u i pr r.plant).runsOn (settle_runsOn e u (r.onPlant (grantedPlant e u i pr)))

theorem startedNow_of_started {s t : State} {u : UnitIx} {i : Slot} {pr : Profile} (h : t.plant.Started s.env u i pr) :
    StartedNow s t u i pr := ⟨h.runs, h.start, h.minOn, h.startToStart, h.stagger⟩

end Sys2Proof.Machine

namespace Sys2Proof.Machine

/-! ## What a settlement leaves of the queue and of G (R83, R84, R93) -/

/-- R81, R93: the sequence counter and G, which no move of a stage or map touches. -/
def Plant.counters (p : Plant) : Nat × Nat := (p.sequence, p.grantSum)

@[simp] theorem Plant.modUnit_counters (p : Plant) (u : UnitIx) (f : UnitRec → UnitRec) :
    (p.modUnit u f).counters = p.counters := rfl

@[simp] theorem refreshTarget_counters (prot : Bool) (u : UnitIx) (p : Plant) :
    (refreshTarget prot u p).counters = p.counters := by
  have hwrite : (writeTarget prot u (scheduledMap (p.unit u)) p).counters = p.counters := by
    unfold writeTarget
    split
    · rfl
    · dsimp only
      split <;> rfl
  unfold refreshTarget
  split
  · exact hwrite
  · exact hwrite
  · exact hwrite
  · rfl
  · rfl

@[simp] theorem moveUnit_counters (e : Env) (u : UnitIx) (f : Plant → Plant) (r : Roof) :
    (moveUnit e u f r).plant.counters = (f r.plant).counters := by
  rcases moveUnit_plant e u f r with hp | ⟨order, hp⟩ <;> rw [hp]
  rfl

/-- R69: the plant with a unit's marks set and its target map written, before its entries are re-examined. -/
def markedPlant (e : Env) (u : UnitIx) (r : Roof) : Plant :=
  refreshTarget false u (moveUnit e u (fun p => p.modUnit u (settleMarks e u)) r).plant

theorem markedPlant_queue (e : Env) (u : UnitIx) (r : Roof) :
    (markedPlant e u r).queue = r.plant.queue ∧ (markedPlant e u r).passDue = r.plant.passDue ∧
      (markedPlant e u r).counters = r.plant.counters := by
  unfold markedPlant
  simp

theorem markedPlant_moves (e : Env) (u : UnitIx) (r : Roof) : r.plant.Moves (markedPlant e u r) :=
  (moveUnit_moves e u _ r (Plant.moves_modUnit (settleMarks_moves ..))).trans (refreshTarget_moves ..)

/-- R69, R83, R84: a settlement leaves the queue and the counters as the re-examination of the marked unit does, and
the stages of the marked unit up to the choice of the queued slots. -/
theorem settle_examined (e : Env) {u : UnitIx} {r : Roof} (hs : (r.plant.unit u).state.isSettled = true) :
    let q := (settle e u r).plant
    let x := examine e u .heat (examine e u .cool (markedPlant e u r))
    q.queue = x.queue ∧ q.passDue = x.passDue ∧ q.counters = x.counters ∧
      ∀ i : Slot, ((markedPlant e u r).unit u).stages[i].Reselected (q.unit u).stages[i] := by
  let m := (moveUnit e u (fun p => p.modUnit u (settleMarks e u)) r).onPlant (refreshTarget false u)
  have hsettle : settle e u r = examineUnit e u m := if_pos hs
  rw [hsettle]
  refine ⟨?_, ?_, ?_, (examineUnit_unit e u m).2⟩
  · rw [examineUnit, moveUnit_queue]
    rfl
  · rw [examineUnit, moveUnit_passDue]
    rfl
  · rw [examineUnit, moveUnit_counters]
    rfl

/-! ### The re-examination of one kind -/

/-- R84: of a kind of which none is wanted the entry leaves, and none joins. -/
theorem examine_unwanted (e : Env) {u : UnitIx} {k : Kind} {p : Plant} (h : wanted (p.unit u) k = 0) :
    examine e u k p = p.dropEntry u k := by
  unfold examine
  dsimp only
  rw [h]
  split
  · rw [if_pos (.inl (Nat.zero_le _))]
  · next hnone =>
    have hkept : p.queue.filter (fun n => !n.isOf u k) = p.queue := List.filter_eq_self.2 fun n hn => by
      have hn' := List.any_eq_false.1 (Bool.eq_false_iff.2 hnone) n hn
      rw [Bool.eq_false_iff.2 hn']
      rfl
    rw [if_neg (fun hjoins => absurd hjoins.2.2.2 (Nat.not_lt_zero _)), Plant.dropEntry, hkept]

/-- R84: the entry of a kind leaves where enough stages are on or none can start. -/
theorem examine_waiting (e : Env) {u : UnitIx} {k : Kind} {p : Plant} (h : p.hasEntry u k = true) :
    examine e u k p = if wanted (p.unit u) k ≤ joiningCount (p.unit u) k ∨ (!someUsable (p.unit u) k) = true
      then p.dropEntry u k else p := by
  unfold examine
  dsimp only
  rw [if_pos h]

/-- R83, R84: the re-examination of a unit leaves G and the entries of other units, and a pass falls due only where an
entry joins an empty queue. -/
theorem examine_others (e : Env) (u : UnitIx) (k : Kind) (p : Plant) :
    (examine e u k p).grantSum = p.grantSum ∧
    (∀ m : Entry, m.unit ≠ u → (m ∈ (examine e u k p).queue ↔ m ∈ p.queue)) ∧
    ((∃ m ∈ p.queue, m.unit ≠ u) ∨ wanted (p.unit u) k = 0 → (examine e u k p).passDue = p.passDue) := by
  have hdrop (m : Entry) (hm : m.unit ≠ u) : m ∈ (p.dropEntry u k).queue ↔ m ∈ p.queue := by
    simp [Plant.dropEntry, Entry.isOf, hm]
  unfold examine
  dsimp only
  split
  · split
    · exact ⟨rfl, hdrop, fun _ => rfl⟩
    · exact ⟨rfl, fun _ _ => Iff.rfl, fun _ => rfl⟩
  · split
    · next hjoins =>
      refine ⟨rfl, fun m hm => ?_, fun h => ?_⟩
      · refine (insertEntry_perm _ p.queue).mem_iff.trans (List.mem_cons.trans (or_iff_right ?_))
        rintro rfl
        exact hm rfl
      · rcases h with ⟨m, hm, -⟩ | hnone
        · have hfull : p.queue.isEmpty = false := by
            rw [List.isEmpty_eq_false_iff]
            exact List.ne_nil_of_mem hm
          rw [Plant.join, hfull, Bool.or_false]
        · exact absurd hjoins.2.2.2 (by rw [hnone]; exact Nat.not_lt_zero _)
    · exact ⟨rfl, fun _ _ => Iff.rfl, fun _ => rfl⟩

theorem hasEntry_dropEntry_other {p : Plant} {u : UnitIx} {j k : Kind} (h : k ≠ j) :
    (p.dropEntry u j).hasEntry u k = p.hasEntry u k := by
  rw [Bool.eq_iff_iff]
  simp only [Plant.hasEntry, Plant.dropEntry, List.any_eq_true, List.mem_filter, Bool.not_eq_true', Entry.isOf_iff]
  refine exists_congr fun n => ⟨fun hn => ⟨hn.1.1, hn.2⟩, fun hn => ⟨⟨hn.1, ?_⟩, hn.2⟩⟩
  rw [Bool.eq_false_iff, Ne, Entry.isOf_iff]
  exact fun hj => h (hn.2.2.symm.trans hj.2)

theorem dropEntry_comm (p : Plant) (u : UnitIx) (j k : Kind) :
    (p.dropEntry u j).dropEntry u k = (p.dropEntry u k).dropEntry u j := by
  simp only [Plant.dropEntry, List.filter_filter, Bool.and_comm]

/-- R83, R84: the re-examination of a unit that waits for one kind and wants none of the other. -/
theorem examine_one_kind (e : Env) {u : UnitIx} {k : Kind} {p : Plant} (h : p.hasEntry u k = true)
    (hother : wanted (p.unit u) (otherKind k) = 0) :
    examine e u .heat (examine e u .cool p) =
      if wanted (p.unit u) k ≤ joiningCount (p.unit u) k ∨ (!someUsable (p.unit u) k) = true
        then (p.dropEntry u (otherKind k)).dropEntry u k else p.dropEntry u (otherKind k) := by
  cases k with
  | cool =>
    have hheat : examine e u .heat (examine e u .cool p) = (examine e u .cool p).dropEntry u .heat :=
      examine_unwanted e (by rw [Plant.unit_congr (examine_units ..)]; exact hother)
    rw [hheat, examine_waiting e h]
    split
    · exact dropEntry_comm ..
    · rfl
  | heat =>
    have hcool : examine e u .cool p = p.dropEntry u .cool := examine_unwanted e hother
    rw [hcool, examine_waiting e ((hasEntry_dropEntry_other (by decide)).trans h)]
    rfl

/-! ### A settlement -/

theorem wanted_congr {a b : UnitRec} (h : b.call = a.call) (k : Kind) : wanted b k = wanted a k := by
  unfold wanted
  rw [h]

theorem joiningCount_reselected {a b : UnitRec} (h : ∀ i : Slot, a.stages[i].Reselected b.stages[i]) (k : Kind) :
    joiningCount b k = joiningCount a k := by
  refine congrArg List.length (List.filter_congr fun i _ => ?_)
  rcases h i with hsame | ⟨hfree, hfree'⟩
  · rw [hsame]
  · rw [StageState.isFree_off hfree, StageState.isFree_off hfree', Bool.false_and, Bool.false_and, Bool.false_and,
      Bool.false_and]

/-- A slot that is free or on can be started. -/
theorem StageState.isUsable {st : StageState} (h : st.isFree = true ∨ st.isOn = true) :
    (decide (st ≠ .notFitted) && decide (st ≠ .trippedLatched)) = true := by
  rw [Bool.and_eq_true, decide_eq_true_eq, decide_eq_true_eq]
  constructor <;> rintro rfl <;> rcases h with h | h <;> cases h

theorem someUsable_reselected {a b : UnitRec} (h : ∀ i : Slot, a.stages[i].Reselected b.stages[i]) (k : Kind) :
    someUsable b k = someUsable a k := by
  refine congrArg (slotsOf k).any (funext fun i => ?_)
  rcases h i with hsame | ⟨hfree, hfree'⟩
  · rw [hsame]
  · rw [StageState.isUsable (.inl hfree), StageState.isUsable (.inl hfree')]

/-- R84: the queue of a plant without a unit's entry of a kind. -/
def withoutEntry (u : UnitIx) (k : Kind) (q : List Entry) : List Entry := q.filter fun n => !n.isOf u k

/-- R83, R84: the settlement of a unit that waits for one kind and wants none of the other. -/
theorem settle_one_kind (e : Env) {u : UnitIx} {k : Kind} {r : Roof} (hs : (r.plant.unit u).state.isSettled = true)
    (h : r.plant.hasEntry u k = true) (hother : wanted (r.plant.unit u) (otherKind k) = 0) :
    let q := (settle e u r).plant
    let kept := withoutEntry u (otherKind k) r.plant.queue
    q.passDue = r.plant.passDue ∧ q.counters = r.plant.counters ∧
      q.queue = if wanted (q.unit u) k ≤ joiningCount (q.unit u) k ∨ (!someUsable (q.unit u) k) = true
        then withoutEntry u k kept else kept := by
  intro q kept
  obtain ⟨hqueue, hpass, hcounters, hstages⟩ := settle_examined e hs
  obtain ⟨hmqueue, hmpass, hmcounters⟩ := markedPlant_queue e u r
  have hcall (j : Kind) : wanted ((markedPlant e u r).unit u) j = wanted (r.plant.unit u) j :=
    wanted_congr ((markedPlant_moves e u r).unit u).call j
  have hcall' (j : Kind) : wanted (q.unit u) j = wanted (r.plant.unit u) j :=
    wanted_congr ((settle_moves e u r).unit u).call j
  have hentry : (markedPlant e u r).hasEntry u k = true := by
    rw [Plant.hasEntry, hmqueue]
    exact h
  rw [examine_one_kind e hentry (by rw [hcall]; exact hother), hcall] at hqueue hpass hcounters
  rw [hcall', joiningCount_reselected hstages, someUsable_reselected hstages]
  refine ⟨hpass.trans ?_, hcounters.trans ?_, hqueue.trans ?_⟩
  · rw [← hmpass]
    split <;> rfl
  · rw [← hmcounters]
    split <;> rfl
  · rw [show kept = withoutEntry u (otherKind k) (markedPlant e u r).queue by rw [hmqueue]]
    split <;> rfl

/-- R83, R84: what a settlement of a unit leaves of G and of the other units' entries, and when no pass falls due. -/
theorem settle_others (e : Env) (u : UnitIx) (r : Roof) :
    let q := (settle e u r).plant
    q.grantSum = r.plant.grantSum ∧ (∀ m : Entry, m.unit ≠ u → (m ∈ q.queue ↔ m ∈ r.plant.queue)) ∧
      ((∃ m ∈ r.plant.queue, m.unit ≠ u) ∨ (∀ k, wanted (r.plant.unit u) k = 0) → q.passDue = r.plant.passDue) := by
  intro q
  by_cases hs : (r.plant.unit u).state.isSettled = true
  · obtain ⟨hqueue, hpass, hcounters, -⟩ := settle_examined e hs
    obtain ⟨hmqueue, hmpass, hmcounters⟩ := markedPlant_queue e u r
    have hcall (j : Kind) : wanted ((markedPlant e u r).unit u) j = wanted (r.plant.unit u) j :=
      wanted_congr ((markedPlant_moves e u r).unit u).call j
    obtain ⟨hcoolSum, hcoolQueue, hcoolPass⟩ := examine_others e u .cool (markedPlant e u r)
    obtain ⟨hheatSum, hheatQueue, hheatPass⟩ := examine_others e u .heat (examine e u .cool (markedPlant e u r))
    refine ⟨?_, fun m hm => ?_, fun h => ?_⟩
    · exact (congrArg Prod.snd hcounters).trans (hheatSum.trans (hcoolSum.trans (congrArg Prod.snd hmcounters)))
    · rw [hqueue, hheatQueue m hm, hcoolQueue m hm, hmqueue]
    · rw [hpass, hheatPass, hcoolPass, hmpass]
      · rw [hmqueue, hcall]
        exact h.imp_right fun hnone => hnone .cool
      · rw [Plant.unit_congr (examine_units ..), hcall]
        refine h.imp (fun ⟨m, hm, hne⟩ => ⟨m, ?_, hne⟩) fun hnone => hnone .heat
        rw [hcoolQueue m hne, hmqueue]
        exact hm
  · have hsame : q = r.plant := by
      rw [show q = (settle e u r).plant from rfl, settle, if_neg hs]
    rw [hsame]
    exact ⟨rfl, fun _ _ => Iff.rfl, fun _ => rfl⟩

/-! ### A grant and a re-queue -/

theorem grantedPlant_queue (e : Env) (u : UnitIx) (i : Slot) (pr : Profile) (p : Plant) :
    (grantedPlant e u i pr p).queue = p.queue ∧ (grantedPlant e u i pr p).passDue = p.passDue ∧
      (grantedPlant e u i pr p).counters = (p.sequence, satAdd 65535 p.grantSum (candidateRating e u pr p)) :=
  ⟨refreshTarget_queue .., refreshTarget_passDue .., refreshTarget_counters ..⟩

theorem grantedPlant_moves (e : Env) (u : UnitIx) (i : Slot) (pr : Profile) (p : Plant) :
    p.Moves (grantedPlant e u i pr p) := by
  refine Plant.Moves.trans (q := countedGrant e u pr p) (.of_units rfl) ?_
  exact (Plant.moves_modUnit (startRecord_movesTo ..)).trans (refreshTarget_moves ..)

/-- R93: G with the candidate rating of the granted slot. -/
theorem satAdd_candidateRating {s : State} (u : UnitIx) (pr : Profile) {p : Plant} (hsum : p.grantSum = s.plant.grantSum)
    (hunits : p.units = s.plant.units) :
    satAdd 65535 p.grantSum (candidateRating s.env u pr p) = GrantedSum s u pr := by
  have hbase : baseIncluded (s.plant.unit u) =
      (allSlots.any (fun i => (s.plant.unit u).target.has i || (s.plant.unit u).ack.has i) ||
        (s.plant.unit u).status.any (·.run.fan)) := by
    unfold baseIncluded
    cases (s.plant.unit u).status <;> rfl
  rw [satAdd, candidateRating, Plant.unit_congr hunits, hsum, hbase]
  rfl

/-- R85: with no entry left, none is re-queued. -/
theorem requeue_none (e : Env) {u : UnitIx} {k : Kind} {p : Plant} (h : ∀ m ∈ p.queue, m.isOf u k = false) :
    requeue e u k p = p := by
  have hnone : p.queue.find? (fun n => n.isOf u k) = none := List.find?_eq_none.2 fun m hm => by
    rw [h m hm]
    nofun
  unfold requeue
  rw [hnone]

/-- R85: the first entry of the unit and kind is re-queued at the back of its current class. -/
theorem requeue_some (e : Env) {u : UnitIx} {k : Kind} {p : Plant} {n : Entry}
    (h : p.queue.find? (fun n => n.isOf u k) = some n) :
    requeue e u k p = reselect u { p with
      queue := insertEntry { n with sequence := p.sequence, joinTime := e.now, skip := .none } (withoutEntry u k p.queue)
      sequence := nextSequence p.sequence } := by
  unfold requeue
  rw [h]
  rfl

/-- R85: a re-queue leaves G, the entries of other units and the pass due, and of the unit's stages all but the choice
of the queued slots. -/
theorem requeue_others (e : Env) (u : UnitIx) (k : Kind) (p : Plant) :
    (requeue e u k p).grantSum = p.grantSum ∧ (requeue e u k p).passDue = p.passDue ∧
    (∀ m : Entry, m.unit ≠ u → (m ∈ (requeue e u k p).queue ↔ m ∈ p.queue)) ∧
    ∀ i : Slot, (p.unit u).stages[i].Reselected ((requeue e u k p).unit u).stages[i] := by
  cases hfind : p.queue.find? (fun n => n.isOf u k) with
  | none =>
    have hsame : requeue e u k p = p := requeue_none e fun m hm =>
      Bool.eq_false_iff.2 (List.find?_eq_none.1 hfind m hm)
    rw [hsame]
    exact ⟨rfl, rfl, fun _ _ => Iff.rfl, fun _ => .inl rfl⟩
  | some n =>
    have hn : n.unit = u := ((Entry.isOf_iff ..).1 (List.find?_some (p := fun n : Entry => n.isOf u k) hfind)).1
    rw [requeue_some e hfind]
    refine ⟨rfl, rfl, fun m hm => ?_, fun i => ?_⟩
    · refine (insertEntry_perm _ _).mem_iff.trans (List.mem_cons.trans ((or_iff_right ?_).trans ?_))
      · rintro rfl
        exact hm hn
      · simp [withoutEntry, Entry.isOf, hm]
    · rw [reselect, Plant.unit_modUnit_self]
      exact selectQueued_reselected ..

end Sys2Proof.Machine

namespace Sys2Proof.Machine

/-! ## One admission pass (R89 to R96) -/

theorem exec_admissionPass {s : State} (h : s.powered = true) :
    exec .admissionPass s = .next (conclude (s.onRoof admissionPass)) :=
  roofCommand_on (fun s => s.onRoof admissionPass) h

/-! ### The walk of the queue (R89) -/

/-- R89, R90: the entry with the first test it fails as its last skip reason. -/
def Entry.tested (e : Env) (p : Plant) (n : Entry) : Entry := { n with skip := testEntry e p n }

theorem walkQueue_cons_failing (e : Env) (p : Plant) {n : Entry} (rest : List Entry) (h : testEntry e p n ≠ .none) :
    walkQueue e p (n :: rest) = (n.tested e p :: (walkQueue e p rest).1, (walkQueue e p rest).2) := by
  rw [walkQueue]
  split
  · next hpasses => exact absurd hpasses h
  · rfl

theorem walkQueue_cons_passing (e : Env) (p : Plant) {n : Entry} (rest : List Entry) (h : testEntry e p n = .none) :
    walkQueue e p (n :: rest) = ({ n with skip := .none } :: rest, some n) := by
  rw [walkQueue, h]

/-- R89: a walk in which no entry passes. -/
theorem walkQueue_failing (e : Env) (p : Plant) {q : List Entry} (h : ∀ n ∈ q, testEntry e p n ≠ .none) :
    walkQueue e p q = (q.map (Entry.tested e p), none) := by
  induction q with
  | nil => rfl
  | cons n rest ih =>
    obtain ⟨hn, hrest⟩ := List.forall_mem_cons.1 h
    rw [walkQueue_cons_failing e p rest hn, ih hrest]
    rfl

/-- R89: the walk ends at the first entry that passes. -/
theorem walkQueue_passing (e : Env) (p : Plant) {front : List Entry} {n : Entry} (rest : List Entry)
    (hfront : ∀ m ∈ front, testEntry e p m ≠ .none) (hn : testEntry e p n = .none) :
    walkQueue e p (front ++ n :: rest) = (front.map (Entry.tested e p) ++ { n with skip := .none } :: rest, some n) := by
  induction front with
  | nil => exact walkQueue_cons_passing e p rest hn
  | cons m front ih =>
    obtain ⟨hm, hfront⟩ := List.forall_mem_cons.1 hfront
    rw [List.cons_append, walkQueue_cons_failing e p _ hm, ih hfront]
    rfl

/-! ### The first manual start (R96) -/

theorem slotKind_eq_otherKind_iff (i j : Slot) : slotKind j = otherKind (slotKind i) ↔ slotKind j ≠ slotKind i := by
  cases slotKind i <;> cases slotKind j <;> decide

theorem onForChangeover_eq_false_iff (r : UnitRec) (i : Slot) :
    onForChangeover r (otherKind (slotKind i)) = false ↔
      ∀ j : Slot, slotKind j ≠ slotKind i → r.target.has j = false ∧ r.ack.has j = false := by
  simp [onForChangeover, slotsOf, mem_allSlots, onInEither, slotKind_eq_otherKind_iff]

theorem staggerRunning_iff (e : Env) (p : Plant) : staggerRunning e p = true ↔ ∃ x ∈ p.staggerEnd, e.now < x := by
  unfold staggerRunning
  cases p.staggerEnd <;> simp

/-- R92, R96: the stagger timer does not hold back a start with the profile. -/
theorem stagger_allows_iff (e : Env) (p : Plant) (pr : Profile) : (pr.inrush && staggerRunning e p) = false ↔
    ¬(pr.inrush = true ∧ ∃ x ∈ p.staggerEnd, e.now < x) := by
  rw [← staggerRunning_iff, ← Bool.and_eq_true, Bool.not_eq_true]

theorem StageState.isFree_iff (st : StageState) : st.isFree = true ↔ st = .offReady ∨ st = .queued := by
  cases st <;> decide

/-- R96: the conditions of a manual start, as the statements say them. -/
theorem manualReady_isSome_iff (e : Env) (p : Plant) (u : UnitIx) (i : Slot) :
    (∃ pr, manualReady e p u i = some pr) ↔ ManualReady e p u i := by
  simp only [manualReady_eq_some_iff, exists_and_left, ManualReady, StageState.isFree_iff,
    onForChangeover_eq_false_iff, stagger_allows_iff, Option.mem_def, and_assoc]

theorem manualReady_eq_none {e : Env} {p : Plant} {u : UnitIx} {i : Slot} (h : ¬ManualReady e p u i) :
    manualReady e p u i = none :=
  Option.eq_none_iff_forall_ne_some.2 fun pr hpr => h ((manualReady_isSome_iff e p u i).1 ⟨pr, hpr⟩)

theorem firstManual_none {e : Env} {p : Plant} (h : ∀ u i, ¬ManualReady e p u i) : firstManual e p = none :=
  List.findSome?_eq_none_iff.2 fun ui _ => by rw [manualReady_eq_none (h ui.1 ui.2), Option.map_none]

/-- R96: by unit address, within a unit by slot. -/
def slotBefore (a b : UnitIx × Slot) : Prop := a.1 < b.1 ∨ (a.1 = b.1 ∧ a.2 < b.2)

theorem unitSlots_ordered : unitSlots.Pairwise slotBefore := by
  refine List.pairwise_flatMap.2 ⟨fun u _ => List.pairwise_map.2 ?_, ?_⟩
  · exact (List.pairwise_lt_finRange 7).imp fun hij => .inr ⟨rfl, hij⟩
  · refine (List.pairwise_lt_finRange 32).imp fun huv a ha b hb => ?_
    obtain ⟨i, -, rfl⟩ := List.mem_map.1 ha
    obtain ⟨j, -, rfl⟩ := List.mem_map.1 hb
    exact .inl huv

theorem mem_unitSlots (u : UnitIx) (i : Slot) : (u, i) ∈ unitSlots :=
  List.mem_flatMap.2 ⟨u, mem_allUnits u, List.mem_map.2 ⟨i, mem_allSlots i, rfl⟩⟩

/-- R96: the first manual start that is ready is the one granted. -/
theorem firstManual_some {e : Env} {p : Plant} {u : UnitIx} {i : Slot} {pr : Profile}
    (h : manualReady e p u i = some pr)
    (hfirst : ∀ (v : UnitIx) (j : Slot), (v < u ∨ (v = u ∧ j < i)) → ¬ManualReady e p v j) :
    firstManual e p = some (u, i, pr) := by
  obtain ⟨before, behind, hsplit⟩ := List.append_of_mem (mem_unitSlots u i)
  have hordered := unitSlots_ordered
  rw [hsplit] at hordered
  refine List.findSome?_eq_some_iff.2 ⟨before, (u, i), behind, hsplit, by rw [h]; rfl, fun vj hvj => ?_⟩
  have hbefore := (List.pairwise_append.1 hordered).2.2 vj hvj (u, i) (List.mem_cons_self ..)
  rw [manualReady_eq_none (hfirst vj.1 vj.2 hbefore), Option.map_none]

/-! ### The outcome of a pass -/

/-- The roof with the queue as a walk leaves it. -/
def Roof.withQueue (r : Roof) (q : List Entry) : Roof := r.onPlant fun p => { p with queue := q }

theorem admissionPass_failing {e : Env} {r : Roof} (hmanual : ∀ u i, ¬ManualReady e r.plant u i)
    (h : ∀ n ∈ r.plant.queue, testEntry e r.plant n ≠ .none) :
    admissionPass e r = r.withQueue (r.plant.queue.map (Entry.tested e r.plant)) := by
  rw [admissionPass, firstManual_none hmanual, walkQueue_failing e r.plant h]
  rfl

theorem admissionPass_passing {e : Env} {r : Roof} {front rest : List Entry} {n : Entry} {i : Slot} {pr : Profile}
    (hmanual : ∀ u i, ¬ManualReady e r.plant u i) (hqueue : r.plant.queue = front ++ n :: rest)
    (hfront : ∀ m ∈ front, testEntry e r.plant m ≠ .none) (hn : testEntry e r.plant n = .none)
    (hslot : queuedSlot (r.plant.unit n.unit) n.kind = some i) (hprofile : e.profile n.unit i = some pr) :
    admissionPass e r =
      (grantSlot e n.unit i pr (r.withQueue (front.map (Entry.tested e r.plant) ++ { n with skip := .none } :: rest))).onPlant
        (requeue e n.unit n.kind) := by
  have hslot' (q : List Entry) : queuedSlot ((r.withQueue q).plant.unit n.unit) n.kind = some i := hslot
  rw [admissionPass, firstManual_none hmanual]
  dsimp only
  rw [hqueue, walkQueue_passing e r.plant rest hfront hn]
  dsimp only
  rw [grantEntry, ← Roof.withQueue, hslot']
  dsimp only
  rw [hprofile]

theorem admissionPass_manual {e : Env} {r : Roof} {u : UnitIx} {i : Slot} {pr : Profile}
    (h : manualReady e r.plant u i = some pr)
    (hfirst : ∀ (v : UnitIx) (j : Slot), (v < u ∨ (v = u ∧ j < i)) → ¬ManualReady e r.plant v j) :
    admissionPass e r = grantSlot e u i pr r := by
  rw [admissionPass, firstManual_some h hfirst]

/-- R89 to R94: a pass that grants nothing records the skip reasons and changes nothing else. -/
theorem admissionPass_records {s : State} (hcalm : Calm s) (hmanual : ∀ u i, ¬ManualReady s.env s.plant u i)
    (h : ∀ n ∈ s.plant.queue, testEntry s.env s.plant n ≠ .none) :
    exec .admissionPass s = .next { s with plant := { s.plant with
      queue := s.plant.queue.map fun n => { n with skip := testEntry s.env s.plant n } } } := by
  have hpass : s.onRoof admissionPass = { s with plant := { s.plant with
      queue := s.plant.queue.map (Entry.tested s.env s.plant) } } := by
    rw [State.onRoof, admissionPass_failing (r := s.roof) hmanual h]
    rfl
  have hcalm' : Calm (s.onRoof admissionPass) := by
    rw [hpass]
    exact hcalm
  rw [exec_admissionPass hcalm.1, hcalm'.conclude_eq, hpass]
  rfl

/-- R64, R92: an admission pass that grants the slot has started it when the command is concluded. -/
theorem conclude_started {s : State} {u : UnitIx} {i : Slot} {pr : Profile}
    (h : (admissionPass s.env s.roof).plant.Started s.env u i pr) :
    StartedNow s (conclude (s.onRoof admissionPass)) u i pr :=
  startedNow_of_started (Plant.Started.runsOn (e := s.env) h (conclude_runsOn (s.onRoof admissionPass)))

/-! ### The queued grant (R85, R93, R95) -/

theorem joiningCount_eq (r : UnitRec) (k : Kind) : joiningCount r k =
    (allSlots.filter fun j => decide (slotKind j = k) && r.stages[j].state.isOn && !r.stages[j].stopPending &&
      decide (r.stages[j].force ≠ .forceOn)).length := by
  rw [joiningCount, slotsOf, List.filter_filter]
  exact congrArg List.length (List.filter_congr fun j _ => by
    rw [Bool.and_comm, ← Bool.and_assoc, ← Bool.and_assoc])

theorem wanted_eq (r : UnitRec) (k : Kind) : wanted r k = if k = .cool then r.call.cool else r.call.heat := by
  cases k <;> rfl

theorem wanted_otherKind (r : UnitRec) (k : Kind) :
    wanted r (otherKind k) = if k = .cool then r.call.heat else r.call.cool := by
  cases k <;> rfl

theorem queuedSlot_kind {r : UnitRec} {k : Kind} {i : Slot} (h : queuedSlot r k = some i) : i ∈ slotsOf k :=
  List.mem_of_find?_eq_some h

/-- R84: a unit with a slot of the kind on can start slots of it. -/
theorem someUsable_of_on {r : UnitRec} {k : Kind} {i : Slot} (hi : i ∈ slotsOf k) (h : r.stages[i].state.isOn = true) :
    someUsable r k = true :=
  List.any_eq_true.2 ⟨i, hi, StageState.isUsable (.inr h)⟩

theorem mem_withoutEntry {u : UnitIx} {k : Kind} {q : List Entry} {m : Entry} :
    m ∈ withoutEntry u k q ↔ m ∈ q ∧ ¬(m.unit = u ∧ m.kind = k) := by
  rw [withoutEntry, List.mem_filter, Bool.not_eq_true', ← Entry.isOf_iff, Bool.not_eq_true]

theorem ne_otherKind (k : Kind) : k ≠ otherKind k := by cases k <;> decide

/-- R85: the unit's entry of the kind is still the first of its kind when the other kind's entries have left. -/
theorem find_granted {e : Env} {p : Plant} {front rest : List Entry} {n : Entry}
    (hfront : ∀ m ∈ front, ¬(m.unit = n.unit ∧ m.kind = n.kind)) :
    (withoutEntry n.unit (otherKind n.kind) (front.map (Entry.tested e p) ++ { n with skip := .none } :: rest)).find?
      (fun m => m.isOf n.unit n.kind) = some { n with skip := .none } := by
  have hnone : (withoutEntry n.unit (otherKind n.kind) (front.map (Entry.tested e p))).find?
      (fun m => m.isOf n.unit n.kind) = none := by
    refine List.find?_eq_none.2 fun m hm hof => ?_
    obtain ⟨k, hk, rfl⟩ := List.mem_map.1 (mem_withoutEntry.1 hm).1
    exact hfront k hk ((Entry.isOf_iff ..).1 hof)
  have hself : ({ n with skip := .none } : Entry).isOf n.unit n.kind = true := (Entry.isOf_iff ..).2 ⟨rfl, rfl⟩
  have hother : ({ n with skip := .none } : Entry).isOf n.unit (otherKind n.kind) = false := by
    rw [← Bool.not_eq_true, Entry.isOf_iff]
    exact fun h => ne_otherKind _ h.2
  rw [withoutEntry] at hnone ⊢
  rw [List.filter_append, List.find?_append, hnone, Option.none_or, List.filter_cons_of_pos (by rw [hother]; rfl)]
  exact List.find?_cons_of_pos (p := fun m : Entry => m.isOf n.unit n.kind) hself

end Sys2Proof.Machine

namespace Sys2Proof.Machine

/-! ### What a grant leaves of the queue and of G (R85, R93, R95) -/

/-- R93: a grant adds the candidate rating to G and leaves the entries of other units. -/
theorem grantSlot_others (e : Env) (u : UnitIx) (i : Slot) (pr : Profile) (r : Roof) :
    let q := (grantSlot e u i pr r).plant
    q.grantSum = satAdd 65535 r.plant.grantSum (candidateRating e u pr r.plant) ∧
      (∀ m : Entry, m.unit ≠ u → (m ∈ q.queue ↔ m ∈ r.plant.queue)) ∧
      ((∃ m ∈ r.plant.queue, m.unit ≠ u) ∨ (∀ k, wanted (r.plant.unit u) k = 0) → q.passDue = r.plant.passDue) := by
  obtain ⟨hqueue, hpass, hcounters⟩ := grantedPlant_queue e u i pr r.plant
  obtain ⟨hsum, hothers, hdue⟩ := settle_others e u (r.onPlant (grantedPlant e u i pr))
  have hcall (k : Kind) : wanted ((grantedPlant e u i pr r.plant).unit u) k = wanted (r.plant.unit u) k :=
    wanted_congr ((grantedPlant_moves e u i pr r.plant).unit u).call k
  rw [Roof.onPlant_plant] at hsum hothers hdue
  refine ⟨hsum.trans (congrArg Prod.snd hcounters), fun m hm => (hothers m hm).trans (by rw [hqueue]), fun h => ?_⟩
  refine (hdue ?_).trans hpass
  simpa only [hqueue, hcall] using h

/-- R83 to R85: a grant to a unit that waits for one kind and wants none of the other. -/
theorem grantSlot_one_kind (e : Env) {u : UnitIx} (i : Slot) (pr : Profile) {k : Kind} {r : Roof}
    (hs : (r.plant.unit u).state.isSettled = true) (h : r.plant.hasEntry u k = true)
    (hother : wanted (r.plant.unit u) (otherKind k) = 0) :
    let q := (grantSlot e u i pr r).plant
    let kept := withoutEntry u (otherKind k) r.plant.queue
    q.passDue = r.plant.passDue ∧ q.sequence = r.plant.sequence ∧
      q.queue = if wanted (q.unit u) k ≤ joiningCount (q.unit u) k ∨ (!someUsable (q.unit u) k) = true
        then withoutEntry u k kept else kept := by
  obtain ⟨hqueue, hpass, hcounters⟩ := grantedPlant_queue e u i pr r.plant
  have hmoves := (grantedPlant_moves e u i pr r.plant).unit u
  obtain ⟨hdue, hcount, hleft⟩ := settle_one_kind (k := k) e (r := r.onPlant (grantedPlant e u i pr))
    (by rw [Roof.onPlant_plant, hmoves.state]; exact hs)
    (by rw [Roof.onPlant_plant, Plant.hasEntry, hqueue]; exact h)
    (by rw [Roof.onPlant_plant, wanted_congr hmoves.call]; exact hother)
  rw [Roof.onPlant_plant] at hdue hcount hleft
  rw [hqueue] at hleft
  exact ⟨hdue.trans hpass, congrArg Prod.fst (hcount.trans hcounters), hleft⟩

/-- R85, R95: the unit's entries of the kind behind a grant to it, and the pass due, where the entry granted is the
unit's first of its kind and the unit wants none of the other. -/
theorem grant_requeues (e : Env) {i : Slot} (pr : Profile) {r : Roof} {front rest : List Entry} {n : Entry}
    (hqueue : r.plant.queue = front.map (Entry.tested e r.plant) ++ { n with skip := .none } :: rest)
    (hfront : ∀ m ∈ front, ¬(m.unit = n.unit ∧ m.kind = n.kind)) (hi : i ∈ slotsOf n.kind)
    (hs : (r.plant.unit n.unit).state.isSettled = true)
    (hother : wanted (r.plant.unit n.unit) (otherKind n.kind) = 0) :
    let q := requeue e n.unit n.kind (grantSlot e n.unit i pr r).plant
    let y := q.unit n.unit
    q.passDue = r.plant.passDue ∧
      (wanted y n.kind ≤ joiningCount y n.kind → ∀ m ∈ q.queue, ¬(m.unit = n.unit ∧ m.kind = n.kind)) ∧
      (joiningCount y n.kind < wanted y n.kind →
        { n with sequence := r.plant.sequence, joinTime := e.now, skip := .none } ∈ q.queue ∧
        q.sequence = nextSequence r.plant.sequence) := by
  let g := (grantSlot e n.unit i pr r).plant
  intro q y
  have hentry : r.plant.hasEntry n.unit n.kind = true := by
    rw [Plant.hasEntry, hqueue]
    exact List.any_eq_true.2 ⟨{ n with skip := .none }, by simp, (Entry.isOf_iff ..).2 ⟨rfl, rfl⟩⟩
  obtain ⟨hdue, hsequence, hleft⟩ := grantSlot_one_kind e i pr hs hentry hother
  obtain ⟨-, hpass, -, hstages⟩ := requeue_others e n.unit n.kind g
  have hwanted : wanted y n.kind = wanted (g.unit n.unit) n.kind :=
    wanted_congr ((requeue_moves e n.unit n.kind g).unit n.unit).call n.kind
  have husable : someUsable (g.unit n.unit) n.kind = true :=
    someUsable_of_on hi (grantSlot_started e n.unit i pr r).runs.isOn
  rw [husable, Bool.not_true] at hleft
  simp only [Bool.false_eq_true, or_false] at hleft
  rw [joiningCount_reselected hstages, hwanted]
  refine ⟨hpass.trans hdue, fun henough => ?_, fun hfew => ?_⟩
  · rw [if_pos henough] at hleft
    have hnone : ∀ m ∈ g.queue, ¬(m.unit = n.unit ∧ m.kind = n.kind) := fun m hm => by
      rw [hleft] at hm
      exact (mem_withoutEntry.1 hm).2
    have hsame : q = g := requeue_none e fun m hm => by
      rw [← Bool.not_eq_true, Entry.isOf_iff]
      exact hnone m hm
    rw [hsame]
    exact hnone
  · rw [if_neg (Nat.not_le.2 hfew)] at hleft
    have hfind : g.queue.find? (fun m => m.isOf n.unit n.kind) = some { n with skip := .none } := by
      rw [hleft, hqueue]
      exact find_granted hfront
    rw [show q = _ from requeue_some e hfind, show g.sequence = r.plant.sequence from hsequence]
    exact ⟨(insertEntry_perm _ _).mem_iff.2 (List.mem_cons_self ..), rfl⟩

/-- R89, R95: the entries of other units behind a walk. -/
theorem mem_walked {e : Env} {p : Plant} {front rest : List Entry} {n m : Entry} (h : m.unit ≠ n.unit) :
    m ∈ front.map (Entry.tested e p) ++ { n with skip := .none } :: rest ↔
      m ∈ rest ∨ ∃ k ∈ front, m = { k with skip := testEntry e p k } := by
  have hne : m ≠ { n with skip := .none } := by
    rintro rfl
    exact h rfl
  rw [List.mem_append, List.mem_cons, or_iff_right hne, List.mem_map, or_comm]
  exact or_congr_right (exists_congr fun k => and_congr_right fun _ => eq_comm)

/-- R85, R93, R95: the plant behind the grant of the first entry that passes, whose unit is settled and wants none of
the other kind. -/
theorem queuedGrant_leaves {s : State} {front rest : List Entry} {n : Entry} {i : Slot} (pr : Profile) (hready : Ready s)
    (hslot : queuedSlot (s.plant.unit n.unit) n.kind = some i)
    (hsettled : (s.plant.unit n.unit).state.isSettled = true)
    (hother : wanted (s.plant.unit n.unit) (otherKind n.kind) = 0)
    (hown : ∀ m ∈ front, ¬(m.unit = n.unit ∧ m.kind = n.kind)) :
    let walked := front.map (Entry.tested s.env s.plant) ++ { n with skip := .none } :: rest
    let q := requeue s.env n.unit n.kind (grantSlot s.env n.unit i pr (s.roof.withQueue walked)).plant
    let joining := joiningCount (q.unit n.unit) n.kind
    q.passDue = false ∧ q.grantSum = GrantedSum s n.unit pr ∧
      (wanted (s.plant.unit n.unit) n.kind ≤ joining → ∀ m ∈ q.queue, ¬(m.unit = n.unit ∧ m.kind = n.kind)) ∧
      (joining < wanted (s.plant.unit n.unit) n.kind →
        { n with sequence := s.plant.sequence, joinTime := s.seconds, skip := .none } ∈ q.queue ∧
        q.sequence = nextSequence s.plant.sequence) ∧
      ∀ m : Entry, m.unit ≠ n.unit →
        (m ∈ q.queue ↔ m ∈ rest ∨ ∃ k ∈ front, m = { k with skip := testEntry s.env s.plant k }) := by
  intro walked q joining
  let r := s.roof.withQueue walked
  obtain ⟨hsum, hothers, -⟩ := grantSlot_others s.env n.unit i pr r
  obtain ⟨hsum', -, hothers', -⟩ := requeue_others s.env n.unit n.kind (grantSlot s.env n.unit i pr r).plant
  obtain ⟨hdue, hleaves, hrequeued⟩ := grant_requeues s.env pr (r := r) rfl hown (queuedSlot_kind hslot) hsettled hother
  have hmoves : r.plant.Moves q := (grantSlot_moves s.env n.unit i pr r).trans (requeue_moves ..)
  rw [wanted_congr (hmoves.unit n.unit).call] at hleaves hrequeued
  exact ⟨hdue.trans hready.2, (hsum'.trans hsum).trans (satAdd_candidateRating n.unit pr rfl rfl), hleaves, hrequeued,
    fun m hm => ((hothers' m hm).trans (hothers m hm)).trans (mem_walked hm)⟩

/-- Settles O24: the walk ends at the first entry that passes, and the started slot runs on through all that follows
in the command; no pass follows where none can join an empty queue. -/
theorem admissionPassRecordsOrGrants : Obligations.AdmissionPassRecordsOrGrants := by
  refine ⟨fun s hcalm hmanual h => admissionPass_records hcalm hmanual h,
    fun s front n rest i pr hready hmanual hqueue hfront hn hslot hprofile => ?_,
    fun s u i pr hready hmanual hprofile hfirst => ?_⟩
  · let walked := front.map (Entry.tested s.env s.plant) ++ { n with skip := .none } :: rest
    have hpass : admissionPass s.env s.roof = (grantSlot s.env n.unit i pr (s.roof.withQueue walked)).onPlant
        (requeue s.env n.unit n.kind) := admissionPass_passing (r := s.roof) hmanual hqueue hfront hn hslot hprofile
    have hstarted : (admissionPass s.env s.roof).plant.Started s.env n.unit i pr := by
      rw [hpass]
      exact (grantSlot_started ..).runsOn (requeue_runsOn ..)
    refine ⟨_, exec_admissionPass hready.1, (onlyPlantChanged_onRoof (admissionPass_captures ..)).conclude,
      conclude_started hstarted, fun hsettled hother hown => ?_⟩
    obtain ⟨hdue, hleft⟩ := queuedGrant_leaves (rest := rest) pr hready hslot hsettled
      ((wanted_otherKind ..).trans hother) hown
    have hafter : (s.onRoof admissionPass).plant = _ := congrArg Roof.plant hpass
    rw [joiningCount_eq, wanted_eq] at hleft
    rw [conclude_plant_of_no_pass (by rw [hafter]; exact hdue), hafter]
    exact hleft
  · obtain ⟨pr', hpr'⟩ := (manualReady_isSome_iff ..).2 hmanual
    obtain ⟨-, hprofile', -⟩ := manualReady_eq_some_iff.1 hpr'
    obtain rfl : pr' = pr := Option.some.inj (hprofile'.symm.trans hprofile)
    have hpass : admissionPass s.env s.roof = grantSlot s.env u i pr' s.roof := admissionPass_manual hpr' hfirst
    refine ⟨_, exec_admissionPass hready.1, (onlyPlantChanged_onRoof (admissionPass_captures ..)).conclude,
      conclude_started (by rw [hpass]; exact grantSlot_started ..), fun hnone => ?_⟩
    obtain ⟨hsum, hothers, hdue⟩ := grantSlot_others s.env u i pr' s.roof
    have hafter : (s.onRoof admissionPass).plant = (grantSlot s.env u i pr' s.roof).plant := congrArg Roof.plant hpass
    have hstill : (grantSlot s.env u i pr' s.roof).plant.passDue = false :=
      (hdue (hnone.imp_right fun hcall k => by cases k; exacts [hcall.1, hcall.2])).trans hready.2
    rw [conclude_plant_of_no_pass (by rw [hafter]; exact hstill), hafter]
    exact ⟨hsum.trans (satAdd_candidateRating u pr' rfl rfl), hothers⟩

end Sys2Proof.Machine

namespace Sys2Proof.Machine

/-! ## The relays and the due pass between two commands (R83, R89, R177, R178) -/

/-- R83, R89, R177, R178: a state between two commands: the relays are as they should be and no pass is left due. -/
def State.Rests (s : State) : Prop := OutputsTrue s ∧ NoPassDue s

/-- R83, R89: passes are made until none is due. -/
theorem runPasses_passDue (e : Env) (n : Nat) (r : Roof) : (runPasses e n r).plant.passDue = false := by
  induction n generalizing r with
  | zero => rfl
  | succ n ih =>
    unfold runPasses
    split
    · exact ih _
    · next h => exact Bool.eq_false_of_not_eq_true h

theorem passAfterJoin_passDue (s : State) : (passAfterJoin s).plant.passDue = false := by
  unfold passAfterJoin
  split
  · exact runPasses_passDue ..
  · next h => exact Bool.eq_false_of_not_eq_true h

/-- The end of a roof command makes the due pass and drives the relays. -/
theorem conclude_rests {s : State} (h : s.powered = true) : (conclude s).Rests := by
  obtain ⟨-, hpowered, -⟩ := conclude_frame s
  refine ⟨?_, passAfterJoin_passDue s⟩
  rw [OutputsTrue, if_pos (hpowered.trans h)]
  exact conclude_outputs s

theorem whilePowered_rests {s t : State} {f : State → State} (hs : s.Rests) (hf : s.Rests → (f s).Rests)
    (h : whilePowered s f = .next t) : t.Rests := by
  rw [whilePowered_next] at h
  obtain rfl := Host.Outcome.next.inj h
  split
  · exact hf hs
  · exact hs

/-- Without supply a roof command does nothing; with it, its end sees to the relays and the pass whatever it did. -/
theorem roofCommand_rests {s t : State} {f : State → State} (hs : s.Rests) (hf : (f s).powered = s.powered)
    (h : roofCommand s f = .next t) : t.Rests := by
  rw [roofCommand_next] at h
  obtain rfl := Host.Outcome.next.inj h
  split
  · next hp => exact conclude_rests (hf.trans hp)
  · exact hs

/-! ### Resets and the supply -/

theorem resetState_rests (cause : ResetCause) (s : State) : (resetState cause s).Rests := by
  obtain ⟨hblocks, -⟩ := resetState_blocks cause s
  exact ⟨resetState_outputs cause s, congrArg (fun x : State => x.plant.passDue) hblocks⟩

theorem losePower_rests {s : State} (h : s.Rests) : (losePower s).Rests := ⟨rfl, h.2⟩

theorem endReply_rests {s : State} (h : s.Rests) : (endReply s).Rests := by
  unfold endReply
  split
  · dsimp only
    split
    · exact resetState_rests ..
    · exact h
  · exact h

theorem beginReply_rests {s : State} (h : s.Rests) : (beginReply s).Rests := by
  unfold beginReply
  split <;> exact h

/-! ### Changes that no relay follows -/

/-- R177: of the plant the conditions read the unit records alone. -/
theorem drivenOutputs_of_units {p q : Plant} (h : q.units = p.units) (t : Tables) (sh : Shed) (ns : List Notice)
    (missing : Bool) : drivenOutputs t sh q ns missing = drivenOutputs t sh p ns missing := by
  have hcondition (c : OutputCondition) : conditionTrue t sh q ns missing c = conditionTrue t sh p ns missing c := by
    cases c <;> simp only [conditionTrue, h]
  unfold drivenOutputs
  simp only [hcondition]

/-- R177: of the shed controller the conditions read the level and the two events alone. -/
theorem drivenOutputs_of_shed {a b : Shed} (hlevel : b.level = a.level) (hjob : b.jobEvent = a.jobEvent)
    (hcontact : b.contact = a.contact) (t : Tables) (p : Plant) (ns : List Notice) (missing : Bool) :
    drivenOutputs t b p ns missing = drivenOutputs t a p ns missing := by
  have hcondition (c : OutputCondition) : conditionTrue t b p ns missing c = conditionTrue t a p ns missing c := by
    cases c <;> simp only [conditionTrue, hlevel, hjob, hcontact]
  unfold drivenOutputs
  simp only [hcondition]

/-- A change of the plant beside the unit records and the due pass. -/
theorem State.Rests.withPlant {s : State} (h : s.Rests) {p : Plant} (hunits : p.units = s.plant.units)
    (hpass : p.passDue = s.plant.passDue) : State.Rests { s with plant := p } := by
  refine ⟨?_, hpass.trans h.2⟩
  unfold OutputsTrue
  rw [drivenOutputs_of_units hunits]
  exact h.1

/-- A change of the shed controller's timers or ceiling. -/
theorem State.Rests.withShed {s : State} (h : s.Rests) {sh : Shed} (hlevel : sh.level = s.shed.level)
    (hjob : sh.jobEvent = s.shed.jobEvent) (hcontact : sh.contact = s.shed.contact) :
    State.Rests { s with shed := sh } := by
  refine ⟨?_, h.2⟩
  unfold OutputsTrue
  rw [drivenOutputs_of_shed hlevel hjob hcontact]
  exact h.1

theorem attemptPlant_units (x : Transaction) (p : Plant) : (attemptPlant x p).units = p.units := by
  unfold attemptPlant
  split <;> rfl

/-- R26: an attempt takes at most a pending injection from the plant. -/
theorem beginAttempt_rests (x : Transaction) {s : State} (h : s.Rests) : (beginAttempt x s).Rests :=
  h.withPlant (attemptPlant_units x s.plant) (beginAttempt_passDue x s)

theorem turnaroundEnds_rests {s : State} (h : s.Rests) : (turnaroundEnds s).Rests := by
  unfold turnaroundEnds
  dsimp only
  split
  · exact beginAttempt_rests _ (s := s.onLink _) h
  · exact h
  · exact h
  · exact h

theorem attemptEnds_rests {s : State} (h : s.Rests) : (attemptEnds s).Rests := by
  unfold attemptEnds
  split
  · split <;> exact h
  · exact h
  · exact h
  · exact h

theorem expireSession_rests {s : State} (h : s.Rests) : (expireSession s).Rests := by
  unfold expireSession
  split <;> exact h

/-- R175: no relay follows the line or the debounced level of an input. -/
theorem changeLine_rests (w : InputLine) (closed : Bool) {s : State} (h : s.Rests) : (changeLine w closed s).Rests := by
  cases w <;> exact h

/-! ### Jobs, by what the answer keeps -/

/-- What holds of the state that an accepted job leaves. -/
def Verdict.Leads (P : State → Prop) : Verdict → Prop
  | .accepted _ t => P t
  | .refused _ _ => True

section
variable {P : State → Prop} {v : Verdict}

theorem Verdict.Leads.sized (h : v.Leads P) (n : Nat) (p : List Byte) : (sized n p v).Leads P := by
  unfold Machine.sized
  split
  · exact h
  · trivial

theorem Verdict.leads_onUnit {v : UnitIx → Verdict} (h : ∀ u, (v u).Leads P) (p : List Byte) :
    (onUnit p v).Leads P := by
  unfold onUnit
  split
  · exact h _
  · trivial

theorem Verdict.Leads.inSession (h : v.Leads P) (code : Byte) (s : State) : (inSession code s v).Leads P := by
  unfold Machine.inSession
  split
  · trivial
  · trivial
  · exact h

theorem Verdict.leads_onTable {v : TableId → Verdict} (h : ∀ t, (v t).Leads P) (code : Byte) (s : State) :
    (onTable code s v).Leads P := by
  refine Verdict.Leads.inSession ?_ code s
  split
  · exact h _
  · trivial

end

/-- R155, R156: a property that no answer and no entry in the error list touches. -/
structure KeptByAnswers (P : State → Prop) : Prop where
  onLink : ∀ (s : State) (f : Link → Link), P s → P (s.onLink f)
  logError : ∀ (s : State) (job error : Byte), P s → P (logError job error s)

theorem keptByAnswers_rests : KeptByAnswers State.Rests := ⟨fun _ _ h => h, fun _ _ _ h => h⟩

theorem keptByAnswers_powered (b : Bool) : KeptByAnswers (·.powered = b) := ⟨fun _ _ h => h, fun _ _ _ h => h⟩

section
variable {P : State → Prop} {s : State}

theorem KeptByAnswers.finishJob (hP : KeptByAnswers P) (hs : P s) {v : Verdict} (hv : v.Leads P) (restart : Bool)
    (req : Frame) (code : Byte) : P (finishJob restart req code s v) := by
  unfold Machine.finishJob
  split
  · exact hP.onLink _ _ hv
  · exact hP.onLink _ _ (hP.logError _ _ _ hs)

/-- R155: the head of the job queue is served, or nothing happens. -/
theorem KeptByAnswers.serveWith (hP : KeptByAnswers P) (hs : P s) {before : State → State} (hbefore : P (before s))
    {body : List Byte → State → Verdict} (hbody : ∀ p t, P t → (body p t).Leads P) (restart : Bool) (code : Byte) :
    P (serveWith before restart code body s) := by
  unfold Machine.serveWith
  split
  · exact hs
  · split
    · exact hs
    · exact hP.finishJob hbefore (hbody _ _ hbefore) ..

theorem KeptByAnswers.serveJob (hP : KeptByAnswers P) (hs : P s) {body : List Byte → State → Verdict}
    (hbody : ∀ p t, P t → (body p t).Leads P) (code : Byte) : P (serveJob code body s) :=
  hP.serveWith hs hs hbody false code

theorem KeptByAnswers.serveUnnamed (hP : KeptByAnswers P) (hs : P s) : P (serveUnnamed s) := by
  unfold Machine.serveUnnamed
  split
  · exact hs
  · split
    · exact hs
    · split
      · exact hP.finishJob hs (v := .refused _ _) trivial ..
      · split
        · exact hs
        · exact hP.finishJob hs (v := .refused _ _) trivial ..

end

theorem serveEdit_rests (code : Byte) {body : List Byte → State → Verdict} {s : State} (hs : s.Rests)
    (hbody : ∀ p t, State.Rests t → (body p t).Leads State.Rests) : (serveEdit code body s).Rests := by
  refine keptByAnswers_rests.serveWith hs ?_ hbody false code
  unfold restartIdle
  split <;> exact hs

/-! ### The jobs that no relay follows -/

section
variable (p : List Byte) {s : State} (h : s.Rests)
include h

theorem reading_rests (report : State → List Byte) : (reading report p s).Leads State.Rests :=
  Verdict.Leads.sized (by exact h) 1 p

theorem readUnitJob_rests : (readUnitJob p s).Leads State.Rests :=
  Verdict.Leads.sized (Verdict.leads_onUnit (fun _ => by exact h) p) 2 p

theorem readStageJob_rests : (readStageJob p s).Leads State.Rests := by
  refine Verdict.Leads.sized (Verdict.leads_onUnit (fun u => ?_) p) 3 p
  split
  · exact h
  · trivial

theorem readHistoryJob_rests : (readHistoryJob p s).Leads State.Rests := by
  refine Verdict.Leads.sized ?_ 2 p
  split
  · exact h
  · trivial

theorem readErrorsJob_rests : (readErrorsJob p s).Leads State.Rests :=
  Verdict.Leads.sized (by exact h) 1 p

theorem clearPeakJob_rests : (clearPeakJob p s).Leads State.Rests :=
  Verdict.Leads.sized (by exact h) 1 p

theorem discardCapturesJob_rests : (discardCapturesJob p s).Leads State.Rests :=
  Verdict.Leads.sized (by exact h) 2 p

theorem openEditJob_rests : (openEditJob p s).Leads State.Rests := by
  unfold openEditJob
  split
  · trivial
  · trivial
  · exact Verdict.Leads.sized (by exact h) 1 p

theorem selectJob_rests : (selectJob p s).Leads State.Rests := by
  refine (Verdict.Leads.sized ?_ 2 p).inSession 0x31 s
  split
  · exact h
  · trivial

theorem seekJob_rests : (seekJob p s).Leads State.Rests := by
  refine Verdict.leads_onTable (fun t => Verdict.Leads.sized ?_ 2 p) 0x32 s
  split
  · exact h
  · trivial

theorem writing_rests (code : Byte) (results : TableId → Session → List Byte) :
    (writing code results p s).Leads State.Rests := by
  refine Verdict.leads_onTable (fun t => Verdict.Leads.sized ?_ (1 + recordSize t) p) code s
  split
  · trivial
  · split
    · trivial
    · exact h

theorem readAtJob_rests : (readAtJob p s).Leads State.Rests := by
  refine Verdict.leads_onTable (fun t => Verdict.Leads.sized ?_ 1 p) 0x35 s
  split
  · trivial
  · exact h

theorem applyJob_rests : (applyJob p s).Leads State.Rests := by
  refine (Verdict.Leads.sized ?_ 1 p).inSession 0x36 s
  split
  · trivial
  · exact h

theorem abandonJob_rests : (abandonJob p s).Leads State.Rests :=
  (Verdict.Leads.sized (by exact h) 1 p).inSession 0x37 s

theorem storeConfigJob_rests : (storeConfigJob p s).Leads State.Rests := by
  unfold storeConfigJob
  split
  · trivial
  · exact Verdict.Leads.sized (by exact h) 1 p

theorem restartJob_rests : (restartJob p s).Leads State.Rests := by
  unfold restartJob
  split
  · trivial
  · exact Verdict.Leads.sized (by exact h) 1 p

end

end Sys2Proof.Machine

namespace Sys2Proof.Machine

/-! ## What keeps the supply applied -/

/-! ### The trunk -/

theorem enterReady_powered (x : Transaction) (s : State) : (enterReady x s).powered = s.powered := by
  unfold enterReady
  split <;> rfl

theorem takeHeadCall_powered {u : UnitIx} {f : Frame} {s t : State} (h : takeHeadCall u f s = .ok t) :
    t.powered = s.powered := by
  unfold takeHeadCall at h
  split at h
  · cases h
  · obtain rfl := Except.ok.inj h
    exact enterReady_powered ..

theorem arbitrate_powered (n : Nat) (s : State) : (arbitrate n s).powered = s.powered := by
  induction n generalizing s with
  | zero => rfl
  | succ n ih =>
    unfold arbitrate
    split
    · rfl
    · exact enterReady_powered ..
    · exact enterReady_powered ..
    · exact enterReady_powered ..
    · split
      · split
        · split
          · next h => exact takeHeadCall_powered h
          · exact ih _
        · exact enterReady_powered ..
      · exact enterReady_powered ..

theorem arbitrateTrunk_powered (s : State) : (arbitrateTrunk s).powered = s.powered := by
  unfold arbitrateTrunk
  split
  · exact arbitrate_powered ..
  · rfl

@[simp] theorem answerRelay_powered (x : Transaction) (answer : State → Frame → Frame) (s : State) :
    (answerRelay x answer s).powered = s.powered := by
  unfold answerRelay
  split <;> rfl

@[simp] theorem repeatMap_powered (x : Transaction) (s : State) : (repeatMap x s).powered = s.powered := by
  unfold repeatMap
  split <;> rfl

@[simp] theorem reportFailure_powered (x : Transaction) (s : State) : (reportFailure x s).powered = s.powered := by
  unfold reportFailure
  split <;> rfl

theorem endUnanswered_powered (x : Transaction) (s : State) : (endUnanswered x s).powered = s.powered := by
  simp [endUnanswered, freeTrunk]

theorem endStageMap_powered (x : Transaction) (u : UnitIx) (f : Frame) (s : State) :
    (endStageMap x u f s).powered = s.powered := by
  unfold endStageMap
  split <;> simp [reportReply]

theorem endStatusRead_powered (x : Transaction) (u : UnitIx) (f : Frame) (s : State) :
    (endStatusRead x u f s).powered = s.powered := by
  unfold endStatusRead
  split <;> simp [reportReply]

theorem endAnswered_powered (x : Transaction) (f : Frame) (s : State) : (endAnswered x f s).powered = s.powered := by
  unfold endAnswered
  rw [freeTrunk, State.onLink_powered]
  split
  · exact answerRelay_powered ..
  · split
    · exact endStageMap_powered ..
    · exact endStatusRead_powered ..
    · exact answerRelay_powered ..
    · exact answerRelay_powered ..

theorem trunkFrame_powered (f : Frame) (s : State) : (trunkFrame f s).powered = s.powered := by
  unfold trunkFrame
  split
  · split
    · exact endAnswered_powered ..
    · rfl
  · rfl
  · rfl
  · rfl

theorem trunkChar_powered (c : LinkChar) (s : State) : (trunkChar c s).powered = s.powered := by
  unfold trunkChar
  split
  · rfl
  · dsimp only
    split
    · exact trunkFrame_powered ..
    · rfl

theorem replyTimerEnds_powered (s : State) : (replyTimerEnds s).powered = s.powered := by
  unfold replyTimerEnds
  split
  · next x _ =>
    by_cases hbudget : x.attempt < (if x.single then 1 else 1 + x.retryCount)
    · rw [if_pos hbudget]
      exact enterReady_powered ..
    · rw [if_neg hbudget]
      exact endUnanswered_powered ..
  · rfl
  · rfl
  · rfl

/-! ### The demand sample and the shed controller -/

theorem closeInterval_powered (cause : CloseCause) (s : State) : (closeInterval cause s).powered = s.powered := by
  unfold closeInterval
  dsimp only
  split <;> rfl

theorem testClose_powered (s : State) : (testClose s).powered = s.powered := by
  unfold testClose
  split
  · rfl
  · exact closeInterval_powered ..
  · exact closeInterval_powered ..

theorem takeSample_powered (s : State) : (takeSample s).powered = s.powered := testClose_powered _

theorem installRoof_powered (s : State) : (installRoof s).powered = s.powered := by
  unfold installRoof
  dsimp only
  split <;> rfl

theorem ownersTaken_powered (new : Tables) (selected : List TableId) (s : State) :
    (ownersTaken new selected s).powered = s.powered := by
  unfold ownersTaken
  split
  · exact installRoof_powered (bandsTaken new s)
  · rfl

theorem installTables_powered (new : Tables) (selected : List TableId) (s : State) :
    (installTables new selected s).powered = s.powered := by
  have hinstall : installTables new selected s = if .unit ∈ selected ∨ .roof ∈ selected
      then installLead (ownersTaken new selected s) else ownersTaken new selected s := rfl
  rw [hinstall]
  split
  · obtain ⟨r, hlead, -⟩ := installLead_frame (ownersTaken new selected s)
    rw [hlead]
    exact ownersTaken_powered ..
  · exact ownersTaken_powered ..

theorem installPending_powered (s : State) : (installPending s).powered = s.powered := by
  unfold installPending
  split
  · dsimp only
    split
    · rfl
    · exact installTables_powered ..
  · rfl

theorem react_powered (s : State) : (react s).powered = s.powered := by
  unfold react
  dsimp only
  split
  · rfl
  · split <;> rfl

theorem endJobEvent_powered (s : State) : (endJobEvent s).powered = s.powered := by
  unfold endJobEvent
  split <;> rfl

theorem expireJobEvent_powered (s : State) : (expireJobEvent s).powered = s.powered := by
  unfold expireJobEvent
  split
  · split
    · exact endJobEvent_powered s
    · rfl
  · rfl

/-! ### The discrete inputs and the store -/

theorem syncEdge_powered (s : State) : (syncEdge s).powered = s.powered := by
  unfold syncEdge
  split
  · rfl
  · split
    · rfl
    · exact closeInterval_powered ..

theorem openContact_powered (s : State) : (openContact s).powered = s.powered := by
  unfold openContact
  split <;> rfl

theorem deliver_powered (w : InputLine) (closed : Bool) (s : State) : (deliver w closed s).powered = s.powered := by
  unfold deliver
  split
  · exact syncEdge_powered s
  · rfl
  · rfl
  · exact openContact_powered s
  · rfl
  · rfl

theorem debounceEnds_powered (w : InputLine) (s : State) : (debounceEnds w s).powered = s.powered := by
  unfold debounceEnds
  split
  · exact deliver_powered ..
  · rfl

theorem storeEnds_powered (equal : Bool) (s : State) : (storeEnds equal s).powered = s.powered := by
  unfold storeEnds
  split
  · rfl
  · split <;> rfl

/-! ### The jobs on the plant -/

section
variable (p : List Byte) {s : State} {b : Bool} (h : s.powered = b)
include h

theorem ackNoticesJob_powered : (ackNoticesJob p s).Leads (·.powered = b) :=
  Verdict.Leads.sized (by exact h) 2 p

theorem clearTripOn_powered (u : UnitIx) (slot : Option Slot) : (clearTripOn u slot s).Leads (·.powered = b) := by
  unfold clearTripOn
  dsimp only
  split
  · trivial
  · exact h

theorem clearTripJob_powered : (clearTripJob p s).Leads (·.powered = b) := by
  refine Verdict.Leads.sized (Verdict.leads_onUnit (fun u => ?_) p) 3 p
  split
  · trivial
  · split
    · exact clearTripOn_powered h ..
    · split
      · split
        · exact clearTripOn_powered h ..
        · trivial
      · trivial

theorem forceSlot_powered (u : UnitIx) (i : Slot) (action : Nat) :
    (forceSlot u i action s).Leads (·.powered = b) := by
  unfold forceSlot
  split
  · exact h
  · split
    · trivial
    · exact h
  · exact h
  · trivial

theorem forceFan_powered (u : UnitIx) (action : Nat) : (forceFan u action s).Leads (·.powered = b) := by
  unfold forceFan
  split
  · exact h
  · exact h
  · trivial

theorem forceStageJob_powered : (forceStageJob p s).Leads (·.powered = b) := by
  refine Verdict.Leads.sized (Verdict.leads_onUnit (fun u => ?_) p) 4 p
  split
  · trivial
  · split
    · exact forceFan_powered h ..
    · split
      · split
        · exact forceSlot_powered h ..
        · trivial
      · trivial

theorem isolateJob_powered : (isolateJob p s).Leads (·.powered = b) :=
  Verdict.Leads.sized (Verdict.leads_onUnit (fun _ => by exact h) p) 2 p

theorem restoreJob_powered : (restoreJob p s).Leads (·.powered = b) :=
  Verdict.Leads.sized (Verdict.leads_onUnit (fun _ => by exact h) p) 2 p

theorem drBeginJob_powered : (drBeginJob p s).Leads (·.powered = b) := by
  refine Verdict.Leads.sized ?_ 5 p
  split
  · exact h
  · trivial

theorem drEndJob_powered : (drEndJob p s).Leads (·.powered = b) :=
  Verdict.Leads.sized (by exact (endJobEvent_powered s).trans h) 1 p

end

/-- A command that serves a job and ends as a command on the roof. -/
theorem roofJobCommand_rests {s t : State} {code : Byte} {body : List Byte → State → Verdict} (hs : s.Rests)
    (hbody : ∀ p r, r.powered = s.powered → (body p r).Leads (·.powered = s.powered))
    (h : roofCommand s (serveJob code body) = .next t) : t.Rests :=
  roofCommand_rests hs ((keptByAnswers_powered _).serveJob rfl hbody code) h

end Sys2Proof.Machine

namespace Sys2Proof.Machine

/-! ## Every command leaves the relays and the pass at rest -/

/-- A command that serves a job no relay follows. -/
theorem jobCommand_rests {s t : State} {code : Byte} {body : List Byte → State → Verdict} (hs : s.Rests)
    (hbody : ∀ p r, State.Rests r → (body p r).Leads State.Rests)
    (h : whilePowered s (serveJob code body) = .next t) : t.Rests :=
  whilePowered_rests hs (fun hs => keptByAnswers_rests.serveJob hs hbody code) h

/-- R160: a command that serves an edit job. -/
theorem editCommand_rests {s t : State} {code : Byte} {body : List Byte → State → Verdict} (hs : s.Rests)
    (hbody : ∀ p r, State.Rests r → (body p r).Leads State.Rests)
    (h : whilePowered s (serveEdit code body) = .next t) : t.Rests :=
  whilePowered_rests hs (fun hs => serveEdit_rests code hs hbody) h

/-- No relay follows the ports and queues. -/
theorem portCommand_rests {s t : State} {f : Link → Link} (hs : s.Rests)
    (h : whilePowered s (fun s => s.onLink f) = .next t) : t.Rests :=
  whilePowered_rests (f := fun s => s.onLink f) hs id h

/-- One line for each row of the opcode table. -/
theorem exec_rests {s t : State} {c : Instr} (hs : s.Rests) (h : exec c s = .next t) : t.Rests := by
  cases c with
  | powerUp => exact Host.Outcome.next.inj h ▸ resetState_rests ..
  | resetLine => exact whilePowered_rests hs (fun _ => resetState_rests ..) h
  | powerLoss => exact whilePowered_rests hs losePower_rests h
  | controllerFrameReceived f =>
    exact portCommand_rests (f := fun l => ({ l with controllerRx := .hunt } : Link).takeIn f) hs h
  | gapTimeout p | lineBreak p => exact portCommand_rests (f := dropAssembly p) hs h
  | characterReceived p c =>
    cases p with
    | controller => exact portCommand_rests (f := controllerChar c) hs h
    | trunk => exact roofCommand_rests hs (trunkChar_powered c s) h
  | replyTransmitStart => exact whilePowered_rests hs beginReply_rests h
  | replyTransmitEnd => exact whilePowered_rests hs endReply_rests h
  | trunkArbitration => exact roofCommand_rests hs (arbitrateTrunk_powered s) h
  | turnaroundEnd => exact whilePowered_rests hs turnaroundEnds_rests h
  | attemptSent => exact whilePowered_rests hs attemptEnds_rests h
  | trunkFrameReceived f =>
    refine roofCommand_rests (f := fun s => if s.link.trunk.isSending then s
      else trunkFrame f (s.onLink fun l => { l with trunkRx := .hunt, quiet := false })) hs ?_ h
    split
    · rfl
    · exact trunkFrame_powered ..
  | replyTimeout => exact roofCommand_rests hs (replyTimerEnds_powered s) h
  | secondsTick => exact roofCommand_rests (f := tick) hs rfl h
  | offWindowsElapsed u i =>
    exact roofCommand_rests (f := fun s => s.onPlant fun e p => offWindowsEnd e u i p) hs rfl h
  | minimumOnEnd u i => exact roofCommand_rests (f := fun s => s.onRoof fun e => minimumOnEnds e u i) hs rfl h
  | blankingWindowEnd u => exact roofCommand_rests (f := fun s => s.onRoof fun e => blankingEnds e u) hs rfl h
  | admissionPass => exact roofCommand_rests (f := fun s => s.onRoof admissionPass) hs rfl h
  | entryAging =>
    exact whilePowered_rests (f := fun s => s.onPlant ageQueue) hs
      (fun hs => hs.withPlant (p := ageQueue s.env s.plant) rfl rfl) h
  | staggerTimerEnd =>
    exact whilePowered_rests (f := fun s => { s with plant :=
      { s.plant with staggerEnd := clearReached s.seconds s.plant.staggerEnd } }) hs
      (fun hs => hs.withPlant (p := { s.plant with staggerEnd := clearReached s.seconds s.plant.staggerEnd }) rfl rfl) h
  | stepTimerEnd =>
    exact whilePowered_rests (f := fun s => { s with shed :=
      { s.shed with stepEnd := clearReached s.seconds s.shed.stepEnd } }) hs
      (fun hs => hs.withShed (sh := { s.shed with stepEnd := clearReached s.seconds s.shed.stepEnd }) rfl rfl rfl) h
  | restoreHoldEnd =>
    exact whilePowered_rests (f := fun s => { s with shed :=
      { s.shed with hold := holdReached s.seconds s.shed.hold } }) hs
      (fun hs => hs.withShed (sh := { s.shed with hold := holdReached s.seconds s.shed.hold }) rfl rfl rfl) h
  | demandSample =>
    exact roofCommand_rests (f := fun s => takeSample (installPending s)) hs
      ((takeSample_powered _).trans (installPending_powered s)) h
  | shedReaction => exact roofCommand_rests hs (react_powered s) h
  | drEventExpiry => exact roofCommand_rests hs (expireJobEvent_powered s) h
  | inputLineChange w closed => exact Host.Outcome.next.inj h ▸ changeLine_rests w closed hs
  | debounceExpiry w => exact roofCommand_rests hs (debounceEnds_powered w s) h
  | storeEnd equal => exact roofCommand_rests hs (storeEnds_powered equal s) h
  | sessionIdleExpiry => exact whilePowered_rests hs expireSession_rests h
  | identify | readRoof | readQueue | readNotices | readCaptures =>
    exact jobCommand_rests hs (fun p _ hr => reading_rests p hr _) h
  | readUnit => exact jobCommand_rests hs (fun p _ => readUnitJob_rests p) h
  | readStage => exact jobCommand_rests hs (fun p _ => readStageJob_rests p) h
  | readHistory => exact jobCommand_rests hs (fun p _ => readHistoryJob_rests p) h
  | readErrors => exact jobCommand_rests hs (fun p _ => readErrorsJob_rests p) h
  | clearPeak => exact jobCommand_rests hs (fun p _ => clearPeakJob_rests p) h
  | discardCaptures => exact jobCommand_rests hs (fun p _ => discardCapturesJob_rests p) h
  | ackNotices => exact roofJobCommand_rests hs (fun p _ => ackNoticesJob_powered p) h
  | clearTrip => exact roofJobCommand_rests hs (fun p _ => clearTripJob_powered p) h
  | forceStage => exact roofJobCommand_rests hs (fun p _ => forceStageJob_powered p) h
  | isolate => exact roofJobCommand_rests hs (fun p _ => isolateJob_powered p) h
  | restore => exact roofJobCommand_rests hs (fun p _ => restoreJob_powered p) h
  | drBegin => exact roofJobCommand_rests hs (fun p _ => drBeginJob_powered p) h
  | drEnd => exact roofJobCommand_rests hs (fun p _ => drEndJob_powered p) h
  | openEdit => exact jobCommand_rests hs (fun p _ => openEditJob_rests p) h
  | selectTable => exact editCommand_rests hs (fun p _ => selectJob_rests p) h
  | seek => exact editCommand_rests hs (fun p _ => seekJob_rests p) h
  | writeRecord | exchange => exact editCommand_rests hs (fun p _ hr => writing_rests p hr _ _) h
  | readAt => exact editCommand_rests hs (fun p _ => readAtJob_rests p) h
  | applyTables => exact editCommand_rests hs (fun p _ => applyJob_rests p) h
  | abandon => exact editCommand_rests hs (fun p _ => abandonJob_rests p) h
  | storeConfig => exact jobCommand_rests hs (fun p _ => storeConfigJob_rests p) h
  | restart =>
    exact whilePowered_rests hs (fun hs => keptByAnswers_rests.serveWith hs (before := id) hs
      (fun p _ => restartJob_rests p) true 0x41) h
  | badJobCode => exact whilePowered_rests hs keptByAnswers_rests.serveUnnamed h

/-- Settles O58: a command on the roof ends with the due passes and the relays driven; every other command leaves what
they follow as it was, or is a reset or the loss of supply. -/
theorem outputsFollowTheirConditions : Obligations.OutputsFollowTheirConditions :=
  fun _ _ _ houtputs hpass h => exec_rests ⟨houtputs, hpass⟩ h

end Sys2Proof.Machine

namespace Sys2Proof.Machine

/-! ## The six tests of an entry (R90 to R94) -/

theorem mem_slotsOf (i : Slot) (k : Kind) : i ∈ slotsOf k ↔ slotKind i = k := by
  simp [slotsOf, mem_allSlots]

/-! ### What each test reads -/

theorem queuedSlot_eq_none {r : UnitRec} {k : Kind} (h : ∀ i : Slot, slotKind i = k → r.stages[i].state ≠ .queued) :
    queuedSlot r k = none :=
  List.find?_eq_none.2 fun i hi hq => h i ((mem_slotsOf i k).1 hi) (of_decide_eq_true hq)

/-- R63, R90: the only QUEUED slot of the kind is the one found. -/
theorem queuedSlot_eq_some {r : UnitRec} {k : Kind} {i : Slot} (hi : slotKind i = k) (hq : r.stages[i].state = .queued)
    (honly : ∀ j : Slot, slotKind j = k → r.stages[j].state = .queued → j = i) : queuedSlot r k = some i := by
  cases hfound : queuedSlot r k with
  | none => exact absurd (decide_eq_true hq) (List.find?_eq_none.1 hfound i ((mem_slotsOf i k).2 hi))
  | some j => rw [honly j ((mem_slotsOf j k).1 (queuedSlot_kind hfound)) (queuedSlot_state hfound)]

/-- R91: a slot of the other kind is on in either map. -/
theorem onForChangeover_iff (r : UnitRec) (k : Kind) : onForChangeover r (otherKind k) = true ↔
    ∃ j : Slot, slotKind j ≠ k ∧ (r.target.has j = true ∨ r.ack.has j = true) := by
  have hother (j : Slot) : slotKind j = otherKind k ↔ slotKind j ≠ k := by
    cases slotKind j <;> cases k <;> decide
  simp [onForChangeover, mem_slotsOf, onInEither, hother]

/-- R91: the cooling stages that count against the cap. -/
theorem joiningCount_cool (r : UnitRec) : joiningCount r .cool =
    (allSlots.filter fun j => decide (j.val < 4) && r.stages[j].state.isOn && !r.stages[j].stopPending &&
      decide (r.stages[j].force ≠ .forceOn)).length := by
  have hkind (j : Slot) : slotKind j = .cool ↔ j.val < 4 := by
    rw [← mem_slotsOf, mem_slotsOf_cool]
  simp only [joiningCount_eq, hkind]

/-- R91, R151: an INHIBIT band is of the kind HEAT where it applies while heating is on, of the kind COOL elsewhere. -/
theorem bandInhibits_iff (e : Env) (r : UnitRec) (k : Kind) : bandInhibits e r k = true ↔
    ∃ b : Fin 16, e.tables.bands[b].action = .inhibit ∧ r.pairs[b].state = .outside ∧
      (k = .heat ↔ e.tables.bands[b].applies = .heatingOn) := by
  rw [bandInhibits, List.any_eq_true]
  refine exists_congr fun b => (and_iff_right (List.mem_finRange b)).trans ?_
  rw [Bool.and_eq_true, Bool.and_eq_true, decide_eq_true_eq, decide_eq_true_eq, and_assoc]
  refine and_congr_right fun _ => and_congr_right fun _ => ?_
  cases k <;> cases e.tables.bands[b].applies <;> decide

theorem baseIncluded_iff (r : UnitRec) : baseIncluded r = true ↔
    (∃ j : Slot, r.target.has j = true ∨ r.ack.has j = true) ∨ ∃ st, r.status = some st ∧ st.run.fan = true := by
  unfold baseIncluded onInEither
  cases r.status <;> simp [mem_allSlots]

/-- R94: the demand test is failed where the candidate forecast exceeds the admission limit, at a ceiling below 65535. -/
theorem demandPasses_eq_false_iff (e : Env) (p : Plant) (rating : Nat) : demandPasses e p rating = false ↔
    e.shed.ceiling ≠ 65535 ∧ e.shed.ceiling - e.tables.roof.admissionReserve < candidateForecast e p rating := by
  rw [demandPasses, Bool.or_eq_false_iff, decide_eq_false_iff_not, decide_eq_false_iff_not, Nat.not_le]
  rfl

/-- R93: what holds of the candidate rating, by whether the estimate takes in the base rating already. -/
theorem candidateRating_iff (P : Nat → Prop) (e : Env) (u : UnitIx) (pr : Profile) (p : Plant) :
    P (candidateRating e u pr p) ↔ (baseIncluded (p.unit u) = true → P pr.rating) ∧
      (¬baseIncluded (p.unit u) = true → P (pr.rating + (e.cfg u).baseRating)) := by
  unfold candidateRating
  cases baseIncluded (p.unit u) <;> simp

/-! ### Their order -/

theorem testEntry_unqueued {e : Env} {p : Plant} {n : Entry} (h : queuedSlot (p.unit n.unit) n.kind = none) :
    testEntry e p n = .lockout := by
  simp [testEntry, h]

/-- R90 to R94: the tests of an entry whose QUEUED slot is bound to a profile. -/
theorem testEntry_queued {e : Env} {p : Plant} {n : Entry} {i : Slot} {pr : Profile}
    (hslot : queuedSlot (p.unit n.unit) n.kind = some i) (hprofile : e.profile n.unit i = some pr) :
    testEntry e p n =
      if (p.unit n.unit).stages[i].force = .forceOn then .manualOnly
      else if onForChangeover (p.unit n.unit) (otherKind n.kind) = true then .changeover
      else if n.kind = .cool ∧ coolingCap e n.unit ≤ joiningCount (p.unit n.unit) .cool then .shedCap
      else if (n.kind = .cool ∧ (p.unit n.unit).gateClosed = true) ∨ bandInhibits e (p.unit n.unit) n.kind = true
        then .gated
      else if pr.inrush = true ∧ staggerRunning e p = true then .stagger
      else if demandPasses e p (candidateRating e n.unit pr p) = true then .none
      else .demand := by
  unfold testEntry
  dsimp only
  rw [hslot]
  dsimp only
  rw [hprofile]

/-- Settles O25: the tests stand in the order of the table, and each reads what the rules name. -/
theorem entryIsTestedInOrder : Obligations.EntryIsTestedInOrder := by
  intro e p n r
  refine ⟨fun h => testEntry_unqueued (queuedSlot_eq_none h), fun i pr hi hq honly hprofile => ?_⟩
  intro onSomewhere manual change scheduled capped gated staggered base T tooMuch demand
  have hchange : change ↔ onForChangeover r (otherKind n.kind) = true := (onForChangeover_iff ..).symm
  have hcapped : capped ↔ n.kind = .cool ∧ coolingCap e n.unit ≤ joiningCount r .cool := by
    rw [joiningCount_cool]
  have hgated : gated ↔ (n.kind = .cool ∧ r.gateClosed = true) ∨ bandInhibits e r n.kind = true := by
    rw [bandInhibits_iff]
  have hstaggered : staggered ↔ pr.inrush = true ∧ staggerRunning e p = true := by
    rw [staggerRunning_iff]
    rfl
  have hdemand : demand ↔ ¬demandPasses e p (candidateRating e n.unit pr p) = true := by
    rw [Bool.not_eq_true, demandPasses_eq_false_iff,
      candidateRating_iff fun rating => e.shed.ceiling ≠ 65535 ∧
        e.shed.ceiling - e.tables.roof.admissionReserve < candidateForecast e p rating, baseIncluded_iff]
    rfl
  rw [testEntry_queued (queuedSlot_eq_some hi hq honly) hprofile]
  simp only [hchange, hcapped, hgated, hstaggered, hdemand]
  exact ⟨fun hm => if_pos hm,
    fun hm hch => by rw [if_neg hm, if_pos hch],
    fun hm hch hcap => by rw [if_neg hm, if_neg hch, if_pos hcap],
    fun hm hch hcap hg => by rw [if_neg hm, if_neg hch, if_neg hcap, if_pos hg],
    fun hm hch hcap hg hst => by rw [if_neg hm, if_neg hch, if_neg hcap, if_neg hg, if_pos hst],
    fun hm hch hcap hg hst hd => by rw [if_neg hm, if_neg hch, if_neg hcap, if_neg hg, if_neg hst, if_neg hd],
    fun hm hch hcap hg hst hd => by
      rw [if_neg hm, if_neg hch, if_neg hcap, if_neg hg, if_neg hst, if_pos (not_not.1 hd)]⟩

end Sys2Proof.Machine

namespace Sys2Proof.Machine

/-! ## Timers at their ends (R92, R122, R123, R160) and line changes (R175) -/

theorem clearReached_reached {now e : Nat} (h : e ≤ now) : clearReached now (some e) = none := by
  simp [clearReached, h]

theorem clearReached_running {now e : Nat} (h : now < e) : clearReached now (some e) = some e := by
  simp [clearReached, h]

theorem holdReached_reached {now e : Nat} (h : e ≤ now) : holdReached now (.running e) = .reached e := if_pos h

theorem holdReached_running {now e : Nat} (h : now < e) : holdReached now (.running e) = .running e :=
  if_neg (Nat.not_le.2 h)

/-- R160: only an OPEN session whose idle timer has reached its end is closed. -/
theorem expireSession_due {s : State} {e : Nat} (hopen : s.jobs.session.state = .opened)
    (hend : s.jobs.session.idleEnd = some e) (h : e ≤ s.seconds) :
    expireSession s = { s with jobs := { s.jobs with session := closedSession } } :=
  if_pos ⟨hopen, by rw [hend]; exact decide_eq_true h⟩

theorem expireSession_running {s : State} {e : Nat} (hend : s.jobs.session.idleEnd = some e) (h : s.seconds < e) :
    expireSession s = s :=
  if_neg fun hdue => by
    rw [hend] at hdue
    exact Nat.not_le.2 h (of_decide_eq_true hdue.2)

theorem expireSession_not_open {s : State} (h : s.jobs.session.state ≠ .opened) : expireSession s = s :=
  if_neg fun hdue => h hdue.1

section
variable {s : State} (hp : s.powered = true)
include hp

theorem exec_staggerTimerEnd {x : Option Nat} (h : clearReached s.seconds s.plant.staggerEnd = x) :
    exec .staggerTimerEnd s = .next { s with plant := { s.plant with staggerEnd := x } } := by
  subst h
  exact whilePowered_on (fun s => { s with plant :=
    { s.plant with staggerEnd := clearReached s.seconds s.plant.staggerEnd } }) hp

theorem exec_stepTimerEnd {x : Option Nat} (h : clearReached s.seconds s.shed.stepEnd = x) :
    exec .stepTimerEnd s = .next { s with shed := { s.shed with stepEnd := x } } := by
  subst h
  exact whilePowered_on (fun s => { s with shed :=
    { s.shed with stepEnd := clearReached s.seconds s.shed.stepEnd } }) hp

theorem exec_restoreHoldEnd {x : HoldTimer} (h : holdReached s.seconds s.shed.hold = x) :
    exec .restoreHoldEnd s = .next { s with shed := { s.shed with hold := x } } := by
  subst h
  exact whilePowered_on (fun s => { s with shed := { s.shed with hold := holdReached s.seconds s.shed.hold } }) hp

theorem exec_sessionIdleExpiry {t : State} (h : expireSession s = t) : exec .sessionIdleExpiry s = .next t := by
  subst h
  exact whilePowered_on expireSession hp

/-- R175: with supply applied the input's debounce follows its line. -/
theorem exec_inputLineChange (w : InputLine) (closed : Bool) : exec (.inputLineChange w closed) s =
    .next { s with lines := s.lines.setInput w (inputChange closed (s.lines.input w)) } := by
  change Host.Outcome.next (changeLine w closed s) = _
  rw [changeLine, if_pos hp]

end

/-- Settles O34: each timer is compared with the seconds counter at its end, and an input's debounce is started anew
from its two levels. -/
theorem timersAndLineChanges : Obligations.TimersAndLineChanges := by
  refine ⟨fun s e hp => ⟨fun hx h => ?_, fun hx h => ?_, fun hx h => ?_, fun hx h => ?_, fun hx h => ?_, fun hx h => ?_,
      fun hopen hx h => ?_, fun _ hx h => ?_, fun hclosed => ?_⟩,
    fun s b hp => ⟨exec_inputLineChange hp .intervalSync b, exec_inputLineChange hp .drContact b,
      exec_inputLineChange hp .roofShutdown b⟩⟩
  · exact exec_staggerTimerEnd hp (hx ▸ clearReached_reached h)
  · exact exec_staggerTimerEnd hp (x := s.plant.staggerEnd) (by rw [hx, clearReached_running h])
  · exact exec_stepTimerEnd hp (hx ▸ clearReached_reached h)
  · exact exec_stepTimerEnd hp (x := s.shed.stepEnd) (by rw [hx, clearReached_running h])
  · exact exec_restoreHoldEnd hp (hx ▸ holdReached_reached h)
  · exact exec_restoreHoldEnd hp (x := s.shed.hold) (by rw [hx, holdReached_running h])
  · exact exec_sessionIdleExpiry hp (expireSession_due hopen hx h)
  · exact exec_sessionIdleExpiry hp (expireSession_running hx h)
  · exact exec_sessionIdleExpiry hp (expireSession_not_open hclosed)

end Sys2Proof.Machine

namespace Sys2Proof.Machine

/-! ## The demand meter between two commands (R100, R102) -/

/-! ### The arithmetic of a sample and of a close -/

/-- R99: the roof power saturates. -/
theorem roofPower_le (e : Env) (p : Plant) : roofPower e p ≤ 65535 := Nat.min_le_left ..

/-- R101, R102: with at most `Pk` drawn in each second so far and from now on, the forecast is at most `Pk`; within the
interval it is at least the energy drawn spread over the interval. -/
theorem forecastOf_between {t E T P Pk : Nat} (hE : E ≤ Pk * t) (hP : P ≤ Pk) :
    forecastOf t E T P ≤ Pk ∧ (t ≤ T → E / T ≤ forecastOf t E T P) := by
  unfold forecastOf
  by_cases h : t ≤ T
  · rw [if_pos h]
    have hspread : Pk * t + Pk * (T - t) = Pk * T := by rw [← Nat.mul_add, Nat.add_sub_cancel' h]
    have hahead : P * (T - t) ≤ Pk * (T - t) := Nat.mul_le_mul_right _ hP
    have hwhole : E + P * (T - t) ≤ T * Pk := by rw [Nat.mul_comm T]; omega
    exact ⟨Nat.div_le_of_le_mul hwhole, fun _ => Nat.div_le_div_right (Nat.le_add_right ..)⟩
  · rw [if_neg h]
    exact ⟨Nat.div_le_of_le_mul (Nat.mul_comm Pk t ▸ hE), fun ht => absurd ht h⟩

/-- R98 to R102: the meter behind a sample that closes no interval, whatever the length of the interval was at the
sample before. -/
theorem MeterSound.sampleMeter {U T P : Nat} {m : Meter} (h : MeterSound U m) (hP : P ≤ 65535)
    (hclock : (sampleMeter T P m).clock ≤ 3900) : MeterSound T (sampleMeter T P m) := by
  obtain ⟨hbound, henergy, -, hpeak, -, -, -⟩ := h
  have hnext : satAdd 65535 m.clock 1 = m.clock + 1 := by
    rw [satAdd]
    omega
  have hrises : m.energy + P ≤ max m.peak P * (m.clock + 1) := by
    rw [Nat.mul_succ]
    exact Nat.add_le_add (henergy.trans (Nat.mul_le_mul_right _ (le_max_left ..))) (le_max_right ..)
  obtain ⟨habove, hbelow⟩ := forecastOf_between (T := T) hrises (le_max_right m.peak P)
  unfold Machine.sampleMeter at hclock ⊢
  dsimp only at hclock ⊢
  rw [hnext] at hclock ⊢
  exact ⟨hclock, hrises, le_max_right .., max_le hpeak hP, habove, hbelow, fun h => absurd h (Nat.succ_ne_zero _)⟩

/-- R107 step 4, R110: the meter of an interval that opens. -/
theorem meterSound_openInterval (T level : Nat) {m : Meter} (h : m.power ≤ 65535) :
    MeterSound T (openInterval level m) :=
  ⟨Nat.zero_le _, Nat.zero_le _, le_rfl, h, le_rfl, fun _ => (Nat.zero_div T).symm ▸ Nat.zero_le _, fun _ => ⟨rfl, rfl⟩⟩

theorem recordClose_power (cause : CloseCause) (now : Nat) (m : Meter) : (recordClose cause now m).power = m.power := by
  unfold recordClose
  split <;> rfl

/-- R104: the clock of an interval that stays open. -/
theorem clock_le_of_closeTest {r : RoofRec} {t : Nat} (hr : IntervalFieldsBounded r) (h : closeTest r t = none) :
    t ≤ 3900 := by
  obtain ⟨hlength, hgrace⟩ := hr
  unfold closeTest at h
  split at h
  · have hopen : ¬r.intervalLength ≤ t := fun hend => by simp [hend] at h
    omega
  · have hopen : ¬r.intervalLength + r.syncGrace ≤ t := fun hend => by simp [hend] at h
    omega

/-! ### What the meter and its bounds are read from -/

/-- R100, R102: the demand meter of a state between two commands, with the bounds it needs. -/
def State.Metered (s : State) : Prop := IntervalsBounded s ∧ MeterSound s.tables.roof.intervalLength s.meter

/-- The meter reads its own registers, the tables and the job processor alone. -/
theorem State.Metered.congr {s t : State} (h : s.Metered) (htables : t.tables = s.tables) (hjobs : t.jobs = s.jobs)
    (hmeter : t.meter = s.meter) : t.Metered := by
  unfold State.Metered IntervalsBounded
  rw [htables, hjobs, hmeter]
  exact h

theorem conclude_metered {s : State} (h : s.Metered) : (conclude s).Metered := by
  obtain ⟨-, -, -, -, htables, hmeter, -, -, -, -, hjobs, -⟩ := conclude_frame s
  exact h.congr htables hjobs hmeter

theorem whilePowered_metered {s t : State} {f : State → State} (hs : s.Metered) (hf : s.Metered → (f s).Metered)
    (h : whilePowered s f = .next t) : t.Metered := by
  rw [whilePowered_next] at h
  obtain rfl := Host.Outcome.next.inj h
  split
  · exact hf hs
  · exact hs

theorem roofCommand_metered {s t : State} {f : State → State} (hs : s.Metered) (hf : s.Metered → (f s).Metered)
    (h : roofCommand s f = .next t) : t.Metered :=
  whilePowered_metered (f := fun s => conclude (f s)) hs (fun hs => conclude_metered (hf hs)) h

/-! ### The sample, the sync edge and the installation before a sample -/

/-- R107: a close, with the meter as a sample or the interval before leaves it. -/
theorem closeInterval_metered (cause : CloseCause) {s : State} (hb : IntervalsBounded s) (hP : s.meter.power ≤ 65535) :
    (closeInterval cause s).Metered := by
  have hopen := meterSound_openInterval s.tables.roof.intervalLength s.shed.level
    ((recordClose_power cause s.seconds s.meter).trans_le hP)
  unfold closeInterval
  dsimp only
  split <;> exact ⟨hb, hopen⟩

/-- R104: the close test of a sample within the bounds. -/
theorem testClose_metered {s : State} (hb : IntervalsBounded s) (hP : s.meter.power ≤ 65535)
    (hm : s.meter.clock ≤ 3900 → MeterSound s.tables.roof.intervalLength s.meter) : (testClose s).Metered := by
  unfold testClose
  split
  · next hnone => exact ⟨hb, hm (clock_le_of_closeTest hb.1 hnone)⟩
  · exact closeInterval_metered .syncMissing hb hP
  · exact closeInterval_metered _ hb hP

/-- R98: the sample's meter is sound for the interval length that the tables now give. -/
theorem takeSample_metered {U : Nat} {s : State} (hb : IntervalsBounded s) (hm : MeterSound U s.meter) :
    (takeSample s).Metered := by
  have hP := roofPower_le s.env s.plant
  have hclose : (testClose (sampled s)).Metered := testClose_metered (s := sampled s) hb hP (hm.sampleMeter hP)
  exact hclose

theorem syncEdge_metered {s : State} (h : s.Metered) : (syncEdge s).Metered := by
  obtain ⟨hb, hm⟩ := h
  unfold syncEdge
  split
  · exact ⟨hb, hm⟩
  · split
    · exact ⟨hb, hm⟩
    · obtain ⟨-, -, hpower, hpeak, -⟩ := hm
      exact closeInterval_metered .sync hb (hpower.trans hpeak)

theorem factoryRoof_bounded : IntervalFieldsBounded factoryTables.roof := by
  unfold IntervalFieldsBounded
  decide

/-- R161, R164: a table copied brings a ROOF record of one or the other. -/
theorem copyTable_bounded (id : TableId) {src dst : Tables} (hs : IntervalFieldsBounded src.roof)
    (hd : IntervalFieldsBounded dst.roof) : IntervalFieldsBounded (copyTable id src dst).roof := by
  cases id
  case roof => exact hs
  all_goals exact hd

theorem candidateTables_bounded {live : Tables} {x : Session} (hl : IntervalFieldsBounded live.roof)
    (hx : IntervalFieldsBounded x.shadows.roof) : IntervalFieldsBounded (candidateTables live x).roof :=
  List.foldlRecOn (motive := fun t : Tables => IntervalFieldsBounded t.roof) x.selected _ hl
    fun _ ht id _ => copyTable_bounded id hx ht

theorem installTables_meter (new : Tables) (selected : List TableId) (s : State) :
    (installTables new selected s).meter = s.meter := by
  have hroof (t : State) : (installRoof t).meter = t.meter := by
    unfold installRoof
    dsimp only
    split <;> rfl
  have howners : (ownersTaken new selected s).meter = s.meter := by
    unfold ownersTaken
    split
    · exact hroof (bandsTaken new s)
    · rfl
  have hinstall : installTables new selected s = if .unit ∈ selected ∨ .roof ∈ selected
      then installLead (ownersTaken new selected s) else ownersTaken new selected s := rfl
  rw [hinstall]
  split
  · obtain ⟨r, hlead, -⟩ := installLead_frame (ownersTaken new selected s)
    rw [hlead]
    exact howners
  · exact howners

/-- R164: an installation makes bounded tables live, closes the session and keeps the image and a snapshot. -/
theorem installTables_bounded {new : Tables} (selected : List TableId) {s : State} (hb : IntervalsBounded s)
    (hnew : IntervalFieldsBounded new.roof) : IntervalsBounded (installTables new selected s) := by
  obtain ⟨htables, hjobs, -⟩ := installTables_frame new selected s
  obtain ⟨-, -, himage, hstore⟩ := hb
  unfold IntervalsBounded
  rw [htables, hjobs]
  refine ⟨hnew, factoryRoof_bounded, himage, fun st hst => ?_⟩
  obtain ⟨before, hbefore, rfl⟩ := Option.map_eq_some_iff.1 hst
  exact hstore before hbefore

/-- R98, R164: the pending apply leaves the meter as it is, and its tables within the bounds. -/
theorem installPending_bounded {s : State} (hb : IntervalsBounded s) :
    IntervalsBounded (installPending s) ∧ (installPending s).meter = s.meter := by
  unfold installPending
  split
  · dsimp only
    split
    · exact ⟨hb, rfl⟩
    · exact ⟨installTables_bounded _ hb (candidateTables_bounded hb.1 hb.2.1), installTables_meter ..⟩
  · exact ⟨hb, rfl⟩

theorem demandSample_metered {s : State} (h : s.Metered) : (takeSample (installPending s)).Metered := by
  obtain ⟨hb, hmeter⟩ := installPending_bounded h.1
  exact takeSample_metered hb (hmeter ▸ h.2)

/-! ### Resets and the store -/

/-- R165: nothing is asked of an image or a snapshot that is not there. -/
theorem bounded_of_none {α : Type} {P : α → Prop} {o : Option α} (h : o = none) (x : α) (hx : o = some x) : P x :=
  absurd (h.symm.trans hx) (Option.some_ne_none x).symm

theorem imageAtReset_bounded {s : State} (hb : IntervalsBounded s) {t : Tables} (h : imageAtReset s = some t) :
    IntervalFieldsBounded t.roof := by
  obtain ⟨-, -, himage, -⟩ := hb
  unfold imageAtReset at h
  split at h
  · cases h
  · exact himage t h

/-- R97, R166: a reset loads a bounded image or the factory defaults, and the meter is cleared. -/
theorem resetState_metered (cause : ResetCause) {s : State} (h : s.Metered) : (resetState cause s).Metered := by
  obtain ⟨hblocks, -, -⟩ := resetState_blocks cause s
  have hloaded : IntervalFieldsBounded (tablesAtReset s).roof := by
    unfold tablesAtReset
    cases himage : imageAtReset s with
    | none => exact factoryRoof_bounded
    | some t => exact imageAtReset_bounded h.1 himage
  have hblank : (blankState s).Metered :=
    ⟨⟨hloaded, factoryRoof_bounded, fun t ht => imageAtReset_bounded h.1 ht, bounded_of_none rfl⟩,
      meterSound_openInterval (tablesAtReset s).roof.intervalLength 0 (m := freshMeter) (Nat.zero_le _)⟩
  rw [hblocks]
  exact hblank

theorem losePower_metered {s : State} (h : s.Metered) : (losePower s).Metered := by
  obtain ⟨htables, hshadow, -, -⟩ := h.1
  exact ⟨⟨htables, hshadow, fun t ht => imageAtReset_bounded h.1 ht, bounded_of_none rfl⟩, h.2⟩

theorem endReply_metered {s : State} (h : s.Metered) : (endReply s).Metered := by
  unfold endReply
  split
  · dsimp only
    split
    · exact resetState_metered .restart (s := s.onLink _) h
    · exact h
  · exact h

theorem beginReply_metered {s : State} (h : s.Metered) : (beginReply s).Metered := by
  unfold beginReply
  split <;> exact h

/-- R165: the image after a good store is the snapshot. -/
theorem storeEnds_metered (equal : Bool) {s : State} (h : s.Metered) : (storeEnds equal s).Metered := by
  obtain ⟨⟨htables, hshadow, himage, hstore⟩, hmeter⟩ := h
  unfold storeEnds
  split
  · exact ⟨⟨htables, hshadow, himage, hstore⟩, hmeter⟩
  · next st hst =>
    split
    · exact ⟨⟨htables, hshadow, fun t ht => Option.some.inj ht ▸ hstore st hst, bounded_of_none rfl⟩, hmeter⟩
    · exact ⟨⟨htables, hshadow, bounded_of_none rfl, bounded_of_none rfl⟩, hmeter⟩

/-! ### The shed controller, the discrete inputs and the session's timer -/

theorem react_metered {s : State} (h : s.Metered) : (react s).Metered := by
  unfold react
  dsimp only
  split
  · exact h
  · split <;> exact h

theorem endJobEvent_metered {s : State} (h : s.Metered) : (endJobEvent s).Metered := by
  unfold endJobEvent
  split <;> exact h

theorem expireJobEvent_metered {s : State} (h : s.Metered) : (expireJobEvent s).Metered := by
  unfold expireJobEvent
  split
  · split
    · exact endJobEvent_metered h
    · exact h
  · exact h

theorem openContact_metered {s : State} (h : s.Metered) : (openContact s).Metered := by
  unfold openContact
  split <;> exact h

theorem deliver_metered (w : InputLine) (closed : Bool) {s : State} (h : s.Metered) : (deliver w closed s).Metered := by
  unfold deliver
  split
  · exact syncEdge_metered h
  · exact h
  · exact h
  · exact openContact_metered h
  · exact h
  · exact h

theorem debounceEnds_metered (w : InputLine) {s : State} (h : s.Metered) : (debounceEnds w s).Metered := by
  unfold debounceEnds
  split
  · exact deliver_metered w _ (s := { s with lines := s.lines.setInput w (inputExpiry (s.lines.input w)) }) h
  · exact h

theorem State.Metered.withSession {s : State} (h : s.Metered) {x : Session}
    (hx : IntervalFieldsBounded x.shadows.roof) : (s.withSession x).Metered := by
  obtain ⟨⟨htables, -, himage, hstore⟩, hmeter⟩ := h
  exact ⟨⟨htables, hx, himage, hstore⟩, hmeter⟩

theorem expireSession_metered {s : State} (h : s.Metered) : (expireSession s).Metered := by
  unfold expireSession
  split
  · exact h.withSession (x := closedSession) factoryRoof_bounded
  · exact h

end Sys2Proof.Machine

namespace Sys2Proof.Machine

/-! ### The trunk -/

/-- R22 to R39: what the trunk's events may touch: the plant with its two lists, and the ports and queues. -/
def State.TrunkServed (s t : State) : Prop := ∃ (r : Roof) (l : Link), t = { s.withRoof r with link := l }

theorem State.TrunkServed.refl (s : State) : s.TrunkServed s := ⟨s.roof, s.link, rfl⟩

theorem State.TrunkServed.trans {s t r : State} (h : s.TrunkServed t) (k : t.TrunkServed r) : s.TrunkServed r := by
  obtain ⟨r, l, rfl⟩ := h
  obtain ⟨r', l', rfl⟩ := k
  exact ⟨r', l', rfl⟩

theorem State.TrunkServed.metered {s t : State} (h : s.TrunkServed t) (hs : s.Metered) : t.Metered := by
  obtain ⟨r, l, rfl⟩ := h
  exact hs

theorem State.trunkServed_onLink (s : State) (f : Link → Link) : s.TrunkServed (s.onLink f) := ⟨s.roof, _, rfl⟩

theorem State.trunkServed_onRoof (s : State) (f : Env → Roof → Roof) : s.TrunkServed (s.onRoof f) := ⟨_, s.link, rfl⟩

theorem State.trunkServed_onPlant (s : State) (f : Env → Plant → Plant) : s.TrunkServed (s.onPlant f) :=
  ⟨⟨f s.env s.plant, s.notices, s.captures⟩, s.link, rfl⟩

theorem beginAttempt_trunkServed (x : Transaction) (s : State) : s.TrunkServed (beginAttempt x s) :=
  ⟨⟨attemptPlant x s.plant, s.notices, s.captures⟩, _, rfl⟩

theorem enterReady_trunkServed (x : Transaction) (s : State) : s.TrunkServed (enterReady x s) := by
  unfold enterReady
  split
  · exact beginAttempt_trunkServed x s
  · exact s.trunkServed_onLink _

theorem startTransaction_trunkServed (origin : Origin) (q : Request) (unit : Option UnitIx) (s : State) :
    s.TrunkServed (startTransaction origin q unit s) := enterReady_trunkServed _ s

theorem handRelay_trunkServed (q : Request) (unit : Option UnitIx) (s : State) :
    s.TrunkServed (handRelay q unit s) := (s.trunkServed_onLink _).trans (startTransaction_trunkServed ..)

theorem takeHeadCall_trunkServed {u : UnitIx} {f : Frame} {s t : State} (h : takeHeadCall u f s = .ok t) :
    s.TrunkServed t := by
  unfold takeHeadCall at h
  split at h
  · cases h
  · obtain rfl := Except.ok.inj h
    exact (s.trunkServed_onRoof _).trans (handRelay_trunkServed ..)

theorem arbitrate_trunkServed (n : Nat) (s : State) : s.TrunkServed (arbitrate n s) := by
  induction n generalizing s with
  | zero => exact .refl s
  | succ n ih =>
    unfold arbitrate
    split
    · exact .refl s
    · exact startTransaction_trunkServed ..
    · exact (s.trunkServed_onLink _).trans (startTransaction_trunkServed ..)
    · exact (s.trunkServed_onLink _).trans (startTransaction_trunkServed ..)
    · split
      · split
        · split
          · next h => exact takeHeadCall_trunkServed h
          · exact (s.trunkServed_onLink _).trans (ih _)
        · exact handRelay_trunkServed ..
      · exact handRelay_trunkServed ..

theorem arbitrateTrunk_trunkServed (s : State) : s.TrunkServed (arbitrateTrunk s) := by
  unfold arbitrateTrunk
  split
  · exact arbitrate_trunkServed ..
  · exact .refl s

theorem answerRelay_trunkServed (x : Transaction) (answer : State → Frame → Frame) (s : State) :
    s.TrunkServed (answerRelay x answer s) := by
  unfold answerRelay
  split
  · exact s.trunkServed_onLink _
  · exact .refl s

theorem repeatMap_trunkServed (x : Transaction) (s : State) : s.TrunkServed (repeatMap x s) := by
  unfold repeatMap
  split
  · exact s.trunkServed_onPlant _
  · exact .refl s

theorem reportFailure_trunkServed (x : Transaction) (s : State) : s.TrunkServed (reportFailure x s) := by
  unfold reportFailure
  split
  · exact s.trunkServed_onRoof _
  · exact .refl s

theorem freeTrunk_trunkServed (s : State) : s.TrunkServed (freeTrunk s) := s.trunkServed_onLink _

theorem endUnanswered_trunkServed (x : Transaction) (s : State) : s.TrunkServed (endUnanswered x s) :=
  (((reportFailure_trunkServed x s).trans (answerRelay_trunkServed ..)).trans (repeatMap_trunkServed ..)).trans
    (freeTrunk_trunkServed _)

theorem reportReply_trunkServed (u : UnitIx) (s : State) : s.TrunkServed (reportReply u s) := s.trunkServed_onPlant _

theorem endStageMap_trunkServed (x : Transaction) (u : UnitIx) (f : Frame) (s : State) :
    s.TrunkServed (endStageMap x u f s) := by
  unfold endStageMap
  split
  · exact ((reportReply_trunkServed u s).trans (answerRelay_trunkServed ..)).trans (repeatMap_trunkServed ..)
  · exact (((s.trunkServed_onPlant _).trans (reportReply_trunkServed u _)).trans (answerRelay_trunkServed ..)).trans
      (repeatMap_trunkServed ..)

theorem endStatusRead_trunkServed (x : Transaction) (u : UnitIx) (f : Frame) (s : State) :
    s.TrunkServed (endStatusRead x u f s) := by
  unfold endStatusRead
  split
  · exact (reportReply_trunkServed u s).trans (answerRelay_trunkServed ..)
  · exact (s.trunkServed_onRoof _).trans (answerRelay_trunkServed ..)

theorem endAnswered_trunkServed (x : Transaction) (f : Frame) (s : State) : s.TrunkServed (endAnswered x f s) := by
  unfold endAnswered
  refine State.TrunkServed.trans ?_ (freeTrunk_trunkServed _)
  split
  · exact answerRelay_trunkServed ..
  · next u _ =>
    split
    · exact endStageMap_trunkServed ..
    · exact endStatusRead_trunkServed ..
    · exact (reportReply_trunkServed u s).trans (answerRelay_trunkServed ..)
    · exact (reportReply_trunkServed u s).trans (answerRelay_trunkServed ..)

theorem trunkFrame_trunkServed (f : Frame) (s : State) : s.TrunkServed (trunkFrame f s) := by
  unfold trunkFrame
  split
  · split
    · exact endAnswered_trunkServed ..
    · exact .refl s
  · exact .refl s
  · exact .refl s
  · exact .refl s

theorem trunkChar_trunkServed (c : LinkChar) (s : State) : s.TrunkServed (trunkChar c s) := by
  unfold trunkChar
  split
  · exact .refl s
  · dsimp only
    split
    · exact (s.trunkServed_onLink _).trans (trunkFrame_trunkServed ..)
    · exact s.trunkServed_onLink _

theorem replyTimerEnds_trunkServed (s : State) : s.TrunkServed (replyTimerEnds s) := by
  unfold replyTimerEnds
  split
  · next x _ =>
    by_cases hbudget : x.attempt < (if x.single then 1 else 1 + x.retryCount)
    · rw [if_pos hbudget]
      exact enterReady_trunkServed ..
    · rw [if_neg hbudget]
      exact endUnanswered_trunkServed x s
  · exact .refl s
  · exact .refl s
  · exact .refl s

theorem attemptEnds_trunkServed (s : State) : s.TrunkServed (attemptEnds s) := by
  unfold attemptEnds
  split
  · split
    · exact (s.trunkServed_onLink _).trans (freeTrunk_trunkServed _)
    · exact s.trunkServed_onLink _
  · exact .refl s
  · exact .refl s
  · exact .refl s

theorem turnaroundEnds_trunkServed (s : State) : s.TrunkServed (turnaroundEnds s) := by
  have hquiet : s.TrunkServed (s.onLink fun l => { l with quiet := true }) := s.trunkServed_onLink _
  unfold turnaroundEnds
  dsimp only
  split
  · exact hquiet.trans (beginAttempt_trunkServed ..)
  · exact hquiet
  · exact hquiet
  · exact hquiet

end Sys2Proof.Machine

namespace Sys2Proof.Machine

/-! ### Jobs -/

theorem keptByAnswers_metered : KeptByAnswers State.Metered := ⟨fun _ _ h => h, fun _ _ _ h => h⟩

/-- R155: an accepted job with a payload of its length leaves the state it was accepted with. -/
theorem Verdict.leads_sized_accepted {P : State → Prop} {t : State} (h : P t) (n : Nat) (p results : List Byte) :
    (sized n p (.accepted results t)).Leads P := Verdict.Leads.sized (v := .accepted results t) h n p

theorem serveEdit_metered (code : Byte) {body : List Byte → State → Verdict} {s : State} (hs : s.Metered)
    (hbody : ∀ p t, State.Metered t → (body p t).Leads State.Metered) : (serveEdit code body s).Metered := by
  refine keptByAnswers_metered.serveWith hs ?_ hbody false code
  unfold restartIdle
  split <;> exact hs

/-- R159: a ROOF record that passes the check of its fields' ranges. -/
theorem roofOf_bounded {l : List Byte} (h : firstBad roofFields l = none) : IntervalFieldsBounded (roofOf l) := by
  rw [firstBad_eq_firstOut, firstOut, Option.map_eq_none_iff, List.find?_eq_none] at h
  have hlength := h _ (List.mem_map_of_mem (f := FieldSpec.judged l) (a := wordField 0 300 3600) (by decide))
  have hgrace := h _ (List.mem_map_of_mem (f := FieldSpec.judged l) (a := wordField 3 10 300) (by decide))
  simp only [wordField_judged, Bool.not_eq_true', Bool.not_eq_false, decide_eq_true_eq] at hlength hgrace
  unfold IntervalFieldsBounded roofOf
  dsimp only
  omega

theorem putRecord_bounded {t : Tables} {id : TableId} {i : Nat} {l : List Byte} (ht : IntervalFieldsBounded t.roof)
    (hl : firstBad (fieldsOf id l) l = none) : IntervalFieldsBounded (putRecord t id i l).roof := by
  cases id
  case roof =>
    unfold putRecord
    dsimp only
    split
    · exact roofOf_bounded hl
    · exact ht
  all_goals
    unfold putRecord
    dsimp only
    split <;> exact ht

section
variable (p : List Byte) {s : State} (h : s.Metered)
include h

theorem reading_metered (report : State → List Byte) : (reading report p s).Leads State.Metered :=
  Verdict.leads_sized_accepted h 1 p _

theorem readUnitJob_metered : (readUnitJob p s).Leads State.Metered :=
  Verdict.Leads.sized (Verdict.leads_onUnit (fun _ => by exact h) p) 2 p

theorem readStageJob_metered : (readStageJob p s).Leads State.Metered := by
  refine Verdict.Leads.sized (Verdict.leads_onUnit (fun u => ?_) p) 3 p
  split
  · exact h
  · trivial

theorem readHistoryJob_metered : (readHistoryJob p s).Leads State.Metered := by
  refine Verdict.Leads.sized ?_ 2 p
  split
  · exact h
  · trivial

theorem readErrorsJob_metered : (readErrorsJob p s).Leads State.Metered :=
  Verdict.leads_sized_accepted (by exact h) 1 p _

/-- R109: the peak-interval record is none of the interval's own registers. -/
theorem clearPeakJob_metered : (clearPeakJob p s).Leads State.Metered := Verdict.leads_sized_accepted (by exact h) 1 p _

theorem ackNoticesJob_metered : (ackNoticesJob p s).Leads State.Metered :=
  Verdict.leads_sized_accepted (by exact h) 2 p _

theorem discardCapturesJob_metered : (discardCapturesJob p s).Leads State.Metered :=
  Verdict.leads_sized_accepted (by exact h) 2 p _

theorem clearTripOn_metered (u : UnitIx) (slot : Option Slot) : (clearTripOn u slot s).Leads State.Metered := by
  unfold clearTripOn
  dsimp only
  split
  · trivial
  · exact h

theorem clearTripJob_metered : (clearTripJob p s).Leads State.Metered := by
  refine Verdict.Leads.sized (Verdict.leads_onUnit (fun u => ?_) p) 3 p
  split
  · trivial
  · split
    · exact clearTripOn_metered h ..
    · split
      · split
        · exact clearTripOn_metered h ..
        · trivial
      · trivial

theorem forceSlot_metered (u : UnitIx) (i : Slot) (action : Nat) : (forceSlot u i action s).Leads State.Metered := by
  unfold forceSlot
  split
  · exact h
  · split
    · trivial
    · exact h
  · exact h
  · trivial

theorem forceFan_metered (u : UnitIx) (action : Nat) : (forceFan u action s).Leads State.Metered := by
  unfold forceFan
  split
  · exact h
  · exact h
  · trivial

theorem forceStageJob_metered : (forceStageJob p s).Leads State.Metered := by
  refine Verdict.Leads.sized (Verdict.leads_onUnit (fun u => ?_) p) 4 p
  split
  · trivial
  · split
    · exact forceFan_metered h ..
    · split
      · split
        · exact forceSlot_metered h ..
        · trivial
      · trivial

theorem isolateJob_metered : (isolateJob p s).Leads State.Metered :=
  Verdict.Leads.sized (Verdict.leads_onUnit (fun _ => by exact h) p) 2 p

theorem restoreJob_metered : (restoreJob p s).Leads State.Metered :=
  Verdict.Leads.sized (Verdict.leads_onUnit (fun _ => by exact h) p) 2 p

theorem drBeginJob_metered : (drBeginJob p s).Leads State.Metered := by
  refine Verdict.Leads.sized ?_ 5 p
  split
  · exact h
  · trivial

theorem drEndJob_metered : (drEndJob p s).Leads State.Metered :=
  Verdict.leads_sized_accepted (endJobEvent_metered h) 1 p _

/-! #### The edit session, the store and the restart -/

theorem openEditJob_metered : (openEditJob p s).Leads State.Metered := by
  unfold openEditJob
  split
  · trivial
  · trivial
  · exact Verdict.leads_sized_accepted (h.withSession factoryRoof_bounded) 1 p _

/-- R161: a shadow made of the live table. -/
theorem selectJob_metered : (selectJob p s).Leads State.Metered := by
  refine (Verdict.Leads.sized ?_ 2 p).inSession 0x31 s
  split
  · next t _ =>
    obtain ⟨htables, hshadow, -⟩ := h.1
    refine h.withSession ?_
    unfold selectIn
    dsimp only
    split
    · exact hshadow
    · exact copyTable_bounded t htables hshadow
  · trivial

theorem seekJob_metered : (seekJob p s).Leads State.Metered := by
  refine Verdict.leads_onTable (fun t => Verdict.Leads.sized ?_ 2 p) 0x32 s
  split
  · exact h
  · trivial

/-- R162: a record goes into the shadow when its fields are in range. -/
theorem writing_metered (code : Byte) (results : TableId → Session → List Byte) :
    (writing code results p s).Leads State.Metered := by
  refine Verdict.leads_onTable (fun t => Verdict.Leads.sized ?_ (1 + recordSize t) p) code s
  split
  · trivial
  · split
    · trivial
    · next hgood =>
      obtain ⟨-, hshadow, -⟩ := h.1
      exact h.withSession (x := writeAt t (p.drop 1) s.jobs.session) (putRecord_bounded hshadow hgood)

theorem readAtJob_metered : (readAtJob p s).Leads State.Metered := by
  refine Verdict.leads_onTable (fun t => Verdict.Leads.sized ?_ 1 p) 0x35 s
  split
  · trivial
  · exact h

theorem applyJob_metered : (applyJob p s).Leads State.Metered := by
  refine (Verdict.Leads.sized ?_ 1 p).inSession 0x36 s
  split
  · trivial
  · exact h

theorem abandonJob_metered : (abandonJob p s).Leads State.Metered :=
  (Verdict.leads_sized_accepted (h.withSession factoryRoof_bounded) 1 p _).inSession 0x37 s

/-- R165: the snapshot is of the live tables. -/
theorem storeConfigJob_metered : (storeConfigJob p s).Leads State.Metered := by
  obtain ⟨⟨htables, hshadow, himage, -⟩, hmeter⟩ := h
  unfold storeConfigJob
  split
  · trivial
  · exact Verdict.leads_sized_accepted
      ⟨⟨htables, hshadow, himage, fun st hst => Option.some.inj hst ▸ htables⟩, hmeter⟩ 1 p _

theorem restartJob_metered : (restartJob p s).Leads State.Metered := by
  unfold restartJob
  split
  · trivial
  · exact Verdict.leads_sized_accepted (by exact h) 1 p _

end

/-! ### Every command -/

section
variable {s t : State} {code : Byte} {body : List Byte → State → Verdict} (hs : s.Metered)
  (hbody : ∀ p r, State.Metered r → (body p r).Leads State.Metered)
include hs hbody

theorem jobCommand_metered (h : whilePowered s (serveJob code body) = .next t) : t.Metered :=
  whilePowered_metered hs (fun hs => keptByAnswers_metered.serveJob hs hbody code) h

theorem roofJobCommand_metered (h : roofCommand s (serveJob code body) = .next t) : t.Metered :=
  roofCommand_metered hs (fun hs => keptByAnswers_metered.serveJob hs hbody code) h

/-- R160: a command that serves an edit job. -/
theorem editCommand_metered (h : whilePowered s (serveEdit code body) = .next t) : t.Metered :=
  whilePowered_metered hs (fun hs => serveEdit_metered code hs hbody) h

end

/-- One line for each row of the opcode table. -/
theorem exec_metered {s t : State} {c : Instr} (hs : s.Metered) (h : exec c s = .next t) : t.Metered := by
  cases c with
  | powerUp => exact Host.Outcome.next.inj h ▸ resetState_metered .power hs
  | resetLine => exact whilePowered_metered hs (resetState_metered .line) h
  | powerLoss => exact whilePowered_metered hs losePower_metered h
  | controllerFrameReceived f =>
    exact whilePowered_metered (f := fun s => s.onLink fun l => ({ l with controllerRx := .hunt } : Link).takeIn f) hs
      id h
  | gapTimeout p | lineBreak p => exact whilePowered_metered (f := fun s => s.onLink (dropAssembly p)) hs id h
  | characterReceived p c =>
    cases p with
    | controller => exact whilePowered_metered (f := fun s => s.onLink (controllerChar c)) hs id h
    | trunk => exact roofCommand_metered hs (trunkChar_trunkServed c s).metered h
  | replyTransmitStart => exact whilePowered_metered hs beginReply_metered h
  | replyTransmitEnd => exact whilePowered_metered hs endReply_metered h
  | trunkArbitration => exact roofCommand_metered hs (arbitrateTrunk_trunkServed s).metered h
  | turnaroundEnd => exact whilePowered_metered hs (turnaroundEnds_trunkServed s).metered h
  | attemptSent => exact whilePowered_metered hs (attemptEnds_trunkServed s).metered h
  | trunkFrameReceived f =>
    refine roofCommand_metered (f := fun s => if s.link.trunk.isSending then s
      else trunkFrame f (s.onLink fun l => { l with trunkRx := .hunt, quiet := false })) hs (fun hs => ?_) h
    split
    · exact hs
    · exact (trunkFrame_trunkServed f (s.onLink _)).metered hs
  | replyTimeout => exact roofCommand_metered hs (replyTimerEnds_trunkServed s).metered h
  | secondsTick => exact roofCommand_metered (f := tick) hs id h
  | offWindowsElapsed u i =>
    exact roofCommand_metered (f := fun s => s.onPlant fun e p => offWindowsEnd e u i p) hs id h
  | minimumOnEnd u i => exact roofCommand_metered (f := fun s => s.onRoof fun e => minimumOnEnds e u i) hs id h
  | blankingWindowEnd u => exact roofCommand_metered (f := fun s => s.onRoof fun e => blankingEnds e u) hs id h
  | admissionPass => exact roofCommand_metered (f := fun s => s.onRoof admissionPass) hs id h
  | entryAging => exact whilePowered_metered (f := fun s => s.onPlant ageQueue) hs id h
  | staggerTimerEnd =>
    exact whilePowered_metered (f := fun s => { s with plant :=
      { s.plant with staggerEnd := clearReached s.seconds s.plant.staggerEnd } }) hs id h
  | stepTimerEnd =>
    exact whilePowered_metered (f := fun s => { s with shed :=
      { s.shed with stepEnd := clearReached s.seconds s.shed.stepEnd } }) hs id h
  | restoreHoldEnd =>
    exact whilePowered_metered (f := fun s => { s with shed :=
      { s.shed with hold := holdReached s.seconds s.shed.hold } }) hs id h
  | demandSample => exact roofCommand_metered (f := fun s => takeSample (installPending s)) hs demandSample_metered h
  | shedReaction => exact roofCommand_metered hs react_metered h
  | drEventExpiry => exact roofCommand_metered hs expireJobEvent_metered h
  | inputLineChange w closed => exact Host.Outcome.next.inj h ▸ hs
  | debounceExpiry w => exact roofCommand_metered hs (debounceEnds_metered w) h
  | storeEnd equal => exact roofCommand_metered hs (storeEnds_metered equal) h
  | sessionIdleExpiry => exact whilePowered_metered hs expireSession_metered h
  | identify | readRoof | readQueue | readNotices | readCaptures =>
    exact jobCommand_metered hs (fun p _ hr => reading_metered p hr _) h
  | readUnit => exact jobCommand_metered hs (fun p _ => readUnitJob_metered p) h
  | readStage => exact jobCommand_metered hs (fun p _ => readStageJob_metered p) h
  | readHistory => exact jobCommand_metered hs (fun p _ => readHistoryJob_metered p) h
  | readErrors => exact jobCommand_metered hs (fun p _ => readErrorsJob_metered p) h
  | clearPeak => exact jobCommand_metered hs (fun p _ => clearPeakJob_metered p) h
  | discardCaptures => exact jobCommand_metered hs (fun p _ => discardCapturesJob_metered p) h
  | ackNotices => exact roofJobCommand_metered hs (fun p _ => ackNoticesJob_metered p) h
  | clearTrip => exact roofJobCommand_metered hs (fun p _ => clearTripJob_metered p) h
  | forceStage => exact roofJobCommand_metered hs (fun p _ => forceStageJob_metered p) h
  | isolate => exact roofJobCommand_metered hs (fun p _ => isolateJob_metered p) h
  | restore => exact roofJobCommand_metered hs (fun p _ => restoreJob_metered p) h
  | drBegin => exact roofJobCommand_metered hs (fun p _ => drBeginJob_metered p) h
  | drEnd => exact roofJobCommand_metered hs (fun p _ => drEndJob_metered p) h
  | openEdit => exact jobCommand_metered hs (fun p _ => openEditJob_metered p) h
  | selectTable => exact editCommand_metered hs (fun p _ => selectJob_metered p) h
  | seek => exact editCommand_metered hs (fun p _ => seekJob_metered p) h
  | writeRecord | exchange => exact editCommand_metered hs (fun p _ hr => writing_metered p hr _ _) h
  | readAt => exact editCommand_metered hs (fun p _ => readAtJob_metered p) h
  | applyTables => exact editCommand_metered hs (fun p _ => applyJob_metered p) h
  | abandon => exact editCommand_metered hs (fun p _ => abandonJob_metered p) h
  | storeConfig => exact jobCommand_metered hs (fun p _ => storeConfigJob_metered p) h
  | restart =>
    exact whilePowered_metered hs (fun hs => keptByAnswers_metered.serveWith hs (before := id) hs
      (fun p _ => restartJob_metered p) true 0x41) h
  | badJobCode => exact whilePowered_metered hs keptByAnswers_metered.serveUnnamed h

/-- Settles O28: only the sample and the closes move the interval's registers; a sample keeps them within the peak for
whatever interval length the tables then give, and a close opens the next interval at the latest power. -/
theorem forecastNeverExceedsIntervalPeak : Obligations.ForecastNeverExceedsIntervalPeak :=
  fun _ _ _ hb hm h => exec_metered ⟨hb, hm⟩ h

end Sys2Proof.Machine

namespace Sys2Proof.Machine

/-! ## The close of an interval (R104 to R110) -/

/-- R98: the registers behind a sample whose count stays within 16 bits. -/
theorem sampleMeter_next (T P : Nat) {m : Meter} (h : m.clock < 65535) :
    sampleMeter T P m = { m with
      power := P
      energy := m.energy + P
      clock := m.clock + 1
      peak := max m.peak P
      forecast := forecastOf (m.clock + 1) (m.energy + P) T P } := by
  have hclock : satAdd 65535 m.clock 1 = m.clock + 1 := by
    rw [satAdd]
    omega
  rw [sampleMeter]
  simp only [hclock]

/-- R104: a FREE_RUN interval that has reached its length closes. -/
theorem testClose_freeRun_end {s : State} (hmode : s.tables.roof.syncMode = .freeRun)
    (h : s.tables.roof.intervalLength ≤ s.meter.clock) : testClose s = closeInterval .freeRun s := by
  have hend : closeTest s.tables.roof s.meter.clock = some .freeRun := by
    rw [closeTest, hmode]
    exact if_pos h
  rw [testClose, hend]

/-- R106: a METER_SYNC interval that has reached its length plus the grace closes for want of an edge. -/
theorem testClose_meterSync_end {s : State} (hmode : s.tables.roof.syncMode = .meterSync)
    (h : s.tables.roof.intervalLength + s.tables.roof.syncGrace ≤ s.meter.clock) : testClose s = closeMissing s := by
  have hend : closeTest s.tables.roof s.meter.clock = some .syncMissing := by
    rw [closeTest, hmode]
    exact if_pos h
  rw [testClose, hend]

/-- R107 steps 1 and 2: an interval with at least one sample is recorded. -/
theorem recordClose_sampled (cause : CloseCause) (now : Nat) {m : Meter} (h : m.clock ≠ 0) :
    recordClose cause now m = { m with
      history := (⟨m.energy / m.clock, m.clock, m.peak, m.shedPeak, cause⟩ :: m.history).take 8
      peakRecord := examinePeak (m.energy / m.clock) now m.peakRecord } := if_neg h

/-- R107, R178: a close moves the meter, the sync-missing flag and the notices. -/
theorem closeInterval_eq (cause : CloseCause) (s : State) :
    closeInterval cause s = { s with
      meter := openInterval s.shed.level (recordClose cause s.seconds s.meter)
      lines := { s.lines with syncMissing := if cause = .sync then false else s.lines.syncMissing }
      notices := (closeInterval cause s).notices } := by
  unfold closeInterval
  dsimp only
  split <;> rfl

theorem closeInterval_meter (cause : CloseCause) (s : State) :
    (closeInterval cause s).meter = openInterval s.shed.level (recordClose cause s.seconds s.meter) :=
  congrArg State.meter (closeInterval_eq cause s)

theorem closeInterval_lines (cause : CloseCause) (s : State) :
    (closeInterval cause s).lines =
      { s.lines with syncMissing := if cause = .sync then false else s.lines.syncMissing } :=
  congrArg State.lines (closeInterval_eq cause s)

theorem closeInterval_plant (cause : CloseCause) (s : State) : (closeInterval cause s).plant = s.plant := by
  rw [closeInterval_eq]

theorem closeInterval_shed (cause : CloseCause) (s : State) : (closeInterval cause s).shed = s.shed := by
  rw [closeInterval_eq]

theorem closeInterval_tables (cause : CloseCause) (s : State) : (closeInterval cause s).tables = s.tables := by
  rw [closeInterval_eq]

theorem closeMissing_meter (s : State) :
    (closeMissing s).meter = openInterval s.shed.level (recordClose .syncMissing s.seconds s.meter) :=
  closeInterval_meter ..

theorem closeMissing_lines (s : State) : (closeMissing s).lines = { s.lines with syncMissing := true } :=
  closeInterval_lines ..

theorem closeMissing_plant (s : State) : (closeMissing s).plant = s.plant := closeInterval_plant ..

/-- R98: the command of a sample with no apply pending, from its close test on. -/
theorem exec_demandSample_tested {s : State} (hready : Ready s) (hsession : s.jobs.session.state ≠ .applying)
    (hplant : (testClose (sampled s)).plant = (sampled s).plant) :
    exec .demandSample s = .next (driveOutputs (leaveForecast (testClose (sampled s)))) := by
  obtain ⟨hpow, hpass⟩ := hready
  have hidle : (leaveForecast (testClose (sampled s))).plant.passDue = false :=
    (congrArg Plant.passDue hplant).trans hpass
  rw [exec_demandSample hpow, installPending_none hsession, takeSample_eq, conclude_no_pass _ hidle]

/-- R107 step 4, R122: the meter that a closing sample leaves. -/
theorem leaveForecast_meter_of_close {s : State} {level : Nat} {m : Meter} (h : s.meter = openInterval level m) :
    (leaveForecast s).meter = { openInterval level m with sampleForecast := m.power } := by
  rw [leaveForecast, h]
  rfl

/-- R109: the first close of a peak-interval record that is empty. -/
theorem examinePeak_none (a now : Nat) : examinePeak a now none = some ⟨a, now⟩ := rfl

/-- R109: a held record gives way to a higher average only. -/
theorem examinePeak_some (a now : Nat) (q : PeakRec) :
    examinePeak a now (some q) = some (if q.average < a then ⟨a, now⟩ else q) :=
  (apply_ite some ..).symm

/-- Settles O27: the close test of the sample that reaches the interval's end, and the meter that each close opens. -/
theorem sampleAtIntervalEndCloses : Obligations.SampleAtIntervalEndCloses := by
  refine ⟨?freeRun, ?syncMissing⟩
  case freeRun =>
    intro s hready hsession hmode hend hlength P A
    have hsample := sampleMeter_next s.tables.roof.intervalLength P (show s.meter.clock < 65535 by omega)
    have hclock : (sampled s).meter.clock = s.tables.roof.intervalLength :=
      (congrArg Meter.clock hsample).trans hend
    have hclose : testClose (sampled s) = closeInterval .freeRun (sampled s) :=
      testClose_freeRun_end hmode hclock.ge
    have hcommand := exec_demandSample_tested hready hsession (by rw [hclose, closeInterval_plant])
    rw [hclose] at hcommand
    have hmeter := leaveForecast_meter_of_close (closeInterval_meter .freeRun (sampled s))
    rw [recordClose_sampled _ _ (hclock.trans_ne (by omega)), hclock] at hmeter
    refine ⟨_, hcommand, ?_⟩
    rw [driveOutputs_meter, hmeter, driveOutputs_shed, driveOutputs_tables, driveOutputs_syncMissing]
    refine ⟨rfl, rfl, rfl, rfl, rfl, rfl, rfl, rfl, fun hnone => ?_, fun q hq => ?_,
      closeInterval_shed .., closeInterval_tables .., congrArg Lines.syncMissing (closeInterval_lines ..)⟩
    · exact (congrArg (examinePeak A s.seconds) hnone).trans (examinePeak_none ..)
    · exact (congrArg (examinePeak A s.seconds) hq).trans (examinePeak_some ..)
  case syncMissing =>
    intro s hready hsession hmode hend hlength hgrace
    let P := roofPower s.env s.plant
    have hsample := sampleMeter_next s.tables.roof.intervalLength P (show s.meter.clock < 65535 by omega)
    have hclock : (sampled s).meter.clock = s.meter.clock + 1 := congrArg Meter.clock hsample
    have hclose : testClose (sampled s) = closeMissing (sampled s) :=
      testClose_meterSync_end hmode (hend.ge.trans hclock.ge)
    have hcommand := exec_demandSample_tested hready hsession (by rw [hclose, closeMissing_plant])
    rw [hclose] at hcommand
    have hmeter := leaveForecast_meter_of_close (closeMissing_meter (sampled s))
    rw [recordClose_sampled _ _ (hclock.trans_ne (Nat.succ_ne_zero _)), hclock] at hmeter
    refine ⟨_, ⟨(s.meter.energy + P) / (s.meter.clock + 1), s.meter.clock + 1, max s.meter.peak P, s.meter.shedPeak,
      .syncMissing⟩, hcommand, congrArg Lines.syncMissing (closeMissing_lines _), ?_⟩
    rw [driveOutputs_meter, hmeter]
    exact ⟨rfl, rfl, rfl, rfl, rfl⟩

end Sys2Proof.Machine

namespace Sys2Proof.Machine

/-! ## Records in a reply's payload (11.7) -/

/-- A record stands in a payload from an offset on. -/
def RecordAt (p : List Byte) (i : Nat) (r : List Byte) : Prop := ∀ j < r.length, byteAt p (i + j) = byteAt r j

section
variable {p r : List Byte} {i j n : Nat} (h : RecordAt p i r)
include h

theorem RecordAt.byteAt_eq (hj : j < r.length) (hn : n = i + j) : byteAt p n = byteAt r j := hn ▸ h j hj

theorem RecordAt.u8At_eq (hj : j < r.length) (hn : n = i + j) : u8At p n = u8At r j :=
  congrArg BitVec.toNat (h.byteAt_eq hj hn)

theorem RecordAt.u16At_eq (hj : j + 1 < r.length) (hn : n = i + j) : u16At p n = u16At r j := by
  rw [u16At, u16At, h.u8At_eq (Nat.lt_of_succ_lt hj) hn, h.u8At_eq hj (hn ▸ Nat.add_assoc ..)]

theorem RecordAt.u32At_eq (hj : j + 3 < r.length) (hn : n = i + j) : u32At p n = u32At r j := by
  rw [u32At, u32At, h.u16At_eq (j := j) (by omega) hn, h.u16At_eq (j := j + 2) (by omega) (by omega)]

end

/-- Records of one length follow one another. -/
theorem length_flatMap_records {α : Type} {f : α → List Byte} {m : Nat} (hf : ∀ x, (f x).length = m) (l : List α) :
    (l.flatMap f).length = m * l.length := by
  simp [List.length_flatMap, hf, Nat.mul_comm]

theorem byteAt_append_middle (a l b : List Byte) {j : Nat} (hj : j < l.length) :
    byteAt (a ++ (l ++ b)) (a.length + j) = byteAt l j := by
  simp [byteAt, List.getElem?_append_right, List.getElem?_append_left hj]

/-- The record of an entry's place, behind a head of `n` bytes. -/
theorem recordAt_flatMap {α : Type} {f : α → List Byte} {m n k i : Nat} {l : List α} {x : α}
    (hf : ∀ x, (f x).length = m) (hx : l[k]? = some x) {a : List Byte} (ha : a.length = n) (hi : i = n + m * k) :
    RecordAt (a ++ l.flatMap f) i (f x) := by
  obtain ⟨hk, hxk⟩ := List.getElem?_eq_some_iff.1 hx
  have hsplit : l = l.take k ++ x :: l.drop (k + 1) := by
    rw [← hxk, List.cons_getElem_drop_succ, List.take_append_drop]
  have hfront : (a ++ (l.take k).flatMap f).length = i := by
    rw [List.length_append, length_flatMap_records hf, List.length_take_of_le hk.le, ha, hi]
  intro j hj
  rw [← hfront, hsplit, List.flatMap_append, List.flatMap_cons, ← List.append_assoc, ← hsplit]
  exact byteAt_append_middle _ _ _ hj

/-- 11.9: a 16-bit field carries the low bits of its value. -/
theorem u16At_le16 (n : Nat) : u16At (le16 n) 0 = n % 65536 := by
  change (BitVec.ofNat 8 n).toNat + 256 * (BitVec.ofNat 8 (n / 256)).toNat = n % 65536
  rw [BitVec.toNat_ofNat, BitVec.toNat_ofNat]
  omega

/-- 11.9: a 32-bit field carries the low bits of its value. -/
theorem u32At_le32 (n : Nat) : u32At (le32 n) 0 = n % 4294967296 := by
  have hhigh : u16At (le32 n) 2 = u16At (le16 (n / 65536)) 0 := by
    rw [le16, Nat.div_div_eq_div_mul]
    rfl
  have hlow : u16At (le32 n) 0 = u16At (le16 n) 0 := rfl
  rw [u32At, hlow, hhigh, u16At_le16, u16At_le16]
  omega

/-- 11.9: a signed 32-bit field carries the two's complement of its value. -/
theorem u32At_leInt32 (v : Int) : BitVec.ofNat 32 (u32At (leInt32 v) 0) = BitVec.ofInt 32 v := by
  rw [leInt32, u32At_le32, Nat.mod_eq_of_lt (BitVec.ofInt 32 v).isLt, BitVec.ofNat_toNat, BitVec.setWidth_eq]

theorem noticeBytes_length (now : Nat) (n : Notice) : (noticeBytes now n).length = 11 := rfl

theorem captureBytes_length (c : Capture) : (captureBytes c).length = 15 := rfl

/-- 11.7: the fields of a notice record, wherever it stands. -/
theorem noticeRecord_fields {p : List Byte} {k now : Nat} {n : Notice}
    (h : RecordAt p (2 + 11 * k) (noticeBytes now n)) :
    u16At p (2 + 11 * k) = (n.kind.code.val + 32 * n.unit + 2048 * n.index.getD 31) % 65536 ∧
    u8At p (4 + 11 * k) = n.count % 256 ∧
    u16At p (5 + 11 * k) = min 65535 (now - n.firstTime) ∧
    u16At p (7 + 11 * k) = min 65535 (now - n.lastTime) ∧
    BitVec.ofNat 32 (u32At p (9 + 11 * k)) = BitVec.ofInt 32 (n.value.getD (-2147483648)) := by
  have hage (held : Nat) : u16At (le16 (ageOf now held)) 0 = min 65535 (now - held) :=
    (u16At_le16 _).trans (Nat.mod_eq_of_lt (Nat.lt_succ_of_le (min_le_left ..)))
  have hlength := noticeBytes_length now n
  refine ⟨?kind, ?count, ?first, ?last, ?value⟩
  case kind => exact (h.u16At_eq (j := 0) (by omega) rfl).trans (u16At_le16 _)
  case count => exact (h.u8At_eq (j := 2) (by omega) (by omega)).trans (BitVec.toNat_ofNat ..)
  case first => exact (h.u16At_eq (j := 3) (by omega) (by omega)).trans (hage _)
  case last => exact (h.u16At_eq (j := 5) (by omega) (by omega)).trans (hage _)
  case value =>
    rw [h.u32At_eq (j := 7) (by omega) (by omega)]
    exact u32At_leInt32 _

theorem ite_eq_mul_toNat (b : Bool) (n : Nat) : (if b then n else 0) = n * b.toNat := by
  cases b <;> simp

/-- A flag is read from the bit it was added as. -/
theorem getLsbD_eq_of_bit {f : Byte} {i n : Nat} {b : Bool} (hi : 2 ^ i = n) (h : f.toNat / n % 2 = b.toNat) :
    f.getLsbD i = b := by
  rw [BitVec.getLsbD, Nat.testBit_eq_decide_div_mod_eq, hi, h]
  cases b <;> rfl

/-- 11.7, R180: the last byte of a capture record. -/
theorem captureFlags {level slot : Nat} (a b c : Bool) (hlevel : level < 8) (hslot : slot < 4) :
    let f := BitVec.ofNat 8 (level + 8 * slot + (if a then 32 else 0) + (if b then 64 else 0) + (if c then 128 else 0))
    f.toNat % 8 = level ∧ f.toNat / 8 % 4 = slot ∧ f.getLsbD 5 = a ∧ f.getLsbD 6 = b ∧ f.getLsbD 7 = c := by
  intro f
  have ha := a.toNat_le
  have hb := b.toNat_le
  have hc := c.toNat_le
  have hvalue : f.toNat = level + 8 * slot + 32 * a.toNat + 64 * b.toNat + 128 * c.toNat := by
    simp only [f, ite_eq_mul_toNat, BitVec.toNat_ofNat]
    omega
  exact ⟨by omega, by omega, getLsbD_eq_of_bit (n := 32) rfl (by omega), getLsbD_eq_of_bit (n := 64) rfl (by omega),
    getLsbD_eq_of_bit (n := 128) rfl (by omega)⟩

/-- 11.7, R180: the fields of a capture record, wherever it stands. -/
theorem captureRecord_fields {p : List Byte} {k : Nat} {c : Capture} (h : RecordAt p (2 + 15 * k) (captureBytes c)) :
    u32At p (2 + 15 * k) = c.time % 4294967296 ∧ u8At p (6 + 15 * k) = c.unit % 256 ∧
    u8At p (7 + 15 * k) = c.tripClass.code ∧ u32At p (8 + 15 * k) = c.sinceStart.getD 0 % 4294967296 ∧
    u16At p (12 + 15 * k) = c.power.getD 0 % 65536 ∧ u16At p (14 + 15 * k) = c.forecast % 65536 ∧
    (c.level < 8 → c.slot.getD 0 < 4 →
      u8At p (16 + 15 * k) % 8 = c.level ∧ u8At p (16 + 15 * k) / 8 % 4 = c.slot.getD 0 ∧
      (byteAt p (16 + 15 * k)).getLsbD 5 = c.slot.isSome ∧
      (byteAt p (16 + 15 * k)).getLsbD 6 = c.sinceStart.isSome ∧
      (byteAt p (16 + 15 * k)).getLsbD 7 = c.power.isSome) := by
  have hlength := captureBytes_length c
  refine ⟨?time, ?unit, ?tripClass, ?sinceStart, ?power, ?forecast, fun hlevel hslot => ?flags⟩
  case time => exact (h.u32At_eq (j := 0) (by omega) rfl).trans (u32At_le32 _)
  case unit => exact (h.u8At_eq (j := 4) (by omega) (by omega)).trans (BitVec.toNat_ofNat ..)
  case tripClass =>
    have hcode : (BitVec.ofNat 8 c.tripClass.code).toNat = c.tripClass.code := by cases c.tripClass <;> rfl
    exact (h.u8At_eq (j := 5) (by omega) (by omega)).trans hcode
  case sinceStart => exact (h.u32At_eq (j := 6) (by omega) (by omega)).trans (u32At_le32 _)
  case power => exact (h.u16At_eq (j := 10) (by omega) (by omega)).trans (u16At_le16 _)
  case forecast => exact (h.u16At_eq (j := 12) (by omega) (by omega)).trans (u16At_le16 _)
  case flags =>
    have hbyte : byteAt p (16 + 15 * k) = byteAt (captureBytes c) 14 := h.byteAt_eq (by omega) (by omega)
    rw [u8At, hbyte]
    exact captureFlags c.slot.isSome c.sinceStart.isSome c.power.isSome hlevel hslot

/-! ## Accepted jobs that touch no queue (R155) -/

/-- R19, R155: an accepted job that leaves the ports is answered and leaves the job queue. -/
theorem serveJob_accepted {s t : State} {req : Frame} {rest : List Frame} {code : Byte} {p results : List Byte}
    {body : List Byte → State → Verdict} (hwaits : JobWaits s req rest (code :: p))
    (hbody : body (code :: p) s = .accepted results t) (hlink : t.link = s.link) :
    serveJob code body s = { t with link := jobAnswered s.link req rest 0x01 (code :: results) } := by
  rw [serveJob_waiting body hwaits, hbody, finishJob, State.onLink, hlink, Link.answerJob_cons hwaits.queue]
  rfl

theorem exec_accepted {c : Instr} {s t : State} {req : Frame} {rest : List Frame} {code : Byte} {p results : List Byte}
    {body : List Byte → State → Verdict} (hcommand : exec c s = whilePowered s (serveJob code body))
    (hwaits : JobWaits s req rest (code :: p)) (hbody : body (code :: p) s = .accepted results t)
    (hlink : t.link = s.link) :
    exec c s = .next { t with link := jobAnswered s.link req rest 0x01 (code :: results) } := by
  rw [hcommand, whilePowered_on _ hwaits.1, serveJob_accepted hwaits hbody hlink]

/-- Settles O44: the readings give the oldest records at their offsets, the acknowledgements drop them. -/
theorem noticeAndCaptureJobsKeepTheirOrder : Obligations.NoticeAndCaptureJobsKeepTheirOrder := by
  intro s req rest
  refine ⟨fun hwaits => ?readNotices, fun n hpass hwaits => ?ackNotices, fun hwaits => ?readCaptures,
    fun n hwaits => ?discardCaptures, fun hwaits => ?clearPeak⟩
  case readNotices =>
    refine ⟨0x11 :: readNoticesBytes s, exec_accepted (body := reading readNoticesBytes) rfl hwaits rfl rfl, ?_, rfl,
      BitVec.toNat_ofNat .., ?_⟩
    · have hrecords := length_flatMap_records (noticeBytes_length s.seconds) (s.notices.take 4)
      rw [List.length_take] at hrecords
      exact (congrArg (· + 2) hrecords).trans (Nat.add_comm ..)
    · intro k n hk hn
      exact noticeRecord_fields (recordAt_flatMap (a := [0x11, BitVec.ofNat 8 s.notices.length])
        (noticeBytes_length s.seconds) ((List.getElem?_take_of_lt hk).trans hn) rfl rfl)
  case ackNotices =>
    let m : State := { s with link := jobAnswered s.link req rest 0x01 [0x12], notices := s.notices.drop n.toNat }
    have hserved : serveJob 0x12 ackNoticesJob s = m :=
      serveJob_accepted (t := { s with notices := s.notices.drop n.toNat }) hwaits rfl rfl
    have hcommand : exec .ackNotices s = .next (driveOutputs m) := by
      rw [← conclude_no_pass m hpass, ← hserved]
      exact roofCommand_on _ hwaits.1
    exact ⟨driveOutputs m, hcommand, rfl, rfl, rfl, rfl, rfl, rfl, rfl, rfl, rfl, (if_pos hwaits.1).symm⟩
  case readCaptures =>
    refine ⟨0x13 :: readCapturesBytes s, exec_accepted (body := reading readCapturesBytes) rfl hwaits rfl rfl, ?_, rfl,
      BitVec.toNat_ofNat .., ?_⟩
    · have hrecords := length_flatMap_records captureBytes_length (s.captures.take 3)
      rw [List.length_take] at hrecords
      exact (congrArg (· + 2) hrecords).trans (Nat.add_comm ..)
    · intro k c hk hc
      exact captureRecord_fields (recordAt_flatMap (a := [0x13, BitVec.ofNat 8 s.captures.length])
        captureBytes_length ((List.getElem?_take_of_lt hk).trans hc) rfl rfl)
  case discardCaptures => exact exec_accepted (body := discardCapturesJob) rfl hwaits rfl rfl
  case clearPeak => exact exec_accepted (body := clearPeakJob) rfl hwaits rfl rfl

end Sys2Proof.Machine

namespace Sys2Proof.Machine

/-! ## What a shutdown leaves stays (R72, R75, R145) -/

/-- R72, R137: a tripped stage stays tripped. -/
def Stage.StaysTripped (a b : Stage) : Prop := a.state.isTripped = true → b.state.isTripped = true

theorem Stage.StaysTripped.of_state {a b : Stage} (h : b.state = a.state) : a.StaysTripped b := fun ha => h ▸ ha

theorem Stage.StaysTripped.of_free {a b : Stage} (h : a.state.isFree = true) : a.StaysTripped b := fun ha => by
  rw [(StageState.isTripped_off ha).2] at h
  cases h

/-- A unit's record before and after work that releases nothing: no cause leaves, no slot is freed, and a fan held off
stays off. -/
structure UnitRec.StaysShut (a b : UnitRec) : Prop where
  causes : ∀ c ∈ a.causes, c ∈ b.causes
  stage : ∀ i : Slot, a.stages[i].StaysTripped b.stages[i]
  fan : fanForcedOff a = true → a.target.fan = false → b.target.fan = false

theorem UnitRec.StaysShut.refl (a : UnitRec) : a.StaysShut a := ⟨fun _ => id, fun _ => id, fun _ => id⟩

theorem fanForcedOff_of_causes {a b : UnitRec} (hcauses : ∀ c ∈ a.causes, c ∈ b.causes) (h : fanForcedOff a = true) :
    fanForcedOff b = true := by
  obtain ⟨c, hc, hholds⟩ := List.any_eq_true.1 h
  exact List.any_eq_true.2 ⟨c, hcauses c hc, hholds⟩

theorem UnitRec.StaysShut.trans {a b c : UnitRec} (h : a.StaysShut b) (k : b.StaysShut c) : a.StaysShut c where
  causes d hd := k.causes d (h.causes d hd)
  stage i ha := k.stage i (h.stage i ha)
  fan hoff ha := k.fan (fanForcedOff_of_causes h.causes hoff) (h.fan hoff ha)

/-- Work on the stages of a unit alone. -/
theorem UnitRec.staysShut_mapStages {r : UnitRec} {f : Slot → Stage → Stage}
    (h : ∀ i : Slot, r.stages[i].StaysTripped (f i r.stages[i])) : r.StaysShut (r.mapStages f) where
  causes _ := id
  stage i := by
    rw [UnitRec.mapStages_stages]
    exact h i
  fan _ := id

/-- The plant before and after work that releases nothing: so for every unit, and every pending injection stays. -/
structure Plant.StaysShut (p q : Plant) : Prop where
  unit : ∀ v : UnitIx, (p.unit v).StaysShut (q.unit v)
  injections : p.InjectionsStay q

theorem Plant.StaysShut.of_units {p q : Plant} (hunits : q.units = p.units := by rfl)
    (hinjections : p.InjectionsStay q := by exact .of_eq) : p.StaysShut q where
  unit v := by
    rw [Plant.unit_congr hunits]
    exact .refl _
  injections := hinjections

theorem Plant.StaysShut.refl (p : Plant) : p.StaysShut p := .of_units

theorem Plant.StaysShut.trans {p q r : Plant} (h : p.StaysShut q) (k : q.StaysShut r) : p.StaysShut r :=
  ⟨fun v => (h.unit v).trans (k.unit v), h.injections.trans k.injections⟩

theorem Plant.staysShut_modUnit {p : Plant} {u : UnitIx} {f : UnitRec → UnitRec}
    (h : (p.unit u).StaysShut (f (p.unit u))) : p.StaysShut (p.modUnit u f) where
  unit v := by
    rw [Plant.unit_modUnit]
    split
    · next hv => exact hv ▸ h
    · exact .refl _
  injections := .of_eq

/-! ### The sequencer -/

theorem Stage.Reselected.staysTripped {a b : Stage} (h : a.Reselected b) : a.StaysTripped b := by
  rcases h with rfl | ⟨hfree, -⟩
  · exact id
  · exact .of_free hfree

theorem reselect_staysShut (u : UnitIx) (p : Plant) : p.StaysShut (reselect u p) :=
  Plant.staysShut_modUnit
    { causes := fun _ => id, stage := fun i => (selectQueued_reselected _ _ _ i).staysTripped, fan := fun _ => id }

/-- R75: no map that follows from the stage records has the fan on while a cause holds it off. -/
theorem scheduledMap_fan_off {r : UnitRec} (h : fanForcedOff r = true) : (scheduledMap r).fan = false := by
  rw [scheduledMap, h]
  rfl

theorem writeTarget_staysShut (prot : Bool) {u : UnitIx} {m : StageMap} {p : Plant}
    (h : fanForcedOff (p.unit u) = true → m.fan = false) : p.StaysShut (writeTarget prot u m p) := by
  unfold writeTarget
  split
  · exact .refl p
  · have hwrite : p.StaysShut (p.modUnit u fun r => { r with target := m, fresh := false }) :=
      Plant.staysShut_modUnit { causes := fun _ => id, stage := fun _ => id, fan := fun hoff _ => h hoff }
    dsimp only
    split
    · exact hwrite.trans (.of_units rfl (Plant.injectionsStay_inject ..))
    · exact hwrite

theorem refreshTarget_staysShut (prot : Bool) (u : UnitIx) (p : Plant) : p.StaysShut (refreshTarget prot u p) := by
  unfold refreshTarget
  split
  · exact writeTarget_staysShut prot scheduledMap_fan_off
  · exact writeTarget_staysShut prot scheduledMap_fan_off
  · exact writeTarget_staysShut prot scheduledMap_fan_off
  · exact .refl p
  · exact .refl p

theorem moveUnit_staysShut (e : Env) (u : UnitIx) {f : Plant → Plant} {r : Roof} (h : r.plant.StaysShut (f r.plant)) :
    r.plant.StaysShut (moveUnit e u f r).plant := by
  rcases moveUnit_plant e u f r with hp | ⟨order, hp⟩
  · rwa [hp]
  · rw [hp]
    exact h.trans (Plant.staysShut_modUnit { causes := fun _ => id, stage := fun _ => id, fan := fun _ => id })

theorem examine_staysShut (e : Env) (u : UnitIx) (k : Kind) (p : Plant) : p.StaysShut (examine e u k p) :=
  .of_units (examine_units ..) (examine_injectionsStay ..)

theorem examineUnit_staysShut (e : Env) (u : UnitIx) (r : Roof) : r.plant.StaysShut (examineUnit e u r).plant :=
  moveUnit_staysShut e u (((examine_staysShut ..).trans (examine_staysShut ..)).trans (reselect_staysShut ..))

/-- R69: a settlement moves no stage that is off. -/
theorem settleStage_staysTripped (e : Env) (u : UnitIx) (r : UnitRec) (i : Slot) (st : Stage) :
    st.StaysTripped (settleStage e u r i st) := by
  intro htripped
  rwa [settleStage, (StageState.isTripped_off htripped).1]

theorem settle_staysShut (e : Env) (u : UnitIx) (r : Roof) : r.plant.StaysShut (settle e u r).plant := by
  unfold settle
  split
  · have hmarks : r.plant.StaysShut (moveUnit e u (fun p => p.modUnit u (settleMarks e u)) r).plant :=
      moveUnit_staysShut e u (Plant.staysShut_modUnit
        (UnitRec.staysShut_mapStages fun i => settleStage_staysTripped e u _ i _))
    refine hmarks.trans (Plant.StaysShut.trans ?_ (examineUnit_staysShut ..))
    exact refreshTarget_staysShut ..
  · exact .refl _

/-- R72: a stage that is tripped is not released by a further trip. -/
theorem tripStage_staysTripped (now minOff : Nat) (causes : List Cause) (i : Slot) (st : Stage) :
    st.StaysTripped (tripStage now minOff causes i st) := by
  cases hts : trippedState causes i with
  | none =>
    rw [tripStage, hts]
    exact id
  | some ts =>
    intro _
    rw [(tripStage_trippedAt now minOff st hts).state]
    exact trippedState_isTripped hts

theorem tripSlots_staysShut (e : Env) (u : UnitIx) (scope : Slot → Bool) (r : Roof) :
    r.plant.StaysShut (tripSlots e u scope r).plant := by
  have htrip : r.plant.StaysShut (moveUnit e u (fun p => p.modUnit u (tripRecord e u scope)) r).plant := by
    refine moveUnit_staysShut e u (Plant.staysShut_modUnit (UnitRec.staysShut_mapStages fun i => ?_))
    split
    · exact tripStage_staysTripped _ _ _ i _
    · exact id
  rw [tripSlots_eq]
  refine htrip.trans (Plant.StaysShut.trans ?_ (settle_staysShut ..))
  exact refreshTarget_staysShut ..

/-! ### The admission unit -/

/-- R64: a grant starts a stage that is free. -/
theorem grantedPlant_staysShut (e : Env) {u : UnitIx} {i : Slot} (pr : Profile) {p : Plant}
    (h : (p.unit u).stages[i].state.isFree = true) : p.StaysShut (grantedPlant e u i pr p) := by
  have hcounted : p.StaysShut (countedGrant e u pr p) := .of_units
  have hstart : (countedGrant e u pr p).StaysShut ((countedGrant e u pr p).modUnit u (startRecord e.now pr i)) := by
    refine Plant.staysShut_modUnit { causes := fun _ => id, stage := fun j => ?_, fan := fun _ => id }
    rw [startRecord_stages]
    split
    · next hj => exact .of_free (hj ▸ h)
    · exact id
  exact hcounted.trans (hstart.trans (refreshTarget_staysShut ..))

theorem grantSlot_staysShut (e : Env) {u : UnitIx} {i : Slot} (pr : Profile) {r : Roof}
    (h : (r.plant.unit u).stages[i].state.isFree = true) : r.plant.StaysShut (grantSlot e u i pr r).plant :=
  (grantedPlant_staysShut e pr h).trans (settle_staysShut e u (r.onPlant (grantedPlant e u i pr)))

theorem requeue_staysShut (e : Env) (u : UnitIx) (k : Kind) (p : Plant) : p.StaysShut (requeue e u k p) := by
  unfold requeue
  split
  · exact .refl p
  · exact Plant.StaysShut.trans .of_units (reselect_staysShut u _)

theorem grantEntry_staysShut (e : Env) (n : Entry) (r : Roof) : r.plant.StaysShut (grantEntry e n r).plant := by
  unfold grantEntry
  split
  · exact .refl _
  · next i hqueued =>
    split
    · exact .refl _
    · refine (grantSlot_staysShut e _ ?_).trans (requeue_staysShut ..)
      rw [queuedSlot_state hqueued]
      rfl

theorem admissionPass_staysShut (e : Env) (r : Roof) : r.plant.StaysShut (admissionPass e r).plant := by
  unfold admissionPass
  split
  · next hmanual =>
    obtain ⟨⟨-, hfree, -⟩, -⟩ := manualReady_eq_some_iff.1 (manualReady_of_firstManual hmanual)
    exact grantSlot_staysShut e _ hfree
  · dsimp only
    split
    · exact .of_units
    · exact Plant.StaysShut.trans .of_units (grantEntry_staysShut ..)

theorem runPasses_staysShut (e : Env) (n : Nat) (r : Roof) : r.plant.StaysShut (runPasses e n r).plant := by
  induction n generalizing r with
  | zero => exact .of_units
  | succ n ih =>
    unfold runPasses
    split
    · exact (Plant.StaysShut.trans .of_units (admissionPass_staysShut ..)).trans (ih _)
    · exact .refl _

theorem conclude_staysShut (s : State) : s.plant.StaysShut (conclude s).plant := by
  unfold conclude passAfterJoin
  split
  · exact runPasses_staysShut s.env 64 s.roof
  · exact .of_units

/-! ## Roof shutdown, unit by unit (R145) -/

/-- What R145 asks of a unit that the shutdown finds without the cause: its bound slots tripped, its fan off, and a
protection injection while it is ONLINE. -/
structure Plant.ShutAt (e : Env) (u : UnitIx) (p : Plant) : Prop where
  held : holdsCause (p.unit u) .shutdown none = true
  tripped : ∀ i : Slot, (e.cfg u).bound i = true → (p.unit u).stages[i].state.isTripped = true
  fan : (p.unit u).state.isSettled = true → (p.unit u).target.fan = false
  injected : (p.unit u).state = .online → u ∈ p.injections ∧ u ∈ p.protection

theorem holdsCause_of_causes {a b : UnitRec} {cls : TripClass} {pos : Option Nat}
    (hcauses : ∀ c ∈ a.causes, c ∈ b.causes) (h : holdsCause a cls pos = true) : holdsCause b cls pos = true := by
  obtain ⟨c, hc, hof⟩ := List.any_eq_true.1 h
  exact List.any_eq_true.2 ⟨c, hcauses c hc, hof⟩

/-- R137, R145: the SHUTDOWN cause holds the fan off. -/
theorem fanForcedOff_of_shutdown {r : UnitRec} (h : holdsCause r .shutdown none = true) : fanForcedOff r = true := by
  obtain ⟨c, hc, hof⟩ := List.any_eq_true.1 h
  exact List.any_eq_true.2 ⟨c, hc, by simp [((Cause.isOf_iff ..).1 hof).1]⟩

/-- A unit that is shut stays so under work that releases nothing and leaves its state. -/
theorem Plant.ShutAt.stays {e : Env} {u : UnitIx} {p q : Plant} (h : p.ShutAt e u) (k : p.StaysShut q)
    (hstate : (q.unit u).state = (p.unit u).state) : q.ShutAt e u where
  held := holdsCause_of_causes (k.unit u).causes h.held
  tripped i hi := (k.unit u).stage i (h.tripped i hi)
  fan hs := (k.unit u).fan (fanForcedOff_of_shutdown h.held) (h.fan (hstate ▸ hs))
  injected hs := by
    obtain ⟨hinjected, hmarked⟩ := h.injected (hstate ▸ hs)
    exact ⟨k.injections.injections u hinjected, k.injections.protection u hmarked⟩

theorem holdShutdown_unit (e : Env) (u : UnitIx) (r : Roof) : (holdShutdown e u r).plant.unit u =
    { r.plant.unit u with causes := (r.plant.unit u).causes ++ [shutdownCause e.now] } := Plant.unit_modUnit_self ..

theorem holdShutdown_staysShut (e : Env) (u : UnitIx) (r : Roof) : r.plant.StaysShut (holdShutdown e u r).plant :=
  Plant.staysShut_modUnit (f := fun x => { x with causes := x.causes ++ [shutdownCause e.now] })
    { causes := fun _ => List.mem_append_left _, stage := fun _ => id, fan := fun _ => id }

theorem injectShutdown_staysShut (u : UnitIx) (p : Plant) : p.StaysShut (injectShutdown u p) := by
  unfold injectShutdown
  split
  · exact .of_units rfl (Plant.injectionsStay_inject ..)
  · exact .refl p

theorem enterShutdown_staysShut (e : Env) (u : UnitIx) (r : Roof) : r.plant.StaysShut (enterShutdown e u r).plant := by
  cases hheld : holdsCause (r.plant.unit u) .shutdown none with
  | true =>
    rw [enterShutdown, if_pos hheld]
    exact .refl _
  | false =>
    rw [enterShutdown_eq hheld]
    exact (holdShutdown_staysShut ..).trans ((tripSlots_staysShut ..).trans (injectShutdown_staysShut ..))

theorem holdsCause_enterShutdown (e : Env) (u : UnitIx) (r : Roof) :
    holdsCause ((enterShutdown e u r).plant.unit u) .shutdown none = true := by
  cases hheld : holdsCause (r.plant.unit u) .shutdown none with
  | true => rwa [enterShutdown, if_pos hheld]
  | false =>
    have hentered : holdsCause ((holdShutdown e u r).plant.unit u) .shutdown none = true := by
      rw [holdShutdown_unit]
      exact List.any_eq_true.2 ⟨shutdownCause e.now, by simp, rfl⟩
    have hstays := (tripSlots_staysShut e u (fun _ => true) (holdShutdown e u r)).trans (injectShutdown_staysShut u _)
    rw [enterShutdown_eq hheld]
    exact holdsCause_of_causes (hstays.unit u).causes hentered

/-- R31: an injection asked for as protection is marked. -/
theorem Plant.mem_protection_inject_true (p : Plant) (u : UnitIx) : u ∈ (p.inject u true).protection := by
  by_cases hmarked : u ∈ p.protection
  · exact (Plant.injectionsStay_inject p u true).protection u hmarked
  · exact (Plant.mem_protection_inject hmarked).2 rfl

/-- R69, R75: a settlement leaves the fan off where a cause holds it off. -/
theorem settle_fan_off (e : Env) {u : UnitIx} {r : Roof} (hs : (r.plant.unit u).state.isSettled = true)
    (h : fanForcedOff (r.plant.unit u) = true) : ((settle e u r).plant.unit u).target.fan = false := by
  obtain ⟨htarget, -⟩ := settle_unit e hs
  rw [htarget]
  exact scheduledMap_fan_off ((fanForcedOff_congr (settleMarks_moves ..).causes).trans h)

theorem tripSlots_fan_off (e : Env) {u : UnitIx} (scope : Slot → Bool) {r : Roof}
    (hs : (r.plant.unit u).state.isSettled = true) (h : fanForcedOff (r.plant.unit u) = true) :
    ((tripSlots e u scope r).plant.unit u).target.fan = false := by
  have hmoves := (moveUnit_moves e u (fun p => p.modUnit u (tripRecord e u scope)) r
    (Plant.moves_modUnit (UnitRec.movesTo_mapStages ..))).trans (refreshTarget_moves true u _)
  rw [tripSlots_eq]
  exact settle_fan_off e ((congrArg _ (hmoves.unit u).state).trans hs)
    ((fanForcedOff_congr (hmoves.unit u).causes).trans h)

/-- R72, R145: the unit behind the entry of its SHUTDOWN cause. -/
theorem enterShutdown_shutAt (e : Env) {u : UnitIx} {r : Roof}
    (h : holdsCause (r.plant.unit u) .shutdown none = false) : (enterShutdown e u r).plant.ShutAt e u := by
  let q := tripSlots e u (fun _ => true) (holdShutdown e u r)
  have hplant : (enterShutdown e u r).plant = injectShutdown u q.plant := by rw [enterShutdown_eq h, Roof.onPlant_plant]
  have hunit : (enterShutdown e u r).plant.unit u = q.plant.unit u := by
    rw [hplant, Plant.unit_congr (injectShutdown_units ..)]
  have hheld := holdsCause_enterShutdown e u r
  have hmoves := (tripSlots_moves e u (fun _ => true) (holdShutdown e u r)).unit u
  have hmember : shutdownCause e.now ∈ ((holdShutdown e u r).plant.unit u).causes := by
    rw [holdShutdown_unit]
    exact List.mem_append_right _ (List.mem_singleton_self _)
  refine ⟨hheld, fun i hbound => ?tripped, fun hs => ?fan, fun honline => ?injected⟩
  case tripped =>
    have hcovered := trippedState_covered ⟨_, hmember, (rfl : (shutdownCause e.now).covers i = true)⟩
    obtain ⟨htripped, -, -⟩ := tripSlots_unit e (scope := fun _ => true) hbound rfl hcovered
    rw [hunit, htripped.state]
    exact trippedState_isTripped hcovered
  case fan =>
    rw [hunit] at hs hheld ⊢
    exact tripSlots_fan_off e _ (hmoves.state ▸ hs)
      ((fanForcedOff_congr hmoves.causes.symm).trans (fanForcedOff_of_shutdown hheld))
  case injected =>
    rw [hunit] at honline
    rw [hplant, injectShutdown, if_pos honline]
    exact ⟨Plant.mem_inject .., Plant.mem_protection_inject_true ..⟩

/-- What another unit's shutdown leaves of a unit. -/
structure Roof.ShutsOther (u : UnitIx) (r q : Roof) : Prop where
  moves : (r.plant.unit u).MovesTo (q.plant.unit u)
  stays : r.plant.StaysShut q.plant

theorem Roof.ShutsOther.refl (u : UnitIx) (r : Roof) : r.ShutsOther u r := ⟨.refl _, .refl _⟩

theorem Roof.ShutsOther.trans {u : UnitIx} {r q t : Roof} (h : r.ShutsOther u q) (k : q.ShutsOther u t) :
    r.ShutsOther u t :=
  ⟨h.moves.trans k.moves, h.stays.trans k.stays⟩

theorem holdsCause_congr {a b : UnitRec} (h : b.causes = a.causes) (cls : TripClass) (pos : Option Nat) :
    holdsCause b cls pos = holdsCause a cls pos := by
  rw [holdsCause, h, holdsCause]

/-- R145: an assertion of the shutdown leaves every fitted unit with the cause, and a unit that was without it shut. -/
theorem shutdownAssert_unit (e : Env) {u : UnitIx} (r : Roof) (hf : e.tables.units[u].fitted = true) :
    let q := shutdownAssert e r
    (q.plant.unit u).state = (r.plant.unit u).state ∧ holdsCause (q.plant.unit u) .shutdown none = true ∧
      (holdsCause (r.plant.unit u) .shutdown none = false → q.plant.ShutAt e u) := by
  intro q
  let noted := (r.addCapture e ⟨e.now, 0, .shutdown, none, none, none, e.meter.forecast, e.shed.level⟩).raise e .trip 0
    none (some TripClass.shutdown.code)
  have hnoted : noted.plant = r.plant := addCapture_plant ..
  obtain ⟨m, hbefore, hbehind⟩ := foldl_through (R := Roof.ShutsOther u) (.refl u) (fun _ _ _ => .trans)
    (fun q v => enterShutdown e v q) (fittedUnits_nodup e.tables) ((mem_fittedUnits _ _).2 hf)
    (fun q v _ hv => ⟨enterShutdown_unit_other e (Ne.symm hv) q, enterShutdown_staysShut e v q⟩) noted
  have hstart := hbefore.moves
  rw [hnoted] at hstart
  refine ⟨?_, holdsCause_of_causes (hbehind.stays.unit u).causes (holdsCause_enterShutdown e u m), fun hclear => ?_⟩
  · exact hbehind.moves.state.trans ((enterShutdown_state e u m).trans hstart.state)
  · exact (enterShutdown_shutAt e ((holdsCause_congr hstart.causes ..).trans hclear)).stays hbehind.stays
      hbehind.moves.state

/-! ## The release of a shutdown (R141, R145) -/

theorem leaveShutdown_unit_other (e : Env) {u v : UnitIx} (h : u ≠ v) (r : Roof) :
    (r.plant.unit u).MovesTo ((leaveShutdown e v r).plant.unit u) := by
  unfold leaveShutdown
  split
  · refine UnitRec.MovesTo.trans ?_ ((releaseSlots_moves e v _ _).unit u)
    rw [Roof.onPlant_plant, Plant.unit_modUnit_other _ _ _ _ h]
  · exact .refl _

theorem holdsCause_leaveShutdown (e : Env) (u : UnitIx) (r : Roof) :
    holdsCause ((leaveShutdown e u r).plant.unit u) .shutdown none = false := by
  unfold leaveShutdown
  split
  · refine (holdsCause_congr ((releaseSlots_moves e u _ _).unit u).causes ..).trans ?_
    rw [Roof.onPlant_plant, Plant.unit_modUnit_self]
    simp [holdsCause]
  · next hclear => exact Bool.eq_false_iff.2 hclear

/-- R145: a release leaves no fitted unit with the cause. -/
theorem shutdownRelease_unit (e : Env) {u : UnitIx} (r : Roof) (hf : e.tables.units[u].fitted = true) :
    holdsCause ((shutdownRelease e r).plant.unit u) .shutdown none = false := by
  obtain ⟨m, -, hbehind⟩ := foldl_through (R := fun p q : Roof => (p.plant.unit u).MovesTo (q.plant.unit u))
    (fun _ => .refl _) (fun _ _ _ => .trans) (fun q v => leaveShutdown e v q) (fittedUnits_nodup e.tables)
    ((mem_fittedUnits _ _).2 hf) (fun q v _ hv => leaveShutdown_unit_other e (Ne.symm hv) q)
    (r.raise e .tripCleared 0 none (some TripClass.shutdown.code))
  exact (holdsCause_congr hbehind.causes ..).trans (holdsCause_leaveShutdown e u m)

/-! ## A debounced change at its owner (R105, R119, R120, R145, R175, R176) -/

/-- The state in which a debounced change is delivered: the line's debounced level follows it and the timer is idle. -/
def State.debounced (s : State) (w : InputLine) (i : Input) : State :=
  { s with lines := s.lines.setInput w (inputExpiry i) }

/-- R176: the command of a debounce timer that runs. -/
theorem exec_debounceExpiry {s : State} {w : InputLine} {i : Input} (hpow : s.powered = true)
    (hinput : s.lines.input w = i) (htiming : i.timing = true) :
    exec (.debounceExpiry w) s = .next (conclude (deliver w i.line (s.debounced w i))) := by
  have hends : debounceEnds w s = deliver w i.line (s.debounced w i) := by
    subst hinput
    exact if_pos htiming
  rw [← hends]
  exact roofCommand_on _ hpow

/-- R176: a delivery that leaves the plant moves nothing more than the outputs. -/
theorem exec_debounceExpiry_quiet {s m : State} {w : InputLine} {i : Input} (hready : Ready s)
    (hinput : s.lines.input w = i) (htiming : i.timing = true) (hm : deliver w i.line (s.debounced w i) = m)
    (hplant : m.plant = s.plant) : exec (.debounceExpiry w) s = .next (driveOutputs m) := by
  obtain ⟨hpow, hpass⟩ := hready
  rw [exec_debounceExpiry hpow hinput htiming, hm, conclude_no_pass _ ((congrArg Plant.passDue hplant).trans hpass)]

/-- R105: the edge of a METER_SYNC interval of at least 60 s. -/
theorem syncEdge_closes {s : State} (hmode : s.tables.roof.syncMode = .meterSync) (h : 60 ≤ s.meter.clock) :
    syncEdge s = closeInterval .sync s := by
  rw [syncEdge, hmode]
  exact if_neg (Nat.not_lt.2 h)

/-- R105: the edges that close nothing. -/
theorem syncEdge_ignored {s : State} (h : s.tables.roof.syncMode = .freeRun ∨ s.meter.clock < 60) : syncEdge s = s := by
  unfold syncEdge
  split
  · rfl
  · next hmode =>
    refine if_pos (h.resolve_left fun hfree => ?_)
    rw [hmode] at hfree
    cases hfree

/-- R119: the contact's opening ends its event. -/
theorem openContact_some {s : State} {since : Nat} (h : s.shed.contact = some since) :
    openContact s = (deriveCeiling { s with shed := { s.shed with contact := none } }).raise .drEnd 0 (some 1)
      (some ((s.seconds - since : Nat) : Int)) := by
  rw [openContact, h]

/-- Settles O35: what the meter, the shed controller and the protection unit make of a delivered change. -/
theorem debouncedChangeReachesItsOwner : Obligations.DebouncedChangeReachesItsOwner := by
  intro s hready
  refine ⟨fun hline hmode hclock => ?close, fun hline hopen => ?ignored, fun hline => ?contactCloses,
    fun hline hpresent => ?contactOpens, fun hline => ?asserted, fun hline => ?released⟩
  case close =>
    let d := s.debounced .intervalSync ⟨true, false, true⟩
    have hsampled : d.meter.clock ≠ 0 := Nat.ne_of_gt (Nat.lt_of_lt_of_le (by decide) hclock)
    have hmeter := closeInterval_meter .sync d
    rw [recordClose_sampled _ _ hsampled] at hmeter
    refine ⟨_, exec_debounceExpiry_quiet hready (w := .intervalSync) hline rfl (syncEdge_closes hmode hclock)
      (closeInterval_plant ..), ?_⟩
    rw [driveOutputs_meter, driveOutputs_intervalSync, driveOutputs_syncMissing, hmeter, closeInterval_lines]
    exact ⟨rfl, rfl, rfl, rfl, rfl, rfl, rfl, rfl, rfl⟩
  case ignored =>
    exact ⟨_, exec_debounceExpiry_quiet hready (w := .intervalSync) hline rfl (syncEdge_ignored hopen) rfl, rfl, rfl,
      rfl⟩
  case contactCloses =>
    exact ⟨_, exec_debounceExpiry_quiet hready (w := .drContact) hline rfl rfl rfl, rfl, rfl, rfl, rfl⟩
  case contactOpens =>
    obtain ⟨since, hsince⟩ := Option.isSome_iff_exists.1 hpresent
    exact ⟨_, exec_debounceExpiry_quiet hready (w := .drContact) hline rfl (openContact_some hsince) rfl, rfl, rfl, rfl,
      rfl⟩
  case asserted =>
    let m : State := (s.debounced .roofShutdown ⟨true, false, true⟩).onRoof shutdownAssert
    obtain ⟨-, -, -, -, -, -, -, -, -, -, -, hlines⟩ := conclude_frame m
    refine ⟨conclude m, exec_debounceExpiry hready.1 (w := .roofShutdown) hline rfl,
      congrArg Lines.roofShutdown hlines, fun u hfitted => ?_⟩
    obtain ⟨hstate, hheld, hshut⟩ := shutdownAssert_unit s.env s.roof hfitted
    have hstays := conclude_staysShut m
    have hkept := ((conclude_moves m).unit u).state
    refine ⟨holdsCause_of_causes (hstays.unit u).causes hheld, fun hclear => ?_⟩
    obtain ⟨-, htripped, hfan, hinjected⟩ := (hshut hclear).stays hstays hkept
    have hsame := hkept.trans hstate
    exact ⟨fun hs => hfan ((congrArg UnitState.isSettled hsame).trans hs), fun hs => hinjected (hsame.trans hs),
      htripped⟩
  case released =>
    let m : State := (s.debounced .roofShutdown ⟨false, true, true⟩).onRoof shutdownRelease
    obtain ⟨-, -, -, -, -, -, -, -, -, -, -, hlines⟩ := conclude_frame m
    refine ⟨conclude m, exec_debounceExpiry hready.1 (w := .roofShutdown) hline rfl,
      congrArg Lines.roofShutdown hlines, fun u hfitted => ?_⟩
    exact (holdsCause_congr ((conclude_moves m).unit u).causes ..).trans (shutdownRelease_unit s.env s.roof hfitted)

end Sys2Proof.Machine

namespace Sys2Proof.Machine

/-! ## Caps and mask (R126) -/

/-- A bound is below the least of the chosen values exactly when it is below the start and each chosen value. -/
theorem le_foldl_min_iff {α : Type} (chosen : α → Prop) [DecidablePred chosen] (f : α → Nat) (l : List α) (m x : Nat) :
    x ≤ l.foldl (fun m j => if chosen j then min m (f j) else m) m ↔ x ≤ m ∧ ∀ j ∈ l, chosen j → x ≤ f j := by
  induction l generalizing m with
  | nil => simp
  | cons j l ih =>
    rw [List.foldl_cons, ih, List.forall_mem_cons]
    by_cases hj : chosen j
    · simp [hj, and_assoc]
    · simp [hj]

/-- R126: the caps of the levels reached are the upper bounds of the cap at a level. -/
theorem le_capAt_iff (t : Tables) (level : Nat) (c : Fin 4) (x : Nat) :
    x ≤ capAt t level c ↔ x ≤ 4 ∧ ∀ j : Fin 7, j.val < level → x ≤ t.shed[j].caps[c] := by
  rw [capAt, le_foldl_min_iff (fun j : Fin 7 => j.val < level) fun j : Fin 7 => t.shed[j].caps[c]]
  simp

/-- R126: the cap at a level is one of the caps of the levels reached, where some record has at most 4. -/
theorem capAt_attained {t : Tables} {level : Nat} {c : Fin 4} {i : Fin 7} (hi : i.val < level)
    (h : t.shed[i].caps[c] ≤ 4) : ∃ j : Fin 7, j.val < level ∧ capAt t level c = t.shed[j].caps[c] := by
  obtain ⟨hfour, hbelow⟩ := (le_capAt_iff t level c _).1 le_rfl
  by_contra hnone
  have habove (j : Fin 7) (hj : j.val < level) : capAt t level c + 1 ≤ t.shed[j].caps[c] :=
    (hbelow j hj).lt_of_ne fun heq => hnone ⟨j, hj, heq⟩
  exact Nat.not_succ_le_self _ ((le_capAt_iff t level c _).2 ⟨(habove i hi).trans h, habove⟩)

theorem capAt_zero (t : Tables) (c : Fin 4) : capAt t 0 c = 4 :=
  le_antisymm ((le_capAt_iff t 0 c _).1 le_rfl).1 ((le_capAt_iff t 0 c 4).2 ⟨le_rfl, nofun⟩)

theorem capAt_antitone (t : Tables) (c : Fin 4) {a b : Nat} (h : a ≤ b) : capAt t b c ≤ capAt t a c := by
  obtain ⟨hfour, hbelow⟩ := (le_capAt_iff t b c _).1 le_rfl
  exact (le_capAt_iff t a c _).2 ⟨hfour, fun j hj => hbelow j (hj.trans_le h)⟩

/-- A bit of a union of the chosen masks. -/
theorem getLsbD_foldl_or_iff {α : Type} {w : Nat} (chosen : α → Prop) [DecidablePred chosen] (f : α → BitVec w)
    (l : List α) (m : BitVec w) (i : Nat) :
    (l.foldl (fun m j => if chosen j then m ||| f j else m) m).getLsbD i = true ↔
      m.getLsbD i = true ∨ ∃ j ∈ l, chosen j ∧ (f j).getLsbD i = true := by
  induction l generalizing m with
  | nil => simp
  | cons j l ih =>
    rw [List.foldl_cons, ih, List.exists_mem_cons_iff]
    by_cases hj : chosen j
    · simp [hj, or_assoc]
    · simp [hj]

/-- R126: a bit of the mask at a level. -/
theorem maskAt_getLsbD_iff (t : Tables) (level i : Nat) :
    (maskAt t level).getLsbD i = true ↔ ∃ j : Fin 7, j.val < level ∧ t.shed[j].mask.getLsbD i = true := by
  rw [maskAt, getLsbD_foldl_or_iff (fun j : Fin 7 => j.val < level) fun j : Fin 7 => t.shed[j].mask]
  simp

theorem maskAt_zero (t : Tables) : maskAt t 0 = 0 := by
  refine BitVec.eq_of_getLsbD_eq fun i _ => Bool.eq_iff_iff.2 ?_
  simp [maskAt_getLsbD_iff]

/-- Settles O30: a cap is bounded by the caps of the levels reached and by nothing else, a mask bit is one of theirs. -/
theorem capsFallAndMaskGrowsWithLevel : Obligations.CapsFallAndMaskGrowsWithLevel := by
  refine ⟨fun t c g => ⟨capAt_zero t c, maskAt_zero t, fun k hk _ => ⟨fun hcaps => ⟨?_, ?_⟩, ?_⟩⟩,
    fun t a b c g hab => ⟨capAt_antitone t c hab, fun hbit => ?_⟩, fun _ _ => rfl⟩
  · exact ((le_capAt_iff t k c _).1 le_rfl).2
  · exact capAt_attained (i := 0) hk (hcaps 0)
  · exact maskAt_getLsbD_iff t k g.val
  · obtain ⟨j, hj, hmask⟩ := (maskAt_getLsbD_iff t a g.val).1 hbit
    exact (maskAt_getLsbD_iff t b g.val).2 ⟨j, hj.trans_le hab, hmask⟩

end Sys2Proof.Machine

namespace Sys2Proof.Machine

/-! ## The carrier of a rotation group (R130) -/

/-- R130: the seconds into the period, counted from where the member closes. -/
theorem carrierClosed_iff (r : RotationRec) {epoch now : Nat} (n k : Nat) (h : epoch ≤ now) :
    carrierClosed r epoch now n k = true ↔
      (((now : Int) - epoch) - ((k * ((r.onTime + r.offTime) * 60) / n : Nat) : Int)) %
        (((r.onTime + r.offTime) * 60 : Nat) : Int) < ((r.offTime * 60 : Nat) : Int) := by
  rw [carrierClosed, decide_eq_true_iff, Nat.cast_sub h]

/-- Of any `p` seconds in a row, those less than `o` into a period of `p` are `o`, wherever the period begins. -/
theorem card_filter_emod_lt (x : Int) {p o : Nat} (h : o ≤ p) :
    ((Finset.range p).filter fun d : Nat => (x + d) % (p : Int) < (o : Int)).card = o := by
  rcases Nat.eq_zero_or_pos p with rfl | hp
  · exact (Nat.le_zero.1 h).symm
  let start := ((-x) % (p : Int)).toNat
  have hstart : (start : Int) = (-x) % (p : Int) := Int.toNat_of_nonneg (Int.emod_nonneg _ (by omega))
  have hperiodic : Function.Periodic (fun d : Nat => (x + d) % (p : Int) < (o : Int)) p := by
    intro d
    dsimp only
    rw [Nat.cast_add, ← add_assoc, Int.add_emod_right]
  have hphase (d : Nat) (hd : d < p) : (x + (start + d : Nat)) % (p : Int) = d := by
    rw [Nat.cast_add, ← add_assoc, hstart, ← Int.emod_add_emod, Int.add_emod_emod, add_neg_cancel, Int.zero_emod,
      zero_add]
    exact Int.emod_eq_of_lt (by omega) (by omega)
  rw [← Nat.count_eq_card_filter_range, ← Nat.filter_Ico_card_eq_of_periodic start p _ hperiodic]
  have hsame : (Finset.Ico start (start + p)).filter (fun d : Nat => (x + d) % (p : Int) < (o : Int)) =
      Finset.Ico start (start + o) := by
    ext d
    rw [Finset.mem_filter, Finset.mem_Ico, Finset.mem_Ico]
    constructor
    · rintro ⟨⟨hlow, hhigh⟩, hclosed⟩
      obtain ⟨e, rfl⟩ := Nat.exists_eq_add_of_le hlow
      rw [hphase e (by omega)] at hclosed
      omega
    · rintro ⟨hlow, hhigh⟩
      obtain ⟨e, rfl⟩ := Nat.exists_eq_add_of_le hlow
      rw [hphase e (by omega)]
      omega
  rw [hsame, Nat.card_Ico, Nat.add_sub_cancel_left]

/-- R130: each member is closed for `o` seconds of every period. -/
theorem card_carrierClosed (r : RotationRec) {epoch now : Nat} (n k : Nat) (h : epoch ≤ now) :
    ((Finset.range ((r.onTime + r.offTime) * 60)).filter
      fun d => carrierClosed r epoch (now + d) n k = true).card = r.offTime * 60 := by
  have hshift (d : Nat) := carrierClosed_iff r n k (h.trans (Nat.le_add_right now d))
  simp only [hshift]
  refine Eq.trans (congrArg Finset.card (Finset.filter_congr fun d _ => ?_)) (card_filter_emod_lt
    ((now : Int) - epoch - ((k * ((r.onTime + r.offTime) * 60) / n : Nat) : Int)) (o := r.offTime * 60) (by omega))
  rw [show ((now + d : Nat) : Int) - epoch - ((k * ((r.onTime + r.offTime) * 60) / n : Nat) : Int) =
    (now : Int) - epoch - ((k * ((r.onTime + r.offTime) * 60) / n : Nat) : Int) + d by push_cast; ring]

/-- R130: while the closed parts fit in the period, they begin at least `o` seconds apart. -/
theorem offset_add_le {p o n j k : Nat} (hfit : o * n ≤ p) (hj : j < k) (hn : 0 < n) :
    j * p / n + o ≤ k * p / n := by
  rw [← Nat.add_mul_div_right _ _ hn]
  refine Nat.div_le_div_right ?_
  calc j * p + o * n ≤ j * p + p := Nat.add_le_add_left hfit _
    _ = (j + 1) * p := (Nat.succ_mul j p).symm
    _ ≤ k * p := Nat.mul_le_mul_right p hj

/-- R130: behind the last member the first closes again, a period later. -/
theorem offset_next_period (p j : Nat) {n : Nat} (hn : 0 < n) : (j + n) * p / n = j * p / n + p := by
  rw [Nat.add_mul, Nat.add_mul_div_left _ _ hn]

/-- Two closed parts that begin at least `o` seconds apart, on either way round the period, do not meet. -/
theorem not_both_emod_lt {x a b p o : Int} (ho : 0 < o) (hab : a + o ≤ b) (hba : b + o ≤ a + p)
    (hb : (x - b) % p < o) : ¬ (x - a) % p < o := by
  have hb' := Int.emod_nonneg (x - b) (b := p) (by omega)
  have hsum : (x - a) % p = (x - b) % p + (b - a) := by
    rw [← Int.emod_eq_of_lt (a := (x - b) % p + (b - a)) (b := p) (by omega) (by omega), Int.emod_add_emod]
    congr 1
    ring
  omega

/-- R130: while the closed parts fit in the period, no two members are closed together. -/
theorem carrierClosed_alone {r : RotationRec} {epoch now n j k : Nat} (h : epoch ≤ now) (hoff : 1 ≤ r.offTime)
    (hfit : r.offTime * 60 * n ≤ (r.onTime + r.offTime) * 60) (hjk : j < k) (hk : k < n)
    (hclosed : carrierClosed r epoch now n k = true) : ¬ carrierClosed r epoch now n j = true := by
  rw [carrierClosed_iff r n _ h] at hclosed ⊢
  have hn : 0 < n := by omega
  have hapart := offset_add_le hfit hjk hn
  have hround := offset_add_le hfit (show k < j + n by omega) hn
  rw [offset_next_period _ _ hn] at hround
  exact not_both_emod_lt (by omega) (by omega) (by omega) hclosed

/-- R130: where the closed parts do not fit in the period, two of them meet in it: apart, they would fill more. -/
theorem exists_carrierClosed_both {r : RotationRec} {epoch now n : Nat} (h : epoch ≤ now)
    (hfull : (r.onTime + r.offTime) * 60 < r.offTime * 60 * n) :
    ∃ d < (r.onTime + r.offTime) * 60, ∃ i < n, ∃ j < n, i ≠ j ∧ carrierClosed r epoch (now + d) n i = true ∧
      carrierClosed r epoch (now + d) n j = true := by
  by_contra hnone
  let p := (r.onTime + r.offTime) * 60
  let closedIn (k : Nat) : Finset Nat := (Finset.range p).filter fun d => carrierClosed r epoch (now + d) n k = true
  have hdisjoint : (Finset.range n : Set Nat).PairwiseDisjoint closedIn := by
    intro i hi j hj hij
    refine Finset.disjoint_left.2 fun d hdi hdj => hnone ?_
    obtain ⟨hd, hdi⟩ := Finset.mem_filter.1 hdi
    exact ⟨d, Finset.mem_range.1 hd, i, by simpa using hi, j, by simpa using hj, hij, hdi, (Finset.mem_filter.1 hdj).2⟩
  have hfilled : ((Finset.range n).biUnion closedIn).card = r.offTime * 60 * n := by
    rw [Finset.card_biUnion hdisjoint, Finset.sum_congr rfl fun k _ => card_carrierClosed r n k h, Finset.sum_const,
      Finset.card_range, smul_eq_mul, Nat.mul_comm]
  have hwithin : ((Finset.range n).biUnion closedIn).card ≤ p :=
    (Finset.card_le_card (Finset.biUnion_subset.2 fun k _ => Finset.filter_subset ..)).trans_eq (Finset.card_range p)
  omega

/-! ## The gate of a member (R130, R131) -/

section
variable {t : Tables} {rot : Rotation} {u : UnitIx} {g : Fin 8}
  (hfit : t.units[u].fitted = true) (hgroup : t.units[u].group = some g)
include hfit hgroup

theorem gateEval_ungated (now : Nat) (h : rot[g] = none) : gateEval t rot now u = false := by
  simp only [gateEval, hfit, hgroup, h]

theorem gateEval_own {epoch : Nat} (now : Nat) (h : rot[g] = some epoch) (hown : t.rotation[g].follow = none) :
    gateEval t rot now u =
      carrierClosed t.rotation[g] epoch now (members t g).length ((members t g).idxOf u) := by
  simp only [gateEval, hfit, hgroup, h, hown]

end

/-- Settles O31: the counts of closed seconds say both that each member has its share and that too many shares meet. -/
theorem carrierClosesEachMemberInTurn : Obligations.CarrierClosesEachMemberInTurn := by
  refine ⟨fun r epoch now n k hon hoff hnow hk => ⟨carrierClosed_iff r n k hnow, ?_, ?_, fun hfit j hj hck hcj => ?_,
    exists_carrierClosed_both hnow⟩, fun t rot epoch now u g => ?_, fun t rot now u g hfit hgroup => ?_⟩
  · simpa [carrierClosed_iff r n 0 le_rfl] using Nat.succ_le_iff.1 hoff
  · exact (congrArg List.length (List.filter_congr fun d _ => by simp)).trans (card_carrierClosed r n k hnow)
  · by_contra hjk
    rcases Nat.lt_or_gt_of_ne hjk with hlt | hlt
    · exact carrierClosed_alone hnow hoff hfit hlt hk hck hcj
    · exact carrierClosed_alone hnow hoff hfit hlt hj hcj hck
  · intro r p o n k hfit hgroup hgated hown _ _ hnow
    rw [gateEval_own hfit hgroup now hgated hown]
    exact carrierClosed_iff t.rotation[g] n k hnow
  · exact gateEval_ungated hfit hgroup now

end Sys2Proof.Machine

namespace Sys2Proof.Machine

/-! ## The job event (R117, R118, R120) -/

/-- R155: an accepted job on the roof that leaves the ports and lets no pass fall due. -/
theorem exec_roofAccepted {c : Instr} {s t : State} {req : Frame} {rest : List Frame} {code : Byte}
    {p results : List Byte} {body : List Byte → State → Verdict}
    (hcommand : exec c s = roofCommand s (serveJob code body)) (hwaits : JobWaits s req rest (code :: p))
    (hbody : body (code :: p) s = .accepted results t) (hlink : t.link = s.link) (hpass : t.plant.passDue = false) :
    exec c s = .next (driveOutputs { t with link := jobAnswered s.link req rest 0x01 (code :: results) }) := by
  rw [hcommand, roofCommand_on _ hwaits.1, serveJob_accepted hwaits hbody hlink]
  exact congrArg _ (conclude_no_pass _ hpass)

theorem endJobEvent_none {s : State} (h : s.shed.jobEvent = none) : endJobEvent s = s := by
  rw [endJobEvent, h]

/-- R118: the end of the event that runs. -/
theorem endJobEvent_some {s : State} {j : JobEvent} (h : s.shed.jobEvent = some j) :
    endJobEvent s = (deriveCeiling { s with shed := { s.shed with jobEvent := none } }).raise .drEnd 0 (some 0)
      (some ((s.seconds - j.beginTime : Nat) : Int)) := by
  rw [endJobEvent, h]

theorem endJobEvent_plant (s : State) : (endJobEvent s).plant = s.plant := by
  cases h : s.shed.jobEvent with
  | none => rw [endJobEvent_none h]
  | some j => rw [endJobEvent_some h, State.raise_plant, deriveCeiling_plant]

/-- R118, R120: what is left of the shed controller when the event that runs ends. -/
theorem endJobEvent_shed {s : State} (h : s.shed.jobEvent.isSome = true) : (endJobEvent s).shed =
    { s.shed with
      jobEvent := none
      ceiling := if s.shed.contact.isSome then min s.tables.roof.ceiling s.tables.roof.drDefaultCeiling
        else s.tables.roof.ceiling } := by
  obtain ⟨j, hj⟩ := Option.isSome_iff_exists.1 h
  rw [endJobEvent_some hj]
  rfl

/-- R118: the expiry of the event that runs, at its end and before it. -/
theorem expireJobEvent_due {s : State} {j : JobEvent} (h : s.shed.jobEvent = some j) (hend : j.endTime ≤ s.seconds) :
    expireJobEvent s = endJobEvent s := by
  simp only [expireJobEvent, h, if_pos hend]

theorem expireJobEvent_early {s : State} {j : JobEvent} (h : s.shed.jobEvent = some j) (hend : s.seconds < j.endTime) :
    expireJobEvent s = s := by
  simp only [expireJobEvent, h, if_neg (Nat.not_le.2 hend)]

/-- R118: the command of an expiry, which moves nothing on the plant. -/
theorem exec_drEventExpiry {s m : State} (hready : Ready s) (hm : expireJobEvent s = m) (hplant : m.plant = s.plant) :
    exec .drEventExpiry s = .next (driveOutputs m) := by
  obtain ⟨hpow, hpass⟩ := hready
  rw [← conclude_no_pass m ((congrArg Plant.passDue hplant).trans hpass), ← hm]
  exact roofCommand_on expireJobEvent hpow

/-- Settles O33: the event is written or removed, and the ceiling is derived from what is left. -/
theorem jobEventSetsTheEffectiveCeiling : Obligations.JobEventSetsTheEffectiveCeiling := by
  intro s hready floorOf
  refine ⟨fun req rest a b c d hwaits hlow hhigh => ?begins, fun req rest hwaits => ?ends, fun j hj => ?expires⟩
  case begins =>
    have hbody : drBeginJob [0x24, a, b, c, d] s =
        .accepted [] (beginJobEvent (a.toNat + 256 * b.toNat) (c.toNat + 256 * d.toNat) s) := if_pos ⟨hlow, hhigh⟩
    exact ⟨_, exec_roofAccepted (body := drBeginJob) rfl hwaits hbody rfl hready.2, rfl, rfl, rfl, rfl, rfl⟩
  case ends =>
    have hplant := endJobEvent_plant s
    refine ⟨_, exec_roofAccepted (body := drEndJob) rfl hwaits rfl (endJobEvent_frame s).1
      ((congrArg Plant.passDue hplant).trans hready.2), rfl, hplant, endJobEvent_shed, fun hnone => ?_⟩
    rw [endJobEvent_none hnone]
    exact ⟨rfl, rfl⟩
  case expires =>
    have hplant := endJobEvent_plant s
    rcases Nat.lt_or_ge s.seconds j.endTime with hearly | hdue
    · exact ⟨_, exec_drEventExpiry hready (expireJobEvent_early hj hearly) rfl, rfl, rfl,
        fun hdue => absurd hdue (Nat.not_le.2 hearly), fun _ => ⟨rfl, rfl⟩⟩
    · exact ⟨_, exec_drEventExpiry hready (expireJobEvent_due hj hdue) hplant, hplant, (endJobEvent_frame s).1,
        fun _ => endJobEvent_shed (by rw [hj]; rfl), fun hearly => absurd hdue (Nat.not_le.2 hearly)⟩

end Sys2Proof.Machine

namespace Sys2Proof.Machine

/-! ## Bits and fields of a reply (11.2, 11.9) -/

/-- The number whose bits are the flags, bit 0 first. -/
def bitsValue (l : List Bool) : Nat := l.foldr (fun b n => (if b then 1 else 0) + 2 * n) 0

theorem packBits_eq (l : List Bool) : packBits l = BitVec.ofNat 8 (bitsValue l) := rfl

theorem bitsValue_cons (b : Bool) (l : List Bool) : bitsValue (b :: l) = Nat.bit b (bitsValue l) := by
  cases b
  · exact Nat.zero_add _
  · exact Nat.add_comm ..

/-- Bit `i` of the number is flag `i`. -/
theorem testBit_bitsValue (l : List Bool) (i : Nat) : (bitsValue l).testBit i = l.getD i false := by
  induction l generalizing i with
  | nil => exact Nat.zero_testBit i
  | cons b l ih =>
    rw [bitsValue_cons]
    cases i with
    | zero => exact Nat.testBit_bit_zero b _
    | succ i => exact (Nat.testBit_bit_succ i b _).trans (ih i)

theorem bitsValue_lt (l : List Bool) : bitsValue l < 2 ^ l.length := by
  induction l with
  | nil => exact Nat.one_pos
  | cons b l ih =>
    rw [bitsValue_cons, List.length_cons, Nat.pow_succ, Nat.bit_val]
    have hb := b.toNat_lt
    omega

/-- 11.2: a byte of at most eight flags. -/
theorem packBits_getLsbD (l : List Bool) {i : Nat} (hi : i < 8) : (packBits l).getLsbD i = l.getD i false := by
  rw [packBits_eq, BitVec.getLsbD_ofNat, testBit_bitsValue, decide_eq_true hi, Bool.true_and]

theorem packBits_toNat_lt (l : List Bool) : (packBits l).toNat < 2 ^ l.length := by
  rw [packBits_eq, BitVec.toNat_ofNat]
  exact (Nat.mod_le ..).trans_lt (bitsValue_lt l)

/-- 11.2: the bits of a stage map's byte. -/
theorem mapByte_slot (m : StageMap) (i : Slot) : (mapByte m).getLsbD i.val = m.has i := by
  rw [mapByte, BitVec.getLsbD_append, if_pos i.isLt, StageMap.has]

theorem mapByte_fan (m : StageMap) : (mapByte m).getLsbD 7 = m.fan := by
  rw [mapByte, BitVec.getLsbD_append, if_neg (by decide), BitVec.getLsbD_ofBool]
  exact Bool.true_and _

theorem toNat_leBool (b : Bool) : u8At (leBool b) 0 = if b then 1 else 0 := by
  cases b <;> rfl

/-! ## READ_UNIT (R134, R157, 11.9) -/

/-- 11.9: the run map and the status age, 0 while no status record is held. -/
theorem runBytes_eq (st : Option Status) :
    runBytes st = (st.elim 0 fun st => mapByte st.run) :: le16 (st.elim 0 (·.age)) := by
  cases st <;> rfl

theorem leadBytes_length (lead : List Slot) : (leadBytes lead).length = 4 := by
  simp [leadBytes]

/-- 11.9: the lead order in its four places. -/
theorem leadBytes_byteAt (lead : List Slot) (k : Fin 4) : byteAt (leadBytes lead) k.val =
    match lead[k.val]? with | some i => BitVec.ofNat 8 i.val | none => 0xFF := by
  have hplaces : ([0xFF, 0xFF, 0xFF, 0xFF] : List Byte) = List.replicate 4 0xFF := rfl
  rw [byteAt, leadBytes, List.getD_eq_getElem?_getD, List.getElem?_take_of_lt k.isLt, hplaces]
  rcases Nat.lt_or_ge k.val lead.length with hk | hk
  · rw [List.getElem?_append_left (by simpa using hk), List.getElem?_map, List.getElem?_eq_getElem hk]
    rfl
  · rw [List.getElem?_append_right (by simpa using hk), List.getElem?_eq_none hk, List.getElem?_replicate,
      if_pos (by omega)]
    rfl

/-- 11.9: READ_UNIT's payload in front of the lead order. -/
def unitHead (s : State) (u : UnitIx) : List Byte :=
  let r := s.plant.unit u
  [0x03, BitVec.ofNat 8 r.state.code, if r.isolated then 1 else 0, BitVec.ofNat 8 r.failures,
    BitVec.ofNat 8 r.call.cool, BitVec.ofNat 8 r.call.heat,
    packBits [r.call.fanOn, r.call.economizer, r.call.occupied, r.call.coolClamped, r.call.heatClamped]]
  ++ le16 r.call.age ++ [mapByte r.target, mapByte r.ack, r.status.elim 0 fun st => mapByte st.run]
  ++ le16 (r.status.elim 0 (·.age))
  ++ [BitVec.ofNat 8 ((if r.status.isSome then 1 else 0) + 2 * gateCode s.tables.units[u] r),
    BitVec.ofNat 8 (coolingCap s.env u)]

theorem readUnitBytes_eq (s : State) (u : UnitIx) :
    0x03 :: readUnitBytes s u = unitHead s u ++ leadBytes (s.plant.unit u).lead := by
  rw [readUnitBytes, runBytes_eq]
  rfl

/-- The fields in front of the lead order stand where they stand in the head. -/
theorem unitHead_recordAt (s : State) (u : UnitIx) : RecordAt (0x03 :: readUnitBytes s u) 0 (unitHead s u) := by
  intro j hj
  rw [readUnitBytes_eq]
  exact byteAt_append_middle [] (unitHead s u) _ hj


theorem readUnitBytes_length (s : State) (u : UnitIx) : (0x03 :: readUnitBytes s u).length = 20 := by
  rw [readUnitBytes_eq, List.length_append, leadBytes_length]
  rfl

/-- R134, 11.9: the status bit and the gate's code in one byte. -/
theorem gateByte (c : UnitCfg) (r : UnitRec) :
    let f : Byte := BitVec.ofNat 8 ((if r.status.isSome then 1 else 0) + 2 * gateCode c r)
    f.getLsbD 0 = r.status.isSome ∧ f.toNat / 2 =
      if c.fitted = true ∧ c.group.isSome then (if r.gateClosed then 1 else 0) else 2 := by
  intro f
  have hgate : gateCode c r ≤ 2 := by
    unfold gateCode
    split
    · split <;> decide
    · exact le_rfl
  have hstatus := r.status.isSome.toNat_le
  have hvalue : f.toNat = r.status.isSome.toNat + 2 * gateCode c r := by
    simp only [f, ite_eq_mul_toNat, BitVec.toNat_ofNat]
    omega
  exact ⟨getLsbD_eq_of_bit (n := 1) rfl (by omega), by rw [← gateCode]; omega⟩

/-- 11.4: a unit state's code as a byte. -/
theorem UnitState.toNat_code (st : UnitState) : (BitVec.ofNat 8 st.code).toNat = st.code := by
  cases st <;> rfl

/-- R157: the body of READ_UNIT for a unit. -/
theorem readUnitJob_unit (s : State) {a : Byte} {u : UnitIx} (ha : a.toNat = u.val + 1) :
    readUnitJob [0x03, a] s = .accepted (readUnitBytes s u) s := unitJob_addressed (by rfl) ha _

/-! ## READ_STAGE (R137, R157, 11.9) -/

/-- R137: the slot's active trip set shows the class. -/
def showsClass (c : UnitCfg) (r : UnitRec) (i : Slot) (cls : TripClass) : Bool :=
  c.bound i && r.causes.any fun x => decide (x.tripClass = cls) && x.covers i

theorem showsClass_iff (c : UnitCfg) (r : UnitRec) (i : Slot) (cls : TripClass) : showsClass c r i cls = true ↔
    c.bound i = true ∧ ∃ x ∈ r.causes, x.tripClass = cls ∧ x.covers i = true := by
  simp [showsClass]

/-- R137: the trip set's number has the classes for its bits, in the order of their codes. -/
theorem tripSetBits_eq (c : UnitCfg) (r : UnitRec) (i : Slot) : tripSetBits c r i =
    bitsValue ([.hp, .lp, .ovc, .frz, .flm, .fpf, .smk, .band, .shutdown].map (showsClass c r i)) := by
  change ([TripClass.hp, .lp, .ovc, .frz, .flm, .fpf, .smk, .band, .shutdown].map fun cls =>
    if showsClass c r i cls then 2 ^ cls.code else 0).sum = _
  simp only [bitsValue, List.map_cons, List.map_nil, List.sum_cons, List.sum_nil, List.foldr_cons, List.foldr_nil,
    ite_eq_mul_toNat, TripClass.code]
  ring

theorem tripSetBits_testBit (c : UnitCfg) (r : UnitRec) (i : Slot) (cls : TripClass) :
    (tripSetBits c r i % 65536).testBit cls.code = showsClass c r i cls := by
  rw [show 65536 = 2 ^ 16 from rfl, Nat.testBit_mod_two_pow, tripSetBits_eq, testBit_bitsValue]
  cases cls <;> rfl

/-- 11.9: the seconds to an end fit in their field. -/
theorem u16At_secondsLeft (now : Nat) (x : Option Nat) :
    u16At (le16 (secondsLeft now x)) 0 = min 65535 (x.getD 0 - now) := by
  have hvalue : secondsLeft now x = min 65535 (x.getD 0 - now) := by
    cases x <;> simp [secondsLeft]
  rw [u16At_le16, hvalue]
  exact Nat.mod_eq_of_lt (Nat.lt_succ_of_le (min_le_left ..))

/-- 11.9: a stage state's code as a byte. -/
theorem StageState.toNat_code (st : StageState) : (BitVec.ofNat 8 st.code).toNat = st.code := by
  cases st <;> rfl

/-- 11.9: a force's code as a byte. -/
theorem Force.toNat_code (f : Force) : (BitVec.ofNat 8 f.code).toNat = f.code := by
  cases f <;> rfl

theorem windowLeft_eq (now : Nat) (w : Option Window) : windowLeft now w % 256 =
    match w with | some w => (w.anchor + w.length - now) % 256 | none => 0 := by
  cases w <;> rfl

theorem runHoursOf_mod (r : UnitRec) (i : Slot) : runHoursOf r i % 4294967296 =
    if h : i.val < 4 then r.runHours[i.val] % 4294967296 else 0 := by
  unfold runHoursOf
  split <;> rfl

/-- R157: the body of READ_STAGE for a stage. -/
theorem readStageJob_stage (s : State) {a b : Byte} {u : UnitIx} {i : Slot} (ha : a.toNat = u.val + 1)
    (hb : b.toNat = i.val) : readStageJob [0x04, a, b] s = .accepted (readStageBytes s u i) s := by
  have hslot : slotOfIndex (u8At [0x04, a, b] 2) = some i := by
    rw [show u8At [0x04, a, b] 2 = i.val from hb, slotOfIndex, dif_pos i.isLt]
  refine Eq.trans (unitJob_addressed (by rfl) ha _) ?_
  rw [hslot]

/-- Settles O42: every field is read where the payload was put together from it. -/
theorem unitJobsReportTheUnit : Obligations.UnitJobsReportTheUnit := by
  intro s req rest a b u ha r
  refine ⟨fun hwaits => ?unit, fun i hb hwaits => ?stage⟩
  case unit =>
    have hhead := unitHead_recordAt s u
    have hbyte (j : Nat) (hj : j < 16) : byteAt (0x03 :: readUnitBytes s u) j = byteAt (unitHead s u) j :=
      hhead.byteAt_eq hj (Nat.zero_add j).symm
    have hu8 (j : Nat) (hj : j < 16) : u8At (0x03 :: readUnitBytes s u) j = u8At (unitHead s u) j :=
      congrArg BitVec.toNat (hbyte j hj)
    have hu16 (j : Nat) (hj : j < 15) : u16At (0x03 :: readUnitBytes s u) j = u16At (unitHead s u) j :=
      hhead.u16At_eq (Nat.succ_lt_succ hj) (Nat.zero_add j).symm
    have hflag (i : Nat) (hi : i < 8) : (byteAt (0x03 :: readUnitBytes s u) 6).getLsbD i =
        [r.call.fanOn, r.call.economizer, r.call.occupied, r.call.coolClamped, r.call.heatClamped].getD i false := by
      rw [hbyte 6 (by decide)]
      exact packBits_getLsbD _ hi
    have htarget : byteAt (0x03 :: readUnitBytes s u) 9 = mapByte r.target := hbyte 9 (by decide)
    have hack : byteAt (0x03 :: readUnitBytes s u) 10 = mapByte r.ack := hbyte 10 (by decide)
    have hrun : byteAt (0x03 :: readUnitBytes s u) 11 = r.status.elim 0 fun st => mapByte st.run := hbyte 11 (by decide)
    have hage : u16At (0x03 :: readUnitBytes s u) 12 = r.status.elim 0 (·.age) % 65536 :=
      (hu16 12 (by decide)).trans (u16At_le16 _)
    obtain ⟨hpresent, hgate⟩ := gateByte s.tables.units[u] r
    rw [show BitVec.ofNat 8 _ = byteAt (0x03 :: readUnitBytes s u) 14 from (hbyte 14 (by decide)).symm]
      at hpresent hgate
    refine ⟨0x03 :: readUnitBytes s u, exec_accepted (body := readUnitJob) rfl hwaits (readUnitJob_unit s ha) rfl,
      readUnitBytes_length s u, rfl, ?state, ?isolated, ?failures, ?cool, ?heat, hflag 0 (by decide),
      hflag 1 (by decide), hflag 2 (by decide), hflag 3 (by decide), hflag 4 (by decide), ?flags, ?callAge,
      fun i => ⟨?target, ?ack⟩, ?targetFan, ?ackFan, fun hnone => ?noStatus, fun st hst => ?status, hgate, ?cap,
      fun k => ?lead⟩
    case state => exact (hu8 1 (by decide)).trans r.state.toNat_code
    case isolated => exact (hu8 2 (by decide)).trans (toNat_leBool r.isolated)
    case failures => exact (hu8 3 (by decide)).trans (BitVec.toNat_ofNat ..)
    case cool => exact (hu8 4 (by decide)).trans (BitVec.toNat_ofNat ..)
    case heat => exact (hu8 5 (by decide)).trans (BitVec.toNat_ofNat ..)
    case flags => exact (hu8 6 (by decide)).trans_lt (packBits_toNat_lt _)
    case callAge => exact (hu16 7 (by decide)).trans (u16At_le16 _)
    case target => rw [htarget, mapByte_slot]
    case ack => rw [hack, mapByte_slot]
    case targetFan => rw [htarget, mapByte_fan]
    case ackFan => rw [hack, mapByte_fan]
    case noStatus =>
      rw [hnone] at hrun hage hpresent
      exact ⟨congrArg BitVec.toNat hrun, hage, hpresent⟩
    case status =>
      rw [hst] at hrun hage hpresent
      refine ⟨fun i => ?_, ?_, hage, hpresent⟩
      · rw [hrun]
        exact mapByte_slot st.run i
      · rw [hrun]
        exact mapByte_fan st.run
    case cap => exact (hu8 15 (by decide)).trans (BitVec.toNat_ofNat ..)
    case lead =>
      have hplace : byteAt (unitHead s u ++ (leadBytes r.lead ++ [])) (16 + k.val) = byteAt (leadBytes r.lead) k.val :=
        byteAt_append_middle (unitHead s u) (leadBytes r.lead) [] (k.isLt.trans_eq (leadBytes_length _).symm)
      rw [readUnitBytes_eq, ← List.append_nil (leadBytes r.lead), hplace]
      exact leadBytes_byteAt r.lead k
  case stage =>
    refine ⟨0x04 :: readStageBytes s u i,
      exec_accepted (body := readStageJob) rfl hwaits (readStageJob_stage s ha hb) rfl, rfl, rfl, ?state, ?pending,
      ?force, fun cls => ?trips, ?minOn, ?minOff, ?startToStart, ?hours, ?window, ?fanForce⟩
    case state => exact r.stages[i].state.toNat_code
    case pending => exact toNat_leBool r.stages[i].stopPending
    case force => exact r.stages[i].force.toNat_code
    case trips =>
      rw [← showsClass_iff, ← tripSetBits_testBit, ← u16At_le16]
      rfl
    case minOn => exact u16At_secondsLeft s.seconds _
    case minOff => exact u16At_secondsLeft s.seconds _
    case startToStart => exact u16At_secondsLeft s.seconds _
    case hours => exact (u32At_le32 _).trans (runHoursOf_mod r i)
    case window => exact (BitVec.toNat_ofNat ..).trans (windowLeft_eq s.seconds r.window)
    case fanForce => exact toNat_leBool r.fanForce

end Sys2Proof.Machine

namespace Sys2Proof.Machine

/-! ## Gates that follow a partner (R128, R131) -/

/-- R128: the members of a group. -/
theorem mem_members (t : Tables) (g : Fin 8) (v : UnitIx) :
    v ∈ members t g ↔ t.units[v].fitted = true ∧ t.units[v].group = some g := by
  simp [members, mem_allUnits]

theorem members_ordered (t : Tables) (g : Fin 8) : (members t g).Pairwise (· < ·) :=
  (List.pairwise_lt_finRange 32).filter _

/-- R131: a unit that is not fitted or has no group has no gate to close. -/
theorem gateEval_groupless {t : Tables} {u : UnitIx} (rot : Rotation) (now : Nat)
    (h : t.units[u].fitted = false ∨ t.units[u].group = none) : gateEval t rot now u = false := by
  unfold gateEval
  rcases h with h | h
  · rw [h]
  · rw [h]
    cases t.units[u].fitted <;> rfl

section
variable {t : Tables} {rot : Rotation} {u : UnitIx} {g h : Fin 8}
  (hfit : t.units[u].fitted = true) (hgroup : t.units[u].group = some g) (hgated : rot[g].isSome = true)
  (hfollow : t.rotation[g].follow = some h)
include hfit hgroup hgated hfollow

/-- R131: with its partner not gated, or without a member to follow, the gate is open. -/
theorem gateEval_partner_open (now : Nat) (hpartner : rot[h] = none ∨ members t h = []) :
    gateEval t rot now u = false := by
  obtain ⟨own, hown⟩ := Option.isSome_iff_exists.1 hgated
  cases hepoch : rot[h] with
  | none => simp only [gateEval, hfit, hgroup, hown, hfollow, hepoch]
  | some epoch =>
    have hempty : members t h = [] := hpartner.resolve_left (by rw [hepoch]; nofun)
    simp only [gateEval, hfit, hgroup, hown, hfollow, hepoch, hempty, List.length_nil, if_true]

/-- R131: the gate is the opposite of the partner's carrier. -/
theorem gateEval_partner_gated {epoch : Nat} (now : Nat) (hpartner : rot[h] = some epoch)
    (hmembers : members t h ≠ []) :
    gateEval t rot now u =
      !carrierClosed t.rotation[h] epoch now (members t h).length ((members t g).idxOf u % (members t h).length) := by
  obtain ⟨own, hown⟩ := Option.isSome_iff_exists.1 hgated
  have hlength : (members t h).length ≠ 0 := fun hzero => hmembers (List.eq_nil_of_length_eq_zero hzero)
  simp only [gateEval, hfit, hgroup, hown, hfollow, hpartner, if_neg hlength]

end

end Sys2Proof.Machine

namespace Sys2Proof.Machine

/-! ## A closed gate holds (R69, R91, R132) -/

/-- A cooling slot under no force of a unit whose gate is closed: no start is given to it (R91). -/
structure UnitRec.Gated (r : UnitRec) (i : Slot) : Prop where
  cooling : slotKind i = .cool
  closed : r.gateClosed = true
  unforced : r.stages[i].force = .none

/-- The slot is off, in its stage and in the target map. -/
def UnitRec.Rests (r : UnitRec) (i : Slot) : Prop := r.stages[i].state.isOn = false ∧ r.target.has i = false

/-- The slot's stage has been started and will stop at its minimum-on end (R67). -/
def UnitRec.EndsRun (r : UnitRec) (i : Slot) : Prop := r.stages[i].RunsIn ∧ r.stages[i].stopPending = true

/-- A unit record before and after work behind which what a closed gate holds is held still. -/
structure UnitRec.StaysGated (a b : UnitRec) : Prop where
  gated : ∀ i, a.Gated i → b.Gated i
  rests : ∀ i, a.Gated i → a.Rests i → b.Rests i
  ends : ∀ i, a.Gated i → a.EndsRun i → b.EndsRun i

theorem UnitRec.StaysGated.refl (a : UnitRec) : a.StaysGated a :=
  ⟨fun _ => id, fun _ _ => id, fun _ _ => id⟩

theorem UnitRec.StaysGated.trans {a b c : UnitRec} (h : a.StaysGated b) (k : b.StaysGated c) : a.StaysGated c where
  gated i hi := k.gated i (h.gated i hi)
  rests i hi hr := k.rests i (h.gated i hi) (h.rests i hi hr)
  ends i hi hr := k.ends i (h.gated i hi) (h.ends i hi hr)

/-- Work on the stages alone, by what becomes of each gated one. -/
theorem UnitRec.StaysGated.of_stages {a b : UnitRec} (hgate : b.gateClosed = a.gateClosed)
    (htarget : b.target = a.target)
    (hstage : ∀ i, a.Gated i → b.stages[i].force = a.stages[i].force ∧
      (a.stages[i].state.isOn = false → b.stages[i].state.isOn = false) ∧
      (a.EndsRun i → b.EndsRun i)) : a.StaysGated b where
  gated i hi := ⟨hi.cooling, hgate.trans hi.closed, (hstage i hi).1.trans hi.unforced⟩
  rests i hi hr := ⟨(hstage i hi).2.1 hr.1, by rw [htarget]; exact hr.2⟩
  ends i hi := (hstage i hi).2.2

theorem UnitRec.staysGated_lead (r : UnitRec) (order : List Slot) : r.StaysGated { r with lead := order } :=
  .of_stages rfl rfl fun _ _ => ⟨rfl, id, id⟩

/-- R63: the choice of the queued slots turns nothing on. -/
theorem selectQueued_staysGated (hasCool hasHeat : Bool) (r : UnitRec) :
    r.StaysGated (selectQueued hasCool hasHeat r) := by
  refine .of_stages rfl rfl fun i _ => ?_
  obtain ⟨next, hstage, hkept, hchosen⟩ := selectQueued_stage hasCool hasHeat r i
  cases hfree : r.stages[i].state.isFree with
  | false =>
    have hsame : (selectQueued hasCool hasHeat r).stages[i] = r.stages[i] := by rw [hstage, hkept hfree]
    rw [UnitRec.EndsRun, UnitRec.EndsRun, hsame]
    exact ⟨rfl, id, id⟩
  | true =>
    have hoff := StageState.isFree_off hfree
    refine ⟨by rw [hstage], fun _ => ?_, fun hends => ?_⟩
    · rw [hstage]
      rcases hchosen hfree with hready | ⟨hqueued, -⟩
      · exact hready ▸ rfl
      · exact hqueued ▸ rfl
    · rw [hends.1.isOn] at hoff
      cases hoff

/-- R69: behind a closed gate a settlement holds no cooling stage. -/
theorem pendingAfter_gated (e : Env) (u : UnitIx) {r : UnitRec} {i : Slot} (h : r.Gated i) :
    pendingAfter e u r i = true := by
  have hheld : heldCount e u r (slotKind i) = 0 := by
    rw [h.cooling, heldCount, if_pos h.closed]
  rw [pendingAfter, h.unforced, hheld]
  exact decide_eq_true (Nat.zero_le _)

/-- R69: what a settlement makes of a gated slot: a RUNNING stage stops, one that runs in is marked. -/
theorem settleStage_running (e : Env) (u : UnitIx) {r : UnitRec} {i : Slot} (h : r.Gated i)
    (hrun : r.stages[i].state = .running) :
    settleStage e u r i r.stages[i] = stopStage e.now (minOffOf e.tables u i) r.stages[i] := by
  rw [settleStage, if_pos (by rw [hrun]; rfl), if_pos (pendingAfter_gated e u h), if_pos hrun]

theorem settleStage_runsIn (e : Env) (u : UnitIx) {r : UnitRec} {i : Slot} (h : r.Gated i)
    (hrun : r.stages[i].RunsIn) : settleStage e u r i r.stages[i] = { r.stages[i] with stopPending := true } := by
  have hnot : ¬r.stages[i].state = .running := by
    rcases hrun with hrun | hrun <;> rw [hrun] <;> nofun
  rw [settleStage, if_pos hrun.isOn, if_pos (pendingAfter_gated e u h), if_neg hnot]

theorem settleMarks_staysGated (e : Env) (u : UnitIx) (r : UnitRec) : r.StaysGated (settleMarks e u r) := by
  refine .of_stages rfl rfl fun i hi => ?_
  have hstage : (settleMarks e u r).stages[i] = settleStage e u r i r.stages[i] := UnitRec.mapStages_stages ..
  rw [UnitRec.EndsRun, UnitRec.EndsRun, hstage]
  refine ⟨(settleStage_turnsTo ..).force, fun hoff => ?_, fun hends => ?_⟩
  · rw [settleStage, if_neg (by rw [hoff]; nofun)]
    exact hoff
  · rw [settleStage_runsIn e u hi hends.1]
    exact ⟨hends.1, rfl⟩

/-- R64: a start is given to another slot. -/
theorem startRecord_staysGated (now : Nat) (pr : Profile) {i : Slot} {r : UnitRec} (h : ¬r.Gated i) :
    r.StaysGated (startRecord now pr i r) := by
  refine .of_stages rfl rfl fun j hj => ?_
  have hother : j ≠ i := fun heq => h (heq ▸ hj)
  have hsame : (startRecord now pr i r).stages[j] = r.stages[j] := by
    rw [startRecord_stages, if_neg hother]
  rw [UnitRec.EndsRun, UnitRec.EndsRun, hsame]
  exact ⟨rfl, id, id⟩

/-! ### The plant -/

/-- Every unit before and after such work. -/
structure Plant.StaysGated (p q : Plant) : Prop where
  unit : ∀ v, (p.unit v).StaysGated (q.unit v)

theorem Plant.StaysGated.of_units {p q : Plant} (h : q.units = p.units := by rfl) : p.StaysGated q where
  unit v := by
    rw [Plant.unit_congr h]
    exact .refl _

theorem Plant.StaysGated.refl (p : Plant) : p.StaysGated p := .of_units

theorem Plant.StaysGated.trans {p q r : Plant} (h : p.StaysGated q) (k : q.StaysGated r) : p.StaysGated r :=
  ⟨fun v => (h.unit v).trans (k.unit v)⟩

theorem Plant.staysGated_modUnit {p : Plant} {u : UnitIx} {f : UnitRec → UnitRec}
    (h : (p.unit u).StaysGated (f (p.unit u))) : p.StaysGated (p.modUnit u f) where
  unit v := by
    rw [Plant.unit_modUnit]
    split
    · next hv => exact hv ▸ h
    · exact .refl _

/-! ### The sequencer -/

theorem reselect_staysGated (u : UnitIx) (p : Plant) : p.StaysGated (reselect u p) :=
  Plant.staysGated_modUnit (selectQueued_staysGated ..)

/-- R61: a target map that has no slot on whose stage is off. -/
theorem writeTarget_staysGated (prot : Bool) {u : UnitIx} {m : StageMap} {p : Plant}
    (h : ∀ i : Slot, (p.unit u).stages[i].state.isOn = false → m.has i = false) :
    p.StaysGated (writeTarget prot u m p) := by
  unfold writeTarget
  split
  · exact .refl p
  · have hwrite : p.StaysGated (p.modUnit u fun r => { r with target := m, fresh := false }) :=
      Plant.staysGated_modUnit
        { gated := fun _ hi => ⟨hi.cooling, hi.closed, hi.unforced⟩
          rests := fun i _ hrests => ⟨hrests.1, h i hrests.1⟩
          ends := fun _ _ => id }
    dsimp only
    split
    · exact hwrite.trans .of_units
    · exact hwrite

theorem refreshTarget_staysGated (prot : Bool) (u : UnitIx) (p : Plant) : p.StaysGated (refreshTarget prot u p) := by
  have hwrite : p.StaysGated (writeTarget prot u (scheduledMap (p.unit u)) p) :=
    writeTarget_staysGated prot fun i hoff => (scheduledMap_has _ i).trans hoff
  unfold refreshTarget
  split
  · exact hwrite
  · exact hwrite
  · exact hwrite
  · exact .refl p
  · exact .refl p

theorem moveUnit_staysGated (e : Env) (u : UnitIx) {f : Plant → Plant} {r : Roof} (h : r.plant.StaysGated (f r.plant)) :
    r.plant.StaysGated (moveUnit e u f r).plant := by
  rcases moveUnit_plant e u f r with hp | ⟨order, hp⟩
  · rwa [hp]
  · rw [hp]
    exact h.trans (Plant.staysGated_modUnit (UnitRec.staysGated_lead ..))

theorem examineUnit_staysGated (e : Env) (u : UnitIx) (r : Roof) : r.plant.StaysGated (examineUnit e u r).plant :=
  moveUnit_staysGated e u ((Plant.StaysGated.of_units ((examine_units ..).trans (examine_units ..))).trans
    (reselect_staysGated ..))

theorem settle_staysGated (e : Env) (u : UnitIx) (r : Roof) : r.plant.StaysGated (settle e u r).plant := by
  unfold settle
  split
  · have hmarks : r.plant.StaysGated (moveUnit e u (fun p => p.modUnit u (settleMarks e u)) r).plant :=
      moveUnit_staysGated e u (Plant.staysGated_modUnit (settleMarks_staysGated ..))
    refine hmarks.trans (Plant.StaysGated.trans ?_ (examineUnit_staysGated ..))
    exact refreshTarget_staysGated ..
  · exact .refl _

/-! ### The admission unit -/

theorem grantSlot_staysGated (e : Env) {u : UnitIx} {i : Slot} (pr : Profile) {r : Roof}
    (h : ¬(r.plant.unit u).Gated i) : r.plant.StaysGated (grantSlot e u i pr r).plant := by
  have hcounted : r.plant.StaysGated (countedGrant e u pr r.plant) := .of_units
  have hstarted : (countedGrant e u pr r.plant).StaysGated
      ((countedGrant e u pr r.plant).modUnit u (startRecord e.now pr i)) :=
    Plant.staysGated_modUnit (startRecord_staysGated _ _ h)
  rw [grantSlot_eq]
  refine Plant.StaysGated.trans ?_ (settle_staysGated ..)
  exact hcounted.trans (hstarted.trans (refreshTarget_staysGated ..))

theorem requeue_staysGated (e : Env) (u : UnitIx) (k : Kind) (p : Plant) : p.StaysGated (requeue e u k p) := by
  unfold requeue
  split
  · exact .refl p
  · exact Plant.StaysGated.trans .of_units (reselect_staysGated u _)

/-- R91: an entry of the kind COOL passes the tests with the gate open alone. -/
theorem testEntry_gate {e : Env} {p : Plant} {n : Entry} (h : testEntry e p n = .none) (hkind : n.kind = .cool) :
    (p.unit n.unit).gateClosed = false := by
  by_contra hclosed
  have hgate : (n.kind = .cool ∧ (p.unit n.unit).gateClosed = true) ∨
      bandInhibits e (p.unit n.unit) n.kind = true := .inl ⟨hkind, Bool.not_eq_false _ ▸ hclosed⟩
  unfold testEntry at h
  simp only [if_pos hgate] at h
  split at h
  · cases h
  · split_ifs at h

/-- R89: the entry that a walk grants passes the tests. -/
theorem walkQueue_granted {e : Env} {p : Plant} {q : List Entry} {n : Entry} (h : (walkQueue e p q).2 = some n) :
    testEntry e p n = .none := by
  induction q with
  | nil => cases h
  | cons m rest ih =>
    by_cases hm : testEntry e p m = .none
    · rw [walkQueue_cons_passing e p rest hm] at h
      obtain rfl := Option.some.inj h
      exact hm
    · rw [walkQueue_cons_failing e p rest hm] at h
      exact ih h

theorem grantEntry_staysGated (e : Env) {n : Entry} {r : Roof}
    (h : n.kind = .cool → (r.plant.unit n.unit).gateClosed = false) :
    r.plant.StaysGated (grantEntry e n r).plant := by
  unfold grantEntry
  split
  · exact .refl _
  · next i hqueued =>
    have hi : slotKind i = n.kind := (mem_slotsOf i n.kind).1 (queuedSlot_kind hqueued)
    split
    · exact .refl _
    · refine (grantSlot_staysGated e _ fun hgated => ?_).trans (requeue_staysGated ..)
      have hopen := h (hi.symm.trans hgated.cooling)
      rw [hgated.closed] at hopen
      cases hopen

theorem admissionPass_staysGated (e : Env) (r : Roof) : r.plant.StaysGated (admissionPass e r).plant := by
  unfold admissionPass
  split
  · next hmanual =>
    refine grantSlot_staysGated e _ fun hgated => ?_
    have hforce := firstManual_force hmanual
    rw [hgated.unforced] at hforce
    cases hforce
  · dsimp only
    split
    · exact .of_units
    · next n hgranted =>
      have hopen := testEntry_gate (walkQueue_granted hgranted)
      exact Plant.StaysGated.trans .of_units (grantEntry_staysGated e hopen)

theorem runPasses_staysGated (e : Env) (n : Nat) (r : Roof) : r.plant.StaysGated (runPasses e n r).plant := by
  induction n generalizing r with
  | zero => exact .of_units
  | succ n ih =>
    unfold runPasses
    split
    · exact (Plant.StaysGated.trans .of_units (admissionPass_staysGated ..)).trans (ih _)
    · exact .refl _

/-- What concludes a roof command starts nothing behind a closed gate. -/
theorem conclude_staysGated (s : State) : s.plant.StaysGated (conclude s).plant := by
  unfold conclude passAfterJoin
  split
  · exact runPasses_staysGated s.env 64 s.roof
  · exact .of_units

/-! ### A settlement behind a closed gate (R69, R132) -/

theorem refreshTarget_unit_other (prot : Bool) {u v : UnitIx} (h : v ≠ u) (p : Plant) :
    (refreshTarget prot u p).unit v = p.unit v := by
  have hwrite : (writeTarget prot u (scheduledMap (p.unit u)) p).unit v = p.unit v := by
    unfold writeTarget
    split
    · rfl
    · dsimp only
      split
      · rw [Plant.inject_unit, Plant.unit_modUnit_other _ _ _ _ h]
      · rw [Plant.unit_modUnit_other _ _ _ _ h]
  unfold refreshTarget
  split
  · exact hwrite
  · exact hwrite
  · exact hwrite
  · rfl
  · rfl

/-- R69: a settlement writes the record of its own unit alone. -/
theorem settle_unit_other (e : Env) {u v : UnitIx} (h : v ≠ u) (r : Roof) :
    (settle e u r).plant.unit v = r.plant.unit v := by
  unfold settle examineUnit
  split
  · rw [moveUnit_unit_other e h, reselect, Plant.unit_modUnit_other _ _ _ _ h,
      Plant.unit_congr ((examine_units ..).trans (examine_units ..)), Roof.onPlant_plant,
      refreshTarget_unit_other _ h, moveUnit_unit_other e h, Plant.unit_modUnit_other _ _ _ _ h]
  · rfl

/-- What R132 asks of a cooling slot under no force of a unit whose gate closes: a RUNNING stage stops at the second,
one that runs in keeps its state and is marked. -/
structure UnitRec.GateStopped (now : Nat) (a b : UnitRec) (i : Slot) : Prop where
  running : a.stages[i].state = .running →
    b.stages[i].state.isOn = false ∧ b.stages[i].stopTime = some now ∧ b.target.has i = false
  runsIn : a.stages[i].RunsIn → b.stages[i].state = a.stages[i].state ∧ b.stages[i].stopPending = true

/-- R69: a settlement behind a closed gate. -/
theorem settle_gateStopped (e : Env) {u : UnitIx} {i : Slot} {r : Roof} (hs : (r.plant.unit u).state.isSettled = true)
    (h : (r.plant.unit u).Gated i) :
    UnitRec.GateStopped e.now (r.plant.unit u) ((settle e u r).plant.unit u) i := by
  obtain ⟨htarget, hstages⟩ := settle_unit e hs
  have hmark : (settleMarks e u (r.plant.unit u)).stages[i] =
      settleStage e u (r.plant.unit u) i (r.plant.unit u).stages[i] := UnitRec.mapStages_stages ..
  have hreselected := hstages i
  rw [hmark] at hreselected
  refine ⟨fun hrun => ?_, fun hrun => ?_⟩
  · rw [settleStage_running e u h hrun] at hmark hreselected
    have hstopped := stopStage_stoppedAt e.now (minOffOf e.tables u i) (r.plant.unit u).stages[i]
    refine ⟨?_, ?_, ?_⟩
    · rcases hreselected with hsame | ⟨-, hfree⟩
      · rw [hsame]
        exact hstopped.off
      · exact StageState.isFree_off hfree
    · refine ((settle_turns_marks e hs).stage u i).stopTime_now ?_
      obtain ⟨order, hunit⟩ := moveUnit_unit_self e u (fun p => p.modUnit u (settleMarks e u)) r
      rw [hunit, Plant.unit_modUnit_self]
      exact (congrArg Stage.stopTime hmark).trans hstopped.stopTime
    · rw [htarget, scheduledMap_has, hmark]
      exact hstopped.off
  · rw [settleStage_runsIn e u h hrun] at hreselected
    rcases hreselected with hsame | ⟨hfree, -⟩
    · rw [hsame]
      exact ⟨rfl, rfl⟩
    · exact absurd (StageState.isFree_off hfree) (by rw [hrun.isOn]; nofun)

/-- What the gate has stopped stays stopped under work that holds it still. -/
theorem UnitRec.GateStopped.stays {e : Env} {p q : Plant} {a : UnitRec} {u : UnitIx} {i : Slot}
    (h : UnitRec.GateStopped e.now a (p.unit u) i) (hi : (p.unit u).Gated i) (hstays : p.StaysGated q)
    (hturns : p.Turns e q) (hruns : p.RunsOn e q) : UnitRec.GateStopped e.now a (q.unit u) i where
  running hrun := by
    obtain ⟨hoff, hstop, htarget⟩ := h.running hrun
    obtain ⟨hoff', htarget'⟩ := (hstays.unit u).rests i hi ⟨hoff, htarget⟩
    exact ⟨hoff', (hturns.stage u i).stopTime_now hstop, htarget'⟩
  runsIn hrun := by
    obtain ⟨hstate, hmarked⟩ := h.runsIn hrun
    have hin : (p.unit u).stages[i].RunsIn := hrun.imp hstate.trans hstate.trans
    refine ⟨?_, ((hstays.unit u).ends i hi ⟨hin, hmarked⟩).2⟩
    rw [(hruns.stage u i).kept hin]
    exact hstate

/-! ### The evaluation of the gates (R132) -/

/-- R132: of the units settled for a change of their gate, each is settled once, as the evaluation left it. -/
theorem evaluateGates_unit (e : Env) (also : UnitIx → Bool) {u : UnitIx} {r : Roof}
    (h : gateEval e.tables e.rotation e.now u ≠ (r.plant.unit u).gateClosed) :
    ∃ m : Roof, m.plant.unit u = { r.plant.unit u with gateClosed := gateEval e.tables e.rotation e.now u } ∧
      (evaluateGates e also r).plant.unit u = (settle e u m).plant.unit u := by
  let due (v : UnitIx) : Bool := decide (gateEval e.tables e.rotation e.now v ≠ (r.plant.unit v).gateClosed) || also v
  have hdue : due u = true := Bool.or_eq_true_iff.2 (.inl (decide_eq_true h))
  obtain ⟨m, hm, hafter⟩ := foldl_through (R := fun a b : Roof => b.plant.unit u = a.plant.unit u) (fun _ => rfl)
    (fun _ _ _ hab hbc => hbc.trans hab) (fun q v => if due v then settle e v q else q) allUnits_nodup (mem_allUnits u)
    (fun q v _ hv => by
      split
      · exact settle_unit_other e hv.symm q
      · rfl) (r.onPlant (withGates e))
  rw [if_pos hdue] at hafter
  exact ⟨m, hm.trans (withGates_unit e r.plant u), hafter⟩

theorem evaluateGates_gate (e : Env) (also : UnitIx → Bool) (r : Roof) (u : UnitIx) :
    ((evaluateGates e also r).plant.unit u).gateClosed = gateEval e.tables e.rotation e.now u := by
  refine ((settleAll_moves e _ (r.onPlant (withGates e))).unit u).gateClosed.trans ?_
  rw [Roof.onPlant_plant, withGates_unit]

/-- R132: the evaluation that closes a settled unit's gate stops its cooling slots. -/
theorem evaluateGates_closes (e : Env) (also : UnitIx → Bool) {u : UnitIx} {i : Slot} {r : Roof}
    (hopen : (r.plant.unit u).gateClosed = false) (hcloses : gateEval e.tables e.rotation e.now u = true)
    (hs : (r.plant.unit u).state.isSettled = true) (hi : slotKind i = .cool)
    (hforce : (r.plant.unit u).stages[i].force = .none) :
    let y := (evaluateGates e also r).plant.unit u
    UnitRec.GateStopped e.now (r.plant.unit u) y i ∧ y.Gated i := by
  obtain ⟨m, hm, hafter⟩ := evaluateGates_unit e also (r := r) (u := u) (by rw [hopen, hcloses]; nofun)
  have hgated : (m.plant.unit u).Gated i := ⟨hi, by rw [hm]; exact hcloses, by rw [hm]; exact hforce⟩
  have hstopped := settle_gateStopped e (by rw [hm]; exact hs) hgated
  intro y
  rw [show y = (settle e u m).plant.unit u from hafter]
  refine ⟨⟨fun hrun => hstopped.running (by rw [hm]; exact hrun), fun hrun => ?_⟩,
    ((settle_staysGated e u m).unit u).gated i hgated⟩
  rw [hm] at hstopped
  exact hstopped.runsIn hrun

/-- Settles O32: the evaluation settles a unit whose gate closes, and no pass behind it starts what it stopped. -/
theorem gatesFollowTheCarriers : Obligations.GatesFollowTheCarriers := by
  refine ⟨fun t rot now u g => ⟨mem_members t g, members_ordered t g, gateEval_groupless rot now,
    fun hfit hgroup => ⟨gateEval_ungated hfit hgroup now, fun epoch => gateEval_own hfit hgroup now,
      fun h hgated hfollow => ⟨gateEval_partner_open hfit hgroup hgated hfollow now,
        fun epoch => gateEval_partner_gated hfit hgroup hgated hfollow now⟩⟩⟩, fun s hready => ?_⟩
  let e := (advanceSecond s).env
  have hticked (u : UnitIx) : (advanceSecond s).roof.plant.unit u = tickUnit (s.plant.unit u) := advanceSecond_unit s u
  obtain ⟨-, -, -, hseconds, -, -, -, hrotation, -⟩ := conclude_frame (tick s)
  have hnow : (conclude (tick s)).seconds = e.now := hseconds
  refine ⟨_, exec_secondsTick hready.1, hrotation, fun u => ?_⟩
  have hgate : ((conclude (tick s)).plant.unit u).gateClosed = gateEval s.tables s.rotation e.now u :=
    ((conclude_moves (tick s)).unit u).gateClosed.trans (evaluateGates_gate e _ _ u)
  rw [hnow]
  refine ⟨hgate, fun hopen hclosed hs i hi hforce => ?_⟩
  have hcool : slotKind i = .cool := if_pos hi
  obtain ⟨hstopped, hgated⟩ := evaluateGates_closes e (fun _ => false) (r := (advanceSecond s).roof) (u := u) (i := i)
    (by rw [hticked]; exact hopen) (hgate.symm.trans hclosed) (by rw [hticked]; exact hs) hcool
    (by rw [hticked]; exact hforce)
  rw [hticked] at hstopped
  have hfinal := UnitRec.GateStopped.stays (e := e) (p := (tick s).plant) hstopped hgated (conclude_staysGated (tick s))
    (conclude_turns (tick s)) (conclude_runsOn (tick s))
  exact ⟨hfinal.running, hfinal.runsIn⟩

end Sys2Proof.Machine

namespace Sys2Proof.Machine

/-! ## A band's pair (R149, R150) -/

/-- R149: a band applies to a folded status. -/
theorem appliesTo_iff (st : Status) (a : AppliesWhen) : appliesTo st a = true ↔
    match a with
    | .any => True
    | .coolingOn => ∃ i : Slot, i.val < 4 ∧ st.run.has i = true
    | .heatingOn => ∃ i : Slot, 4 ≤ i.val ∧ st.run.has i = true := by
  cases a with
  | any => exact iff_true_intro rfl
  | coolingOn => simp only [appliesTo, List.any_eq_true, mem_slotsOf_cool]
  | heatingOn => simp only [appliesTo, List.any_eq_true, mem_slotsOf, slotKind_heat_iff]

theorem evaluatePair_inapplicable {now : Nat} {u : UnitIx} {b : BandRec} {st : Status} (q : BandPair)
    (h : ¬(b.mask.getLsbD u.val = true ∧ appliesTo st b.applies = true)) :
    evaluatePair now u b st q = ⟨.notApplicable, none⟩ :=
  if_neg (by rwa [Bool.and_eq_true])

theorem evaluatePair_applicable {now : Nat} {u : UnitIx} {b : BandRec} {st : Status} (q : BandPair)
    (h : b.mask.getLsbD u.val = true ∧ appliesTo st b.applies = true) :
    evaluatePair now u b st q = ⟨if now - q.anchor.getD now < b.settle then .notApplicable
      else judge b (quantityValue st b.quantity) q.state, some (q.anchor.getD now)⟩ := by
  rw [evaluatePair, if_pos (by rwa [Bool.and_eq_true])]
  dsimp only
  split <;> rfl

/-- R150: a value beyond a limit. -/
theorem judge_beyond {b : BandRec} {v : Int} (was : PairState) (h : v < b.low ∨ b.high < v) :
    judge b (some v) was = .outside := if_pos h

/-- R150: a value within the limits by the hysteresis at least, or in a pair that is not OUTSIDE. -/
theorem judge_within {b : BandRec} {v : Int} {was : PairState} (hlow : b.low ≤ v) (hhigh : v ≤ b.high)
    (h : was = .outside → b.low + b.hysteresis ≤ v ∧ v ≤ b.high - b.hysteresis) :
    judge b (some v) was = .inside := by
  unfold judge
  dsimp only
  rw [if_neg (by omega), if_neg fun hheld => hheld.2 (h hheld.1)]

/-- R150: a value within the limits, but not by the hysteresis, leaves a pair OUTSIDE. -/
theorem judge_held {b : BandRec} {v : Int} (hlow : b.low ≤ v) (hhigh : v ≤ b.high)
    (h : v < b.low + b.hysteresis ∨ b.high - b.hysteresis < v) : judge b (some v) .outside = .outside := by
  unfold judge
  dsimp only
  rw [if_neg (by omega), if_pos ⟨rfl, by omega⟩]

/-- Settles O39: the settle time stands in front of the judgement, and the judgement is by the value's place between
the limits. -/
theorem bandPairIsJudgedByItsLimits : Obligations.BandPairIsJudgedByItsLimits := by
  intro now u b st q applies anchor p
  have happlies : applies ↔ b.mask.getLsbD u.val = true ∧ appliesTo st b.applies = true :=
    and_congr_right' (appliesTo_iff st b.applies).symm
  refine ⟨fun h => evaluatePair_inapplicable q fun h' => h (happlies.2 h'), fun h => ?_⟩
  have hp : p = _ := evaluatePair_applicable q (happlies.1 h)
  rw [hp]
  refine ⟨rfl, fun hearly => if_pos hearly, fun hsettled => ?_⟩
  have hstate : (if now - q.anchor.getD now < b.settle then PairState.notApplicable
      else judge b (quantityValue st b.quantity) q.state) = judge b (quantityValue st b.quantity) q.state :=
    if_neg (Nat.not_lt.2 hsettled)
  dsimp only
  rw [hstate]
  refine ⟨fun hnone => by rw [hnone]; rfl, fun v hv => ?_⟩
  rw [hv]
  exact ⟨judge_beyond q.state, fun hlow hhigh hinside => judge_within hlow hhigh fun hout => absurd hout hinside,
    fun hlow hhigh => judge_within (by omega) (by omega) fun _ => ⟨hlow, hhigh⟩,
    fun hlow hhigh hout hheld => hout ▸ judge_held hlow hhigh hheld⟩

end Sys2Proof.Machine

namespace Sys2Proof.Machine

/-! ## What the work on stages and maps leaves of a unit's protection (R65, R137, R142, R149) -/

/-- A unit record before and after work that judges no condition and starts no slot: its causes, strikes, pairs and
blanking window stay. -/
structure UnitRec.KeepsProtection (a b : UnitRec) : Prop where
  causes : b.causes = a.causes
  strikes : b.strikes = a.strikes
  pairs : b.pairs = a.pairs
  window : b.window = a.window

theorem UnitRec.KeepsProtection.refl (a : UnitRec) : a.KeepsProtection a := ⟨rfl, rfl, rfl, rfl⟩

theorem UnitRec.KeepsProtection.trans {a b c : UnitRec} (h : a.KeepsProtection b) (k : b.KeepsProtection c) :
    a.KeepsProtection c where
  causes := k.causes.trans h.causes
  strikes := k.strikes.trans h.strikes
  pairs := k.pairs.trans h.pairs
  window := k.window.trans h.window

/-- Such work in a plant. -/
structure Plant.KeepsProtection (p q : Plant) : Prop where
  unit : ∀ v : UnitIx, (p.unit v).KeepsProtection (q.unit v)

theorem Plant.KeepsProtection.of_units {p q : Plant} (h : q.units = p.units := by rfl) : p.KeepsProtection q where
  unit v := by
    rw [Plant.unit_congr h]
    exact .refl _

theorem Plant.KeepsProtection.refl (p : Plant) : p.KeepsProtection p := .of_units

theorem Plant.KeepsProtection.trans {p q r : Plant} (h : p.KeepsProtection q) (k : q.KeepsProtection r) :
    p.KeepsProtection r := ⟨fun v => (h.unit v).trans (k.unit v)⟩

theorem Plant.keepsProtection_modUnit (p : Plant) (u : UnitIx) {f : UnitRec → UnitRec}
    (h : (p.unit u).KeepsProtection (f (p.unit u)) := by exact ⟨rfl, rfl, rfl, rfl⟩) :
    p.KeepsProtection (p.modUnit u f) where
  unit v := by
    rw [Plant.unit_modUnit]
    split
    · next hv => exact hv ▸ h
    · exact .refl _

/-! ### The sequencer -/

theorem reselect_keepsProtection (u : UnitIx) (p : Plant) : p.KeepsProtection (reselect u p) :=
  p.keepsProtection_modUnit u

theorem writeTarget_keepsProtection (prot : Bool) (u : UnitIx) (m : StageMap) (p : Plant) :
    p.KeepsProtection (writeTarget prot u m p) := by
  unfold writeTarget
  split
  · exact .refl p
  · have hwrite : p.KeepsProtection (p.modUnit u fun r => { r with target := m, fresh := false }) :=
      p.keepsProtection_modUnit u
    dsimp only
    split
    · exact hwrite.trans .of_units
    · exact hwrite

theorem refreshTarget_keepsProtection (prot : Bool) (u : UnitIx) (p : Plant) :
    p.KeepsProtection (refreshTarget prot u p) := by
  have hwrite := writeTarget_keepsProtection prot u (scheduledMap (p.unit u)) p
  unfold refreshTarget
  split
  · exact hwrite
  · exact hwrite
  · exact hwrite
  · exact .refl p
  · exact .refl p

theorem moveUnit_keepsProtection (e : Env) (u : UnitIx) {f : Plant → Plant} {r : Roof}
    (h : r.plant.KeepsProtection (f r.plant)) : r.plant.KeepsProtection (moveUnit e u f r).plant := by
  rcases moveUnit_plant e u f r with hp | ⟨order, hp⟩
  · rwa [hp]
  · rw [hp]
    exact h.trans ((f r.plant).keepsProtection_modUnit u)

/-- A move of one unit's record. -/
theorem movedUnit_keepsProtection (e : Env) (u : UnitIx) {f : UnitRec → UnitRec} (r : Roof)
    (h : (r.plant.unit u).KeepsProtection (f (r.plant.unit u)) := by exact ⟨rfl, rfl, rfl, rfl⟩) :
    r.plant.KeepsProtection (moveUnit e u (fun p => p.modUnit u f) r).plant :=
  moveUnit_keepsProtection e u (r.plant.keepsProtection_modUnit u h)

theorem examineUnit_keepsProtection (e : Env) (u : UnitIx) (r : Roof) :
    r.plant.KeepsProtection (examineUnit e u r).plant :=
  moveUnit_keepsProtection e u ((Plant.KeepsProtection.of_units ((examine_units ..).trans (examine_units ..))).trans
    (reselect_keepsProtection ..))

theorem withdrawEntries_keepsProtection (e : Env) (u : UnitIx) (r : Roof) :
    r.plant.KeepsProtection (withdrawEntries e u r).plant :=
  moveUnit_keepsProtection e u (Plant.KeepsProtection.trans (q := (r.plant.dropEntry u .cool).dropEntry u .heat)
    .of_units (reselect_keepsProtection ..))

theorem settle_keepsProtection (e : Env) (u : UnitIx) (r : Roof) : r.plant.KeepsProtection (settle e u r).plant := by
  unfold settle
  split
  · have hmarks : r.plant.KeepsProtection (moveUnit e u (fun p => p.modUnit u (settleMarks e u)) r).plant :=
      movedUnit_keepsProtection e u r
    refine hmarks.trans (Plant.KeepsProtection.trans ?_ (examineUnit_keepsProtection ..))
    exact refreshTarget_keepsProtection ..
  · exact .refl _

/-- A move of the unit's stages, the map written again and the settlement: what a trip and a release are. -/
theorem settled_keepsProtection (e : Env) (u : UnitIx) (prot : Bool) (f : UnitRec → UnitRec) (r : Roof)
    (h : (r.plant.unit u).KeepsProtection (f (r.plant.unit u))) :
    r.plant.KeepsProtection
      (settle e u ((moveUnit e u (fun p => p.modUnit u f) r).onPlant (refreshTarget prot u))).plant :=
  ((movedUnit_keepsProtection e u r h).trans (refreshTarget_keepsProtection prot u _)).trans
    (settle_keepsProtection e u ((moveUnit e u (fun p => p.modUnit u f) r).onPlant (refreshTarget prot u)))

theorem tripSlots_keepsProtection (e : Env) (u : UnitIx) (scope : Slot → Bool) (r : Roof) :
    r.plant.KeepsProtection (tripSlots e u scope r).plant :=
  settled_keepsProtection e u true (tripRecord e u scope) r ⟨rfl, rfl, rfl, rfl⟩

theorem releaseSlots_keepsProtection (e : Env) (u : UnitIx) (scope : Slot → Bool) (r : Roof) :
    r.plant.KeepsProtection (releaseSlots e u scope r).plant :=
  settled_keepsProtection e u false (releaseRecord e u scope) r ⟨rfl, rfl, rfl, rfl⟩

/-! ### A fold before its conditions are read (R46 to R56, R79) -/

/-- R55: the unit's record as it enters LOCAL. -/
def localRecord (e : Env) (u : UnitIx) (x : UnitRec) : UnitRec :=
  { x.mapStages fun i st =>
      if (e.cfg u).bound i && !st.state.isTripped then { st with state := .inLocal, stopPending := false } else st with
    state := .inLocal }

theorem enterLocal_eq (e : Env) (u : UnitIx) (r : Roof) : enterLocal e u r =
    (withdrawEntries e u (r.onPlant fun p => p.modUnit u (localRecord e u))).onPlant fun p => p.dropInjection u := rfl

theorem enterLocal_keepsProtection (e : Env) (u : UnitIx) (r : Roof) :
    r.plant.KeepsProtection (enterLocal e u r).plant := by
  have hmoved : r.plant.KeepsProtection (r.plant.modUnit u (localRecord e u)) := r.plant.keepsProtection_modUnit u
  rw [enterLocal_eq]
  exact (hmoved.trans (withdrawEntries_keepsProtection e u (r.onPlant fun p => p.modUnit u (localRecord e u)))).trans
    .of_units

theorem leaveLocal_keepsProtection (e : Env) (u : UnitIx) (next : UnitState) (r : Roof) :
    r.plant.KeepsProtection (leaveLocal e u next r).plant :=
  (movedUnit_keepsProtection e u r).trans (refreshTarget_keepsProtection ..)

theorem repetition_keepsProtection (u : UnitIx) (p : Plant) : p.KeepsProtection (repetition u p) := by
  unfold repetition
  dsimp only
  split
  · exact .of_units
  · exact .refl p

theorem adoptOnline_keepsProtection (e : Env) (u : UnitIx) (run : StageMap) (r : Roof) :
    r.plant.KeepsProtection (adoptOnline e u run r).plant := by
  have hcompared : r.plant.KeepsProtection (comparedRoof e u run r).plant := movedUnit_keepsProtection e u r
  have hadopted (p : Plant) : p.KeepsProtection (adoptedPlant u run p) :=
    (writeTarget_keepsProtection false u _ p).trans (Plant.keepsProtection_modUnit _ u)
  rw [adoptOnline_eq, Roof.onPlant_plant]
  refine Plant.KeepsProtection.trans ?_ (repetition_keepsProtection ..)
  refine Plant.KeepsProtection.trans ?_ (settle_keepsProtection ..)
  rw [Roof.raise_plant, Roof.onPlant_plant]
  exact hcompared.trans (hadopted _)

theorem foldState_keepsProtection (e : Env) (u : UnitIx) (st : Status) (r : Roof) :
    r.plant.KeepsProtection (foldState e u st r).plant := by
  have hadoptLocal : r.plant.KeepsProtection (adoptLocal e u r).plant := by
    have hcleared : r.plant.KeepsProtection (clearedRoof u r).plant :=
      r.plant.keepsProtection_modUnit u (f := fun x => { x with failures := 0, notProven := tabulate fun _ => 0 })
    rw [adoptLocal_plant]
    exact hcleared.trans (enterLocal_keepsProtection e u (clearedRoof u r))
  unfold foldState
  split
  · exact adoptOnline_keepsProtection ..
  · exact adoptOnline_keepsProtection ..
  · exact hadoptLocal
  · exact hadoptLocal
  · exact enterLocal_keepsProtection ..
  · exact (leaveLocal_keepsProtection e u .online r).trans (settle_keepsProtection ..)
  · exact .refl _
  · exact .refl _
  · exact .refl _

theorem foldLocalMaps_keepsProtection (u : UnitIx) (st : Status) (r : Roof) :
    r.plant.KeepsProtection (foldLocalMaps u st r).plant := by
  have hfollowed (p : Plant) : p.KeepsProtection (followReport u st.run p) :=
    (writeTarget_keepsProtection false u st.run p).trans (Plant.keepsProtection_modUnit _ u)
  unfold foldLocalMaps
  split
  · exact hfollowed r.plant
  · exact .refl _

theorem foldProving_keepsProtection (e : Env) (u : UnitIx) (st : Status) (r : Roof) :
    r.plant.KeepsProtection (foldProving e u st r).plant := by
  unfold foldProving
  split
  · refine foldl_related (R := fun a b : Roof => a.plant.KeepsProtection b.plant) (fun a => .refl _)
      (fun _ _ _ => .trans) _ _ (fun q i _ => ?_) r
    obtain ⟨n, hplant⟩ := proveSlot_plant e u st q i
    rw [hplant]
    exact q.plant.keepsProtection_modUnit u
  · exact .refl _

/-- The roof as the conditions of a fold find it. -/
def provedRoof (e : Env) (u : UnitIx) (l : List Byte) (r : Roof) : Roof :=
  let st := statusOf (e.cfg u) l
  foldProving e u st (foldLocalMaps u st (foldState e u st (storedRoof e u l r)))

theorem fold_eq_judged (e : Env) (u : UnitIx) (l : List Byte) (r : Roof) : fold e u l r =
    foldBands e u (statusOf (e.cfg u) l) (foldFaults e u (statusOf (e.cfg u) l) (provedRoof e u l r)) := rfl

theorem provedRoof_keepsProtection (e : Env) (u : UnitIx) (l : List Byte) (r : Roof) :
    r.plant.KeepsProtection (provedRoof e u l r).plant := by
  have hstored : r.plant.KeepsProtection (storedRoof e u l r).plant := by
    rw [storedRoof_plant]
    exact r.plant.keepsProtection_modUnit u
  exact ((hstored.trans (foldState_keepsProtection ..)).trans (foldLocalMaps_keepsProtection ..)).trans
    (foldProving_keepsProtection ..)

end Sys2Proof.Machine

namespace Sys2Proof.Machine

/-! ## The causes and strikes of one class and position (R135, R137, R142) -/

/-- R137: the causes of a class and position; one at most in a sound list. -/
def causesOf (cls : TripClass) (pos : Option Nat) (cs : List Cause) : List Cause := cs.filter (·.isOf cls pos)

theorem mem_causesOf {cls : TripClass} {pos : Option Nat} {cs : List Cause} {c : Cause} :
    c ∈ causesOf cls pos cs ↔ c ∈ cs ∧ c.tripClass = cls ∧ c.position = pos := by
  rw [causesOf, List.mem_filter, Cause.isOf_iff]

theorem causesOf_eq_nil_iff {cls : TripClass} {pos : Option Nat} {cs : List Cause} :
    causesOf cls pos cs = [] ↔ ∀ c ∈ cs, ¬(c.tripClass = cls ∧ c.position = pos) := by
  simp only [causesOf, List.filter_eq_nil_iff, Cause.isOf_iff]

theorem causesOf_eq_nil_iff_holds {cls : TripClass} {pos : Option Nat} {x : UnitRec} :
    causesOf cls pos x.causes = [] ↔ holdsCause x cls pos = false := by
  rw [causesOf_eq_nil_iff, holdsCause_eq_false_iff]

/-- R137: a sound cause list holds no other cause of a cause's class and position. -/
theorem CausesSound.causesOf_eq {x : UnitRec} (h : CausesSound x) {c : Cause} (hc : c ∈ x.causes) :
    causesOf c.tripClass c.position x.causes = [c] := by
  obtain ⟨before, behind, hl⟩ := List.append_of_mem hc
  obtain ⟨hsound, -⟩ := h
  rw [hl] at hsound
  obtain ⟨-, hbehind, hbefore⟩ := List.pairwise_append.1 hsound
  have hfront : causesOf c.tripClass c.position before = [] :=
    causesOf_eq_nil_iff.2 fun d hd => hbefore d hd c (List.mem_cons_self ..)
  have hback : causesOf c.tripClass c.position behind = [] :=
    causesOf_eq_nil_iff.2 fun d hd hkey =>
      (List.pairwise_cons.1 hbehind).1 d hd ⟨hkey.1.symm, hkey.2.symm⟩
  rw [causesOf] at hfront hback
  rw [hl, causesOf, List.filter_append, hfront, List.filter_cons, if_pos ((c.isOf_iff ..).2 ⟨rfl, rfl⟩), hback,
    List.nil_append]

/-- A cause of one class and position is of no other. -/
theorem Cause.isOf_apart {c : Cause} {cls cls' : TripClass} {pos pos' : Option Nat} (h : ¬(cls' = cls ∧ pos' = pos))
    (hc : c.isOf cls pos = true) : c.isOf cls' pos' = false := by
  obtain ⟨rfl, rfl⟩ := (c.isOf_iff ..).1 hc
  refine Bool.eq_false_iff.2 fun hc' => h ?_
  obtain ⟨hcls, hpos⟩ := (c.isOf_iff ..).1 hc'
  exact ⟨hcls.symm, hpos.symm⟩

/-- A cause changed where it is of the class and position. -/
def Cause.marked (cls : TripClass) (pos : Option Nat) (f : Cause → Cause) (c : Cause) : Cause :=
  if c.isOf cls pos then f c else c

section
variable {cls cls' : TripClass} {pos pos' : Option Nat} {f : Cause → Cause}

theorem causesOf_map_marked_self (hf : ∀ c cls pos, (f c).isOf cls pos = c.isOf cls pos) (cs : List Cause) :
    causesOf cls pos (cs.map (Cause.marked cls pos f)) = (causesOf cls pos cs).map f := by
  have hkey (c : Cause) : (c.marked cls pos f).isOf cls pos = c.isOf cls pos := by
    unfold Cause.marked
    split
    · exact hf c cls pos
    · rfl
  rw [causesOf, List.filter_map]
  refine (congrArg _ (List.filter_congr fun c _ => hkey c)).trans (List.map_congr_left fun c hc => ?_)
  exact if_pos (List.mem_filter.1 hc).2

theorem causesOf_map_marked_apart (hf : ∀ c cls pos, (f c).isOf cls pos = c.isOf cls pos)
    (h : ¬(cls' = cls ∧ pos' = pos)) (cs : List Cause) :
    causesOf cls pos (cs.map (Cause.marked cls' pos' f)) = causesOf cls pos cs := by
  have hkey (c : Cause) : (c.marked cls' pos' f).isOf cls pos = c.isOf cls pos := by
    unfold Cause.marked
    split
    · exact hf c cls pos
    · rfl
  rw [causesOf, List.filter_map]
  refine (congrArg _ (List.filter_congr fun c _ => hkey c)).trans ((List.map_congr_left fun c hc => ?_).trans
    (List.map_id _))
  rw [Cause.marked, Cause.isOf_apart h (List.mem_filter.1 hc).2]
  rfl

theorem causesOf_removed_self (cs : List Cause) :
    causesOf cls pos (cs.filter fun d => !d.isOf cls pos) = [] :=
  causesOf_eq_nil_iff.2 fun c hc hkey => by
    have hnot := (List.mem_filter.1 hc).2
    rw [(c.isOf_iff ..).2 hkey] at hnot
    cases hnot

theorem causesOf_removed_apart (h : ¬(cls' = cls ∧ pos' = pos)) (cs : List Cause) :
    causesOf cls pos (cs.filter fun d => !d.isOf cls' pos') = causesOf cls pos cs := by
  rw [causesOf, List.filter_filter]
  refine List.filter_congr fun c _ => ?_
  cases hc : c.isOf cls pos with
  | false => rfl
  | true => rw [Cause.isOf_apart h hc]; rfl

theorem causesOf_joined_apart {c : Cause} (h : ¬(c.tripClass = cls ∧ c.position = pos)) (cs : List Cause) :
    causesOf cls pos (cs ++ [c]) = causesOf cls pos cs := by
  rw [causesOf, List.filter_append, List.filter_cons, if_neg (by rwa [Cause.isOf_iff]), List.filter_nil, List.append_nil]
  rfl

theorem causesOf_joined_self (c : Cause) (cs : List Cause) :
    causesOf c.tripClass c.position (cs ++ [c]) = causesOf c.tripClass c.position cs ++ [c] := by
  rw [causesOf, List.filter_append, List.filter_cons, if_pos ((c.isOf_iff ..).2 ⟨rfl, rfl⟩), List.filter_nil]
  rfl

/-- R142: the strikes of one class and position, where those of another are written. -/
theorem strikesOf_setStrikes_apart (h : ¬(cls' = cls ∧ pos' = pos)) (times : List Nat) (x : UnitRec) :
    strikesOf (setStrikes cls' pos' times x) cls pos = strikesOf x cls pos := by
  let isKey (s : StrikeList) : Bool := decide (s.tripClass = cls) && decide (s.position = pos)
  have hothers : (x.strikes.filter fun s => !(decide (s.tripClass = cls') && decide (s.position = pos'))).find? isKey =
      x.strikes.find? isKey := by
    rw [List.find?_filter]
    congr 1
    funext s
    by_cases hs : s.tripClass = cls ∧ s.position = pos
    · have hother : ¬cls = cls' ∨ ¬pos = pos' := not_and_or.1 fun ho => h ⟨ho.1.symm, ho.2.symm⟩
      simpa [isKey, hs.1, hs.2] using hother
    · have hkey : isKey s = false := by simpa [isKey] using hs
      simp [hkey]
  have hfind : (setStrikes cls' pos' times x).strikes.find? isKey = x.strikes.find? isKey := by
    unfold setStrikes
    dsimp only
    split
    · exact hothers
    · rw [List.find?_append, hothers, List.find?_cons_of_neg (by simpa [isKey] using h), List.find?_nil, Option.or_none]
  exact congrArg (fun o : Option StrikeList => match o with | some s => s.times | none => []) hfind

/-- R144: an emptied strike list. -/
theorem strikesOf_setStrikes_nil (x : UnitRec) : strikesOf (setStrikes cls pos [] x) cls pos = [] := by
  have hnone : (setStrikes cls pos [] x).strikes.find?
      (fun s => decide (s.tripClass = cls) && decide (s.position = pos)) = none :=
    List.find?_eq_none.2 fun s hs hkey => by
      have hother := (List.mem_filter.1 hs).2
      rw [hkey] at hother
      cases hother
  rw [strikesOf, hnone]

end

end Sys2Proof.Machine

namespace Sys2Proof.Machine

/-! ## One condition of a fold (R138 to R143) -/

/-- R135, R138, R151: a condition that a fold reads: the class and position of its cause, the applies-when of a band, and
whether the unit's record shows it. -/
structure Condition where
  tripClass : TripClass
  position : Option Nat
  applies : AppliesWhen
  shown : UnitRec → Bool

/-- R140: the cause a condition enters. -/
def Condition.cause (e : Env) (k : Condition) : Cause :=
  ⟨k.tripClass, k.position, k.applies, latchedAtEntry e.tables k.tripClass, true, e.now⟩

/-- R139: a condition of the class is set aside. -/
def setsAside (e : Env) (x : UnitRec) (cls : TripClass) : Bool := blankable e.tables cls && x.window.isSome

/-- R138, R139: the unit's record behind the entry of a condition's cause. -/
def enteredRecord (e : Env) (k : Condition) (x : UnitRec) : UnitRec :=
  if k.shown x = true ∧ causesOf k.tripClass k.position x.causes = [] ∧ setsAside e x k.tripClass = false then
    { x with causes := x.causes ++ [k.cause e] }
  else x

/-- R141, R142: the unit's record behind the strike of a cause and its release or escalation. -/
def releasedRecord (e : Env) (c : Cause) (x : UnitRec) : UnitRec :=
  match policyOf e.tables c.tripClass with
  | none => { x with causes := x.causes.filter fun d => !d.isOf c.tripClass c.position }
  | some pol =>
    let times := strike e.now e.tables.roof.strikeWindow (strikesOf x c.tripClass c.position)
    { setStrikes c.tripClass c.position times x with
      causes := if pol.strikeLimit ≤ times.length then x.causes.map c.escalated
        else x.causes.filter fun d => !d.isOf c.tripClass c.position }

/-- R138: a cause with its condition flag written. -/
def Cause.withPresent (b : Bool) (c : Cause) : Cause := { c with present := b }

/-- R141: a cause as its escalation leaves it. -/
def Cause.latch (c : Cause) : Cause := { c with latched := true, present := false }

theorem Cause.escalated_eq_marked (c : Cause) : c.escalated = Cause.marked c.tripClass c.position Cause.latch := rfl

/-- R138: the unit's record with the condition flag of a condition's cause written. -/
def flaggedRecord (k : Condition) (x : UnitRec) : UnitRec :=
  { x with causes := x.causes.map (Cause.marked k.tripClass k.position (Cause.withPresent (k.shown x))) }

/-- R138, R143: the unit's record where the cause of a condition has followed it. -/
def followedRecord (e : Env) (k : Condition) (x : UnitRec) : UnitRec :=
  match (causesOf k.tripClass k.position (flaggedRecord k x).causes).head? with
  | none => flaggedRecord k x
  | some c => if k.shown x = true ∨ c.latched = true then flaggedRecord k x else releasedRecord e c (flaggedRecord k x)

/-! ### The model's steps write these records -/

theorem tripSlots_record (e : Env) (u : UnitIx) (scope : Slot → Bool) {r : Roof} {x : UnitRec}
    (h : r.plant.unit u = x) : x.KeepsProtection ((tripSlots e u scope r).plant.unit u) :=
  h ▸ (tripSlots_keepsProtection e u scope r).unit u

theorem releaseSlots_record (e : Env) (u : UnitIx) (scope : Slot → Bool) {r : Roof} {x : UnitRec}
    (h : r.plant.unit u = x) : x.KeepsProtection ((releaseSlots e u scope r).plant.unit u) :=
  h ▸ (releaseSlots_keepsProtection e u scope r).unit u

theorem enterIfShown_record (e : Env) (u : UnitIx) (k : Condition) (r : Roof) :
    (enteredRecord e k (r.plant.unit u)).KeepsProtection
      ((enterIfShown e u (k.shown (r.plant.unit u)) k.tripClass k.position k.applies r).plant.unit u) := by
  have hcondition : (k.shown (r.plant.unit u) = true ∧ (!holdsCause (r.plant.unit u) k.tripClass k.position) = true ∧
      (!(blankable e.tables k.tripClass && (r.plant.unit u).window.isSome)) = true) ↔
      (k.shown (r.plant.unit u) = true ∧ causesOf k.tripClass k.position (r.plant.unit u).causes = [] ∧
        setsAside e (r.plant.unit u) k.tripClass = false) := by
    rw [causesOf_eq_nil_iff_holds, Bool.not_eq_true', Bool.not_eq_true']
    rfl
  unfold enterIfShown enteredRecord
  dsimp only
  by_cases h : k.shown (r.plant.unit u) = true ∧ causesOf k.tripClass k.position (r.plant.unit u).causes = [] ∧
      setsAside e (r.plant.unit u) k.tripClass = false
  · rw [if_pos (hcondition.2 h), if_pos h, enterCause_eq]
    exact tripSlots_record e u _ (heldRoof_unit e u (k.cause e) r)
  · rw [if_neg (mt hcondition.1 h), if_neg h]
    exact .refl _

theorem removeCause_record (e : Env) (u : UnitIx) (c : Cause) (r : Roof) :
    UnitRec.KeepsProtection { r.plant.unit u with
        causes := (r.plant.unit u).causes.filter fun d => !d.isOf c.tripClass c.position }
      ((removeCause e u c r).plant.unit u) := by
  rw [removeCause_eq]
  refine releaseSlots_record e u _ ?_
  rw [clearedOf, Roof.raise_plant, Roof.onPlant_plant, Plant.unit_modUnit_self]

theorem escalateCause_record (e : Env) (u : UnitIx) (c : Cause) (held : Nat) (r : Roof) :
    UnitRec.KeepsProtection { r.plant.unit u with causes := (r.plant.unit u).causes.map c.escalated }
      ((escalateCause e u c held r).plant.unit u) := by
  rw [escalateCause_eq, Roof.raise_plant]
  exact tripSlots_record e u _ (escalatedOf_unit u c r)

theorem releaseCause_record (e : Env) (u : UnitIx) (c : Cause) (r : Roof) :
    (releasedRecord e c (r.plant.unit u)).KeepsProtection ((releaseCause e u c r).plant.unit u) := by
  unfold releasedRecord
  cases hpol : policyOf e.tables c.tripClass with
  | none =>
    rw [releaseCause, hpol]
    exact removeCause_record e u c r
  | some pol =>
    dsimp only
    rw [releaseCause_editable e u c r hpol]
    have hescalated (times : List Nat) := escalateCause_record e u c times.length (struckRoof u c times r)
    have hremoved (times : List Nat) := removeCause_record e u c (struckRoof u c times r)
    simp only [struckRoof_unit] at hescalated hremoved
    split
    · exact hescalated _
    · exact hremoved _

theorem followCondition_record (e : Env) (u : UnitIx) (k : Condition) (r : Roof) :
    (followedRecord e k (r.plant.unit u)).KeepsProtection
      ((followCondition e u (k.shown (r.plant.unit u)) k.tripClass k.position r).plant.unit u) := by
  let flagged : Roof := { r with plant := setPresent u k.tripClass k.position (k.shown (r.plant.unit u)) r.plant }
  have hflagged : flagged.plant.unit u = flaggedRecord k (r.plant.unit u) := Plant.unit_modUnit_self ..
  have hfollows : followCondition e u (k.shown (r.plant.unit u)) k.tripClass k.position r =
      match (causesOf k.tripClass k.position (flaggedRecord k (r.plant.unit u)).causes).head? with
      | none => flagged
      | some c => if k.shown (r.plant.unit u) = true ∨ c.latched = true then flagged else releaseCause e u c flagged := by
    rw [causesOf, List.head?_filter, ← hflagged]
    rfl
  rw [hfollows, followedRecord]
  cases (causesOf k.tripClass k.position (flaggedRecord k (r.plant.unit u)).causes).head? with
  | none =>
    dsimp only
    rw [hflagged]
    exact .refl _
  | some c =>
    dsimp only
    split
    · rw [hflagged]
      exact .refl _
    · rw [← hflagged]
      exact releaseCause_record e u c flagged

/-! ### What a condition leaves of the others -/

/-- A unit record before and after work on other conditions than the one of the class and position. -/
structure UnitRec.KeepsCause (cls : TripClass) (pos : Option Nat) (a b : UnitRec) : Prop where
  causes : causesOf cls pos b.causes = causesOf cls pos a.causes
  strikes : strikesOf b cls pos = strikesOf a cls pos
  window : b.window = a.window

section
variable {cls : TripClass} {pos : Option Nat}

theorem UnitRec.KeepsCause.refl (a : UnitRec) : a.KeepsCause cls pos a := ⟨rfl, rfl, rfl⟩

theorem UnitRec.KeepsCause.trans {a b c : UnitRec} (h : a.KeepsCause cls pos b) (k : b.KeepsCause cls pos c) :
    a.KeepsCause cls pos c :=
  ⟨k.causes.trans h.causes, k.strikes.trans h.strikes, k.window.trans h.window⟩

theorem UnitRec.KeepsProtection.keepsCause {a b : UnitRec} (h : a.KeepsProtection b) : a.KeepsCause cls pos b :=
  ⟨by rw [h.causes], strikesOf_congr h.strikes cls pos, h.window⟩

theorem enteredRecord_keepsCause (e : Env) {k : Condition} (h : ¬(k.tripClass = cls ∧ k.position = pos)) (x : UnitRec) :
    x.KeepsCause cls pos (enteredRecord e k x) := by
  unfold enteredRecord
  split
  · exact ⟨causesOf_joined_apart h x.causes, rfl, rfl⟩
  · exact .refl x

theorem releasedRecord_keepsCause (e : Env) {c : Cause} (h : ¬(c.tripClass = cls ∧ c.position = pos)) (x : UnitRec) :
    x.KeepsCause cls pos (releasedRecord e c x) := by
  unfold releasedRecord
  split
  · exact ⟨causesOf_removed_apart h x.causes, rfl, rfl⟩
  · refine ⟨?_, strikesOf_setStrikes_apart h _ x, rfl⟩
    dsimp only
    split
    · exact causesOf_map_marked_apart (f := Cause.latch) (fun _ _ _ => rfl) h x.causes
    · exact causesOf_removed_apart h x.causes

theorem flaggedRecord_keepsCause {k : Condition} (h : ¬(k.tripClass = cls ∧ k.position = pos)) (x : UnitRec) :
    x.KeepsCause cls pos (flaggedRecord k x) :=
  ⟨causesOf_map_marked_apart (f := Cause.withPresent (k.shown x)) (fun _ _ _ => rfl) h x.causes, rfl, rfl⟩

theorem followedRecord_keepsCause (e : Env) {k : Condition} (h : ¬(k.tripClass = cls ∧ k.position = pos))
    (x : UnitRec) : x.KeepsCause cls pos (followedRecord e k x) := by
  have hflagged := flaggedRecord_keepsCause h x
  unfold followedRecord
  split
  · exact hflagged
  · next c hc =>
    split
    · exact hflagged
    · obtain ⟨-, hcls, hpos⟩ := mem_causesOf.1 (List.mem_of_mem_head? hc)
      exact hflagged.trans (releasedRecord_keepsCause e (by rwa [hcls, hpos]) _)

end

/-! ### The pairs stay (R149) -/

theorem enteredRecord_pairs (e : Env) (k : Condition) (x : UnitRec) : (enteredRecord e k x).pairs = x.pairs := by
  unfold enteredRecord
  split <;> rfl

theorem releasedRecord_pairs (e : Env) (c : Cause) (x : UnitRec) : (releasedRecord e c x).pairs = x.pairs := by
  unfold releasedRecord
  split <;> rfl

theorem followedRecord_pairs (e : Env) (k : Condition) (x : UnitRec) : (followedRecord e k x).pairs = x.pairs := by
  unfold followedRecord
  split
  · rfl
  · split
    · rfl
    · exact releasedRecord_pairs ..

/-! ### What becomes of the condition's own cause (R138, R139, R141 to R143) -/

section
variable {e : Env} {k : Condition} {x : UnitRec} {c : Cause}

theorem enteredRecord_held (h : causesOf k.tripClass k.position x.causes ≠ []) : enteredRecord e k x = x :=
  if_neg fun ⟨_, hnone, _⟩ => h hnone

theorem enteredRecord_idle (h : k.shown x = false ∨ setsAside e x k.tripClass = true) : enteredRecord e k x = x :=
  if_neg fun ⟨hshown, _, hfree⟩ => by
    rcases h with hhidden | haside
    · exact Bool.false_ne_true (hhidden.symm.trans hshown)
    · exact Bool.false_ne_true (hfree.symm.trans haside)

theorem enteredRecord_enters (h : causesOf k.tripClass k.position x.causes = []) (hshown : k.shown x = true)
    (haside : setsAside e x k.tripClass = false) :
    causesOf k.tripClass k.position (enteredRecord e k x).causes = [k.cause e] := by
  rw [enteredRecord, if_pos ⟨hshown, h, haside⟩]
  exact (causesOf_joined_self (k.cause e) x.causes).trans (congrArg (· ++ [k.cause e]) h)

theorem causesOf_flaggedRecord : causesOf k.tripClass k.position (flaggedRecord k x).causes =
    (causesOf k.tripClass k.position x.causes).map (Cause.withPresent (k.shown x)) :=
  causesOf_map_marked_self (f := Cause.withPresent (k.shown x)) (fun _ _ _ => rfl) x.causes

theorem followedRecord_none (h : causesOf k.tripClass k.position x.causes = []) :
    causesOf k.tripClass k.position (followedRecord e k x).causes = [] := by
  have hflagged : causesOf k.tripClass k.position (flaggedRecord k x).causes = [] := by
    rw [causesOf_flaggedRecord, h, List.map_nil]
  rw [followedRecord, hflagged]
  exact hflagged

theorem followedRecord_some (h : causesOf k.tripClass k.position x.causes = [c]) : followedRecord e k x =
    if k.shown x = true ∨ c.latched = true then flaggedRecord k x
    else releasedRecord e (c.withPresent (k.shown x)) (flaggedRecord k x) := by
  rw [followedRecord, causesOf_flaggedRecord, h]
  rfl

/-- R143: a cause whose condition is shown, or that is latched, stays with its condition flag written. -/
theorem followedRecord_stays (h : causesOf k.tripClass k.position x.causes = [c])
    (hstays : k.shown x = true ∨ c.latched = true) :
    causesOf k.tripClass k.position (followedRecord e k x).causes = [c.withPresent (k.shown x)] := by
  rw [followedRecord_some h, if_pos hstays, causesOf_flaggedRecord, h]
  rfl

/-- R141, R142: an automatic cause whose condition is gone is struck, and leaves or is escalated. -/
theorem followedRecord_gone {pol : Policy} (h : causesOf k.tripClass k.position x.causes = [c])
    (hgone : k.shown x = false) (hauto : c.latched = false) (hpol : policyOf e.tables k.tripClass = some pol) :
    let times := strike e.now e.tables.roof.strikeWindow (strikesOf x k.tripClass k.position)
    strikesOf (followedRecord e k x) k.tripClass k.position = times ∧
      causesOf k.tripClass k.position (followedRecord e k x).causes =
        if pol.strikeLimit ≤ times.length then [{ c with latched := true, present := false }] else [] := by
  intro times
  obtain ⟨-, hcls, hpos⟩ := mem_causesOf.1 (h ▸ List.mem_singleton_self c)
  have hfollowed : followedRecord e k x = { setStrikes k.tripClass k.position times (flaggedRecord k x) with
      causes := if pol.strikeLimit ≤ times.length then (flaggedRecord k x).causes.map (c.withPresent false).escalated
        else (flaggedRecord k x).causes.filter fun d => !d.isOf k.tripClass k.position } := by
    have hrelease : ¬(k.shown x = true ∨ c.latched = true) := by simp [hgone, hauto]
    rw [followedRecord_some h, if_neg hrelease, hgone, releasedRecord]
    simp only [Cause.withPresent, hcls, hpol]
    rw [hpos]
    rfl
  rw [hfollowed]
  refine ⟨strikesOf_setStrikes k.tripClass k.position (times := times) (strike_ne_nil _ _ _) _, ?_⟩
  dsimp only
  split
  · have hlatched := causesOf_map_marked_self (cls := k.tripClass) (pos := k.position) (f := Cause.latch)
      (fun _ _ _ => rfl) (flaggedRecord k x).causes
    rw [Cause.escalated_eq_marked, show (c.withPresent false).tripClass = k.tripClass from hcls,
      show (c.withPresent false).position = k.position from hpos, hlatched, causesOf_flaggedRecord, h]
    rfl
  · exact causesOf_removed_self _

end

end Sys2Proof.Machine

namespace Sys2Proof.Machine

/-! ## A walk over conditions (R138) -/

/-- R138 to R143: what a fold makes of a condition, shown or not, from the unit's record before to the one behind. -/
structure UnitRec.FoldsCondition (e : Env) (cls : TripClass) (pos : Option Nat) (shown : Bool) (x y : UnitRec) : Prop where
  idle : causesOf cls pos x.causes = [] → shown = false ∨ setsAside e x cls = true → causesOf cls pos y.causes = []
  enters : causesOf cls pos x.causes = [] → shown = true → setsAside e x cls = false →
    ∃ ap, causesOf cls pos y.causes = [⟨cls, pos, ap, latchedAtEntry e.tables cls, true, e.now⟩]
  stays : ∀ c, causesOf cls pos x.causes = [c] → shown = true ∨ c.latched = true →
    causesOf cls pos y.causes = [{ c with present := shown }]
  gone : ∀ c pol, causesOf cls pos x.causes = [c] → shown = false → c.latched = false →
    policyOf e.tables cls = some pol →
    let times := strike e.now e.tables.roof.strikeWindow (strikesOf x cls pos)
    strikesOf y cls pos = times ∧ causesOf cls pos y.causes =
      if pol.strikeLimit ≤ times.length then [{ c with latched := true, present := false }] else []

/-- What other conditions leave on either side does not count. -/
theorem UnitRec.FoldsCondition.between {e : Env} {cls : TripClass} {pos : Option Nat} {shown : Bool}
    {w x y z : UnitRec} (h : x.FoldsCondition e cls pos shown y) (hbefore : w.KeepsCause cls pos x)
    (hbehind : y.KeepsCause cls pos z) : w.FoldsCondition e cls pos shown z := by
  have haside : setsAside e w cls = setsAside e x cls := by rw [setsAside, setsAside, hbefore.window]
  obtain ⟨hidle, henters, hstays, hgone⟩ := h
  rw [← hbehind.causes, hbefore.causes, ← haside] at hidle henters
  rw [← hbehind.causes, hbefore.causes] at hstays hgone
  rw [← hbehind.strikes, hbefore.strikes] at hgone
  exact ⟨hidle, henters, hstays, hgone⟩

/-- R138: one condition: its cause entered in front, followed behind, other conditions between. -/
theorem foldsCondition_of_steps {e : Env} {k : Condition} {x m : UnitRec} {shown : Bool}
    (hm : (enteredRecord e k x).KeepsCause k.tripClass k.position m) (hx : k.shown x = shown) (hshown : k.shown m = shown) :
    x.FoldsCondition e k.tripClass k.position shown (followedRecord e k m) := by
  subst hx
  have hheld (c : Cause) (hc : causesOf k.tripClass k.position x.causes = [c]) :
      causesOf k.tripClass k.position m.causes = [c] ∧
        strikesOf m k.tripClass k.position = strikesOf x k.tripClass k.position := by
    have hsame : enteredRecord e k x = x := enteredRecord_held (by rw [hc]; nofun)
    rw [hsame] at hm
    exact ⟨hm.causes.trans hc, hm.strikes⟩
  refine ⟨fun hnone hidle => ?_, fun hnone hx haside => ?_, fun c hc hstays => ?_, fun c pol hc hx hauto hpol => ?_⟩
  · rw [enteredRecord_idle hidle] at hm
    exact followedRecord_none (hm.causes.trans hnone)
  · refine ⟨k.applies, (followedRecord_stays (hm.causes.trans (enteredRecord_enters hnone hx haside))
      (.inl (hshown.trans hx))).trans ?_⟩
    rw [hshown, hx]
    rfl
  · have hfollowed := followedRecord_stays (e := e) (hheld c hc).1 (by rwa [hshown])
    rwa [hshown] at hfollowed
  · have hfollowed := followedRecord_gone (hheld c hc).1 (hshown.trans hx) hauto hpol
    rwa [(hheld c hc).2] at hfollowed

/-- R138: the causes of the conditions shown entered, and then every cause following its condition. -/
def walkConditions (e : Env) (u : UnitIx) (l : List Condition) (r : Roof) : Roof :=
  l.foldl (fun q k => followCondition e u (k.shown (q.plant.unit u)) k.tripClass k.position q)
    (l.foldl (fun q k => enterIfShown e u (k.shown (q.plant.unit u)) k.tripClass k.position k.applies q) r)

/-- The conditions are of different classes or positions. -/
def Condition.Apart (a b : Condition) : Prop := ¬(a.tripClass = b.tripClass ∧ a.position = b.position)

/-- The roof before and after work on other conditions of the unit than the one of the class and position. -/
structure Roof.PassesBy (u : UnitIx) (cls : TripClass) (pos : Option Nat) (r q : Roof) : Prop where
  cause : (r.plant.unit u).KeepsCause cls pos (q.plant.unit u)
  pairs : (q.plant.unit u).pairs = (r.plant.unit u).pairs

section
variable {u : UnitIx} {cls : TripClass} {pos : Option Nat}

theorem Roof.PassesBy.refl (r : Roof) : r.PassesBy u cls pos r := ⟨.refl _, rfl⟩

theorem Roof.PassesBy.trans {r q t : Roof} (h : r.PassesBy u cls pos q) (k : q.PassesBy u cls pos t) :
    r.PassesBy u cls pos t := ⟨h.cause.trans k.cause, k.pairs.trans h.pairs⟩

theorem enterIfShown_passesBy (e : Env) {k : Condition} (h : ¬(k.tripClass = cls ∧ k.position = pos)) (r : Roof) :
    r.PassesBy u cls pos (enterIfShown e u (k.shown (r.plant.unit u)) k.tripClass k.position k.applies r) where
  cause := (enteredRecord_keepsCause e h _).trans (enterIfShown_record e u k r).keepsCause
  pairs := (enterIfShown_record e u k r).pairs.trans (enteredRecord_pairs e k _)

theorem followCondition_passesBy (e : Env) {k : Condition} (h : ¬(k.tripClass = cls ∧ k.position = pos)) (r : Roof) :
    r.PassesBy u cls pos (followCondition e u (k.shown (r.plant.unit u)) k.tripClass k.position r) where
  cause := (followedRecord_keepsCause e h _).trans (followCondition_record e u k r).keepsCause
  pairs := (followCondition_record e u k r).pairs.trans (followedRecord_pairs e k _)

end

theorem walkConditions_passesBy (e : Env) (u : UnitIx) {cls : TripClass} {pos : Option Nat} {l : List Condition}
    (h : ∀ k ∈ l, ¬(k.tripClass = cls ∧ k.position = pos)) (r : Roof) :
    r.PassesBy u cls pos (walkConditions e u l r) :=
  (foldl_related Roof.PassesBy.refl (fun _ _ _ => .trans) _ l (fun q k hk => enterIfShown_passesBy e (h k hk) q) r).trans
    (foldl_related Roof.PassesBy.refl (fun _ _ _ => .trans) _ l (fun q k hk => followCondition_passesBy e (h k hk) q) _)

theorem walkConditions_pairs (e : Env) (u : UnitIx) (l : List Condition) (r : Roof) :
    ((walkConditions e u l r).plant.unit u).pairs = (r.plant.unit u).pairs := by
  have hentered := foldl_related (R := fun a b : Roof => (b.plant.unit u).pairs = (a.plant.unit u).pairs)
    (fun _ => rfl) (fun _ _ _ h k => k.trans h) _ l
    (fun q k _ => (enterIfShown_record e u k q).pairs.trans (enteredRecord_pairs e k _)) r
  have hfollowed := foldl_related (R := fun a b : Roof => (b.plant.unit u).pairs = (a.plant.unit u).pairs)
    (fun _ => rfl) (fun _ _ _ h k => k.trans h) _ l
    (fun q k _ => (followCondition_record e u k q).pairs.trans (followedRecord_pairs e k _))
    (l.foldl (fun q k => enterIfShown e u (k.shown (q.plant.unit u)) k.tripClass k.position k.applies q) r)
  exact hfollowed.trans hentered

/-- R138: a walk over conditions of different classes or positions folds each of them; a condition is read from the
pairs at most, which the walk leaves. -/
theorem walkConditions_folds (e : Env) (u : UnitIx) {l : List Condition} (hl : l.Pairwise Condition.Apart)
    {k : Condition} (hk : k ∈ l) (hshown : ∀ x y : UnitRec, y.pairs = x.pairs → k.shown y = k.shown x) (r : Roof) :
    (r.plant.unit u).FoldsCondition e k.tripClass k.position (k.shown (r.plant.unit u))
      ((walkConditions e u l r).plant.unit u) := by
  have hnodup : l.Nodup := hl.imp fun hapart heq => hapart (by rw [heq]; exact ⟨rfl, rfl⟩)
  have hother : ∀ k' ∈ l, k' ≠ k → ¬(k'.tripClass = k.tripClass ∧ k'.position = k.position) := by
    have hsymm : Std.Symm Condition.Apart := ⟨fun a b hab hba => hab ⟨hba.1.symm, hba.2.symm⟩⟩
    exact fun k' hk' hne => hl.forall hk' hk hne
  obtain ⟨q, hq, hentered⟩ := foldl_through (R := Roof.PassesBy u k.tripClass k.position) Roof.PassesBy.refl
    (fun _ _ _ => .trans) (fun q k => enterIfShown e u (k.shown (q.plant.unit u)) k.tripClass k.position k.applies q)
    hnodup hk (fun q k' hk' hne => enterIfShown_passesBy e (hother k' hk' hne) q) r
  obtain ⟨t, ht, hfollowed⟩ := foldl_through (R := Roof.PassesBy u k.tripClass k.position) Roof.PassesBy.refl
    (fun _ _ _ => .trans) (fun q k => followCondition e u (k.shown (q.plant.unit u)) k.tripClass k.position q)
    hnodup hk (fun q k' hk' hne => followCondition_passesBy e (hother k' hk' hne) q)
    (l.foldl (fun q k => enterIfShown e u (k.shown (q.plant.unit u)) k.tripClass k.position k.applies q) r)
  have henter := enterIfShown_record e u k q
  have hfollow := followCondition_record e u k t
  have hshownq : k.shown (q.plant.unit u) = k.shown (r.plant.unit u) := hshown _ _ hq.pairs
  have hshownt : k.shown (t.plant.unit u) = k.shown (r.plant.unit u) := by
    refine (hshown _ _ ?_).trans hshownq
    exact ((ht.pairs.trans hentered.pairs).trans henter.pairs).trans (enteredRecord_pairs ..)
  have hbetween := henter.keepsCause.trans (hentered.cause.trans ht.cause)
  exact (foldsCondition_of_steps hbetween hshownq hshownt).between hq.cause
    (hfollow.keepsCause.trans hfollowed.cause)

end Sys2Proof.Machine

namespace Sys2Proof.Machine

/-! ## The conditions of a fold (R135, R138, R149 to R151) -/

/-- R138: a fault condition of a folded status. -/
def faultCondition (c : UnitCfg) (st : Status) (cp : TripClass × Option Nat) : Condition :=
  ⟨cp.1, cp.2, .any, fun _ => conditionShown c st cp.1 cp.2⟩

/-- R151: the condition of a band. -/
def tripBand (e : Env) (b : Fin 16) : Condition :=
  ⟨.band, some b.val, e.tables.bands[b].applies, fun x => bandCondition e x b⟩

theorem foldFaults_eq (e : Env) (u : UnitIx) (st : Status) (r : Roof) : foldFaults e u st r =
    walkConditions e u (faultConditions.map (faultCondition (e.cfg u) st)) r := by
  rw [walkConditions, List.foldl_map, List.foldl_map]
  rfl

/-- R149: the roof with the bands evaluated. -/
def judgedRoof (e : Env) (u : UnitIx) (st : Status) (r : Roof) : Roof :=
  (List.finRange 16).foldl (fun q b => evaluateBand e u st b q) r

theorem foldBands_eq (e : Env) (u : UnitIx) (st : Status) (r : Roof) : foldBands e u st r =
    walkConditions e u ((List.finRange 16).map (tripBand e)) (judgedRoof e u st r) := by
  rw [walkConditions, List.foldl_map, List.foldl_map]
  rfl

theorem faultConditions_apart (c : UnitCfg) (st : Status) :
    (faultConditions.map (faultCondition c st)).Pairwise Condition.Apart := by
  have hapart : faultConditions.Pairwise fun a b => ¬(a.1 = b.1 ∧ a.2 = b.2) := by decide
  exact List.pairwise_map.2 hapart

theorem tripBands_apart (e : Env) : ((List.finRange 16).map (tripBand e)).Pairwise Condition.Apart :=
  List.pairwise_map.2 ((List.nodup_finRange 16).imp fun hne hkey => hne (Fin.ext (Option.some.inj hkey.2)))

/-- R135: the position of a fault class is one the fold reads. -/
theorem mem_faultConditions {cls : TripClass} {pos : Option Nat} (h : FoldedPosition cls pos) (hband : cls ≠ .band) :
    (cls, pos) ∈ faultConditions := by
  have hcircuit : ∀ i : Fin 4, (TripClass.hp, some i.val) ∈ faultConditions ∧
      (TripClass.lp, some i.val) ∈ faultConditions ∧ (TripClass.ovc, some i.val) ∈ faultConditions := by decide
  have hunit : (TripClass.frz, none) ∈ faultConditions ∧ (TripClass.flm, none) ∈ faultConditions ∧
      (TripClass.fpf, none) ∈ faultConditions ∧ (TripClass.smk, none) ∈ faultConditions := by decide
  obtain ⟨hfrz, hflm, hfpf, hsmk⟩ := hunit
  cases cls
  case hp => obtain ⟨i, rfl⟩ := h; exact (hcircuit i).1
  case lp => obtain ⟨i, rfl⟩ := h; exact (hcircuit i).2.1
  case ovc => obtain ⟨i, rfl⟩ := h; exact (hcircuit i).2.2
  case frz => exact (show pos = none from h) ▸ hfrz
  case flm => exact (show pos = none from h) ▸ hflm
  case fpf => exact (show pos = none from h) ▸ hfpf
  case smk => exact (show pos = none from h) ▸ hsmk
  case band => exact absurd rfl hband
  case shutdown => exact h.elim

theorem faultConditions_not_band : ∀ cp ∈ faultConditions, cp.1 ≠ .band := by decide

/-! ### The bands' pairs (R149, R150) -/

theorem evaluateBand_unit (e : Env) (u : UnitIx) (st : Status) (b : Fin 16) (r : Roof) :
    (evaluateBand e u st b r).plant.unit u = { r.plant.unit u with
      pairs := (r.plant.unit u).pairs.set b
        (evaluatePair e.now u e.tables.bands[b] st (r.plant.unit u).pairs[b]) } := by
  rw [evaluateBand, crossingNotice_plant, Plant.unit_modUnit_self]

theorem judgedRoof_keepsCause (e : Env) (u : UnitIx) (st : Status) (cls : TripClass) (pos : Option Nat) (r : Roof) :
    (r.plant.unit u).KeepsCause cls pos ((judgedRoof e u st r).plant.unit u) := by
  refine foldl_related (R := fun a b : Roof => (a.plant.unit u).KeepsCause cls pos (b.plant.unit u))
    (fun _ => .refl _) (fun _ _ _ => .trans) _ _ (fun q b _ => ?_) r
  rw [evaluateBand_unit]
  exact ⟨rfl, rfl, rfl⟩

theorem judgedRoof_pair (e : Env) (u : UnitIx) (st : Status) (b : Fin 16) (r : Roof) :
    ((judgedRoof e u st r).plant.unit u).pairs[b] =
      evaluatePair e.now u e.tables.bands[b] st (r.plant.unit u).pairs[b] := by
  obtain ⟨q, hq, hjudged⟩ := foldl_through
    (R := fun a c : Roof => (c.plant.unit u).pairs[b] = (a.plant.unit u).pairs[b])
    (fun _ => rfl) (fun _ _ _ h k => k.trans h) (fun q b => evaluateBand e u st b q) (List.nodup_finRange 16)
    (List.mem_finRange b) (fun q b' _ hne => by
      rw [evaluateBand_unit]
      exact Vector.getElem_set_ne b'.isLt b.isLt fun hb => hne (Fin.ext hb)) r
  refine hjudged.trans ?_
  rw [evaluateBand_unit, ← hq]
  exact Vector.getElem_set_self b.isLt

/-! ### Faults and bands in one fold -/

theorem foldBands_pair (e : Env) (u : UnitIx) (st : Status) (b : Fin 16) (r : Roof) :
    ((foldBands e u st r).plant.unit u).pairs[b] =
      evaluatePair e.now u e.tables.bands[b] st (r.plant.unit u).pairs[b] := by
  rw [foldBands_eq, walkConditions_pairs]
  exact judgedRoof_pair e u st b r

/-- R149, R150: the unit's pair of a band behind a fold. -/
theorem fold_pair (e : Env) (u : UnitIx) (l : List Byte) (b : Fin 16) (r : Roof) :
    ((fold e u l r).plant.unit u).pairs[b] =
      evaluatePair e.now u e.tables.bands[b] (statusOf (e.cfg u) l) (r.plant.unit u).pairs[b] := by
  rw [fold_eq_judged, foldBands_pair, foldFaults_eq, walkConditions_pairs,
    ((provedRoof_keepsProtection e u l r).unit u).pairs]

/-- R138: a fold of a fault condition. -/
theorem fold_foldsFault (e : Env) (u : UnitIx) (l : List Byte) (r : Roof) {cls : TripClass} {pos : Option Nat}
    (h : (cls, pos) ∈ faultConditions) :
    (r.plant.unit u).FoldsCondition e cls pos (conditionShown (e.cfg u) (statusOf (e.cfg u) l) cls pos)
      ((fold e u l r).plant.unit u) := by
  have hband : cls ≠ .band := faultConditions_not_band _ h
  have hfaults := walkConditions_folds e u (faultConditions_apart (e.cfg u) (statusOf (e.cfg u) l))
    (List.mem_map_of_mem h) (fun _ _ _ => rfl) (provedRoof e u l r)
  have hbands := walkConditions_passesBy e u (cls := cls) (pos := pos) (l := (List.finRange 16).map (tripBand e))
    (fun k hk hkey => by
      obtain ⟨b, -, rfl⟩ := List.mem_map.1 hk
      exact hband hkey.1.symm)
    (judgedRoof e u (statusOf (e.cfg u) l) (foldFaults e u (statusOf (e.cfg u) l) (provedRoof e u l r)))
  rw [← foldFaults_eq] at hfaults
  rw [← foldBands_eq] at hbands
  rw [fold_eq_judged]
  exact hfaults.between ((provedRoof_keepsProtection e u l r).unit u).keepsCause
    ((judgedRoof_keepsCause e u _ cls pos _).trans hbands.cause)

/-- R151: a fold of a band's condition, read from the pair as the fold leaves it. -/
theorem fold_foldsBand (e : Env) (u : UnitIx) (l : List Byte) (r : Roof) (b : Fin 16) :
    (r.plant.unit u).FoldsCondition e .band (some b.val) (bandCondition e ((fold e u l r).plant.unit u) b)
      ((fold e u l r).plant.unit u) := by
  have hfaults := walkConditions_passesBy e u (cls := .band) (pos := some b.val)
    (l := faultConditions.map (faultCondition (e.cfg u) (statusOf (e.cfg u) l)))
    (fun k hk hkey => by
      obtain ⟨cp, hcp, rfl⟩ := List.mem_map.1 hk
      exact faultConditions_not_band cp hcp hkey.1)
    (provedRoof e u l r)
  have hshown (x y : UnitRec) (h : y.pairs = x.pairs) : (tripBand e b).shown y = (tripBand e b).shown x := by
    dsimp only [tripBand, bandCondition]
    rw [h]
  let judged := judgedRoof e u (statusOf (e.cfg u) l) (foldFaults e u (statusOf (e.cfg u) l) (provedRoof e u l r))
  have hbands := walkConditions_folds e u (tripBands_apart e) (List.mem_map_of_mem (List.mem_finRange b)) hshown judged
  have hlast : (tripBand e b).shown (judged.plant.unit u) = bandCondition e ((fold e u l r).plant.unit u) b :=
    (hshown _ _ (walkConditions_pairs e u _ judged)).symm.trans (by rw [← foldBands_eq, ← fold_eq_judged]; rfl)
  rw [hlast, ← foldBands_eq, ← fold_eq_judged] at hbands
  rw [← foldFaults_eq] at hfaults
  exact hbands.between ((((provedRoof_keepsProtection e u l r).unit u).keepsCause.trans hfaults.cause).trans
    (judgedRoof_keepsCause e u _ .band (some b.val) _)) (.refl _)

end Sys2Proof.Machine

namespace Sys2Proof.Machine

/-! ### What a fold shows (R135, R151, 11.3) -/

theorem statusOf_circuitFault (c : UnitCfg) (p : List Byte) (n : Nat) :
    (statusOf c p).circuitFaults.getLsbD n = (u16At p 3).testBit n := by
  rw [BitVec.getLsbD, statusOf_circuitFaults]

/-- 11.3: a circuit bit of a cooling slot that is bound. -/
theorem circuitShown_iff (c : UnitCfg) (p : List Byte) (j : Fin 4) (k : Nat) :
    (∃ i : Slot, some j.val = some i.val ∧ c.bound i = true ∧ (u16At p 3).testBit (3 * i.val + k) = true) ↔
      (if h : j.val < 7 then c.bound ⟨j.val, h⟩ && (statusOf c p).circuitFaults.getLsbD (3 * j.val + k)
        else false) = true := by
  have hslot : j.val < 7 := by omega
  rw [dif_pos hslot, Bool.and_eq_true, statusOf_circuitFault]
  constructor
  · rintro ⟨i, hi, hbound, hbit⟩
    obtain rfl : i = ⟨j.val, hslot⟩ := Fin.ext (Option.some.inj hi).symm
    exact ⟨hbound, hbit⟩
  · exact fun h => ⟨⟨j.val, hslot⟩, rfl, h⟩

theorem foldShows_fault_iff {t : Tables} {c : UnitCfg} {p : List Byte} {pairs : Vector BandPair 16} {cls : TripClass}
    {pos : Option Nat} (h : FoldedPosition cls pos) (hband : cls ≠ .band) :
    FoldShows t c p pairs cls pos ↔ conditionShown c (statusOf c p) cls pos = true := by
  cases cls
  case hp => obtain ⟨j, rfl⟩ := h; exact circuitShown_iff c p j 0
  case lp => obtain ⟨j, rfl⟩ := h; exact circuitShown_iff c p j 1
  case ovc => obtain ⟨j, rfl⟩ := h; exact circuitShown_iff c p j 2
  case frz | flm | fpf | smk => exact Iff.rfl
  case band => exact absurd rfl hband
  case shutdown => exact h.elim

theorem foldShows_band_iff (e : Env) (c : UnitCfg) (p : List Byte) (x : UnitRec) (b : Fin 16) :
    FoldShows e.tables c p x.pairs .band (some b.val) ↔ bandCondition e x b = true := by
  rw [bandCondition, Bool.and_eq_true, decide_eq_true_eq, decide_eq_true_eq]
  constructor
  · rintro ⟨b', hb, hshown⟩
    obtain rfl : b' = b := Fin.ext (Option.some.inj hb).symm
    exact hshown
  · exact fun h => ⟨b, rfl, h⟩

theorem setAside_iff (e : Env) (x : UnitRec) (cls : TripClass) :
    SetAside e.tables x cls ↔ setsAside e x cls = true := by
  unfold SetAside setsAside blankable
  cases policyOf e.tables cls with
  | none => simp
  | some pol => simp [and_comm]

/-- R138: every class and position that a fold reads is folded as its condition shows. -/
theorem fold_foldsCondition (e : Env) (u : UnitIx) (l : List Byte) (r : Roof) {cls : TripClass} {pos : Option Nat}
    (h : FoldedPosition cls pos) : ∃ shown : Bool,
      (FoldShows e.tables (e.cfg u) l ((fold e u l r).plant.unit u).pairs cls pos ↔ shown = true) ∧
      (r.plant.unit u).FoldsCondition e cls pos shown ((fold e u l r).plant.unit u) := by
  by_cases hband : cls = .band
  · subst hband
    obtain ⟨b, rfl⟩ := h
    exact ⟨_, foldShows_band_iff .., fold_foldsBand e u l r b⟩
  · exact ⟨_, foldShows_fault_iff h hband, fold_foldsFault e u l r (mem_faultConditions h hband)⟩

/-- Moves of stages behind a fold leave what it made of its conditions. -/
theorem UnitRec.FoldsCondition.moves {e : Env} {cls : TripClass} {pos : Option Nat} {shown : Bool} {x y z : UnitRec}
    (h : x.FoldsCondition e cls pos shown y) (k : y.MovesTo z) : x.FoldsCondition e cls pos shown z := by
  obtain ⟨hidle, henters, hstays, hgone⟩ := h
  rw [← k.causes] at hidle henters hstays hgone
  rw [← strikesOf_congr k.strikes] at hgone
  exact ⟨hidle, henters, hstays, hgone⟩

/-- Settles O38: along the fold's walk over its conditions each one moves its own causes and strikes alone; the moves
of stages between and the passes behind touch none. -/
theorem foldEntersAndReleasesCauses : Obligations.FoldEntersAndReleasesCauses := by
  intro s x u p hready hf hsound r
  obtain ⟨t, hexec, hworks, hmoves, -⟩ := statusReply_leaves hready hf
  obtain ⟨hstatus, -⟩ := fold_stored hworks
  refine ⟨t, _, hexec, hstatus, fun b => ?_, fun cls pos hpos => ?_⟩
  · rw [(hmoves.unit u).pairs]
    exact fold_pair s.env u p b s.roof
  intro shown held
  obtain ⟨flag, hflag, hfold⟩ := fold_foldsCondition s.env u p s.roof hpos
  have hshown : shown ↔ flag = true := by rw [← hflag, ← (hmoves.unit u).pairs]; rfl
  have hhidden : ¬shown ↔ flag = false := by rw [hshown, Bool.not_eq_true]
  have haside := setAside_iff s.env r cls
  have hheld : ¬held → causesOf cls pos r.causes = [] := fun h =>
    causesOf_eq_nil_iff.2 fun d hd hkey => h ⟨d, hd, hkey⟩
  have hcause (c : Cause) (hc : c ∈ r.causes) (hcls : c.tripClass = cls) (hp : c.position = pos) :
      causesOf cls pos r.causes = [c] := by
    subst hcls hp
    exact hsound.causesOf_eq hc
  have hmem {c : Cause} (h : causesOf cls pos (t.plant.unit u).causes = [c]) : c ∈ (t.plant.unit u).causes :=
    (mem_causesOf.1 (h ▸ List.mem_singleton_self c)).1
  obtain ⟨hidle, henters, hstays, hgone⟩ := hfold.moves (hmoves.unit u)
  refine ⟨fun hfree h => causesOf_eq_nil_iff.1 (hidle (hheld hfree) (h.imp hhidden.1 haside.1)),
    fun hfree h hnot => ?enters, fun c hc hcls hp => ⟨fun h => ?shown, fun h hlatched => ?latched,
      fun pol h hauto hpol => ?gone⟩⟩
  case enters =>
    obtain ⟨ap, hentered⟩ := henters (hheld hfree) (hshown.1 h) (Bool.eq_false_of_not_eq_true (mt haside.2 hnot))
    exact ⟨_, hmem hentered, rfl, rfl, rfl, rfl, rfl⟩
  case shown =>
    have hflagged := hstays c (hcause c hc hcls hp) (.inl (hshown.1 h))
    rw [hshown.1 h] at hflagged
    exact hmem hflagged
  case latched =>
    have hflagged := hstays c (hcause c hc hcls hp) (.inr hlatched)
    rw [hhidden.1 h] at hflagged
    exact hmem hflagged
  case gone =>
    obtain ⟨hstrikes, hcauses⟩ := hgone c pol (hcause c hc hcls hp) (hhidden.1 h) hauto hpol
    refine ⟨hstrikes, fun hbelow => ?_, fun hlimit => ?_⟩
    · exact causesOf_eq_nil_iff.1 (hcauses.trans (if_neg (Nat.not_le.2 hbelow)))
    · exact hmem (hcauses.trans (if_pos hlimit))

end Sys2Proof.Machine

namespace Sys2Proof.Machine

/-! ## Slots that no pass trips (R72, R73) -/

/-- A stage that was not tripped is not tripped. -/
def Stage.StaysUntripped (a b : Stage) : Prop := a.state.isTripped = false → b.state.isTripped = false

theorem Stage.StaysUntripped.of_untripped {a b : Stage} (h : b.state.isTripped = false) : a.StaysUntripped b := fun _ => h

theorem StageState.isOn_untripped {st : StageState} (h : st.isOn = true) : st.isTripped = false :=
  Bool.eq_false_iff.2 fun htripped => by
    rw [(StageState.isTripped_off htripped).1] at h
    cases h

/-- R68, R69: a settlement trips no stage. -/
theorem settleStage_staysUntripped (e : Env) (u : UnitIx) (r : UnitRec) (i : Slot) (st : Stage) :
    st.StaysUntripped (settleStage e u r i st) := by
  unfold settleStage
  split
  · split
    · split
      · exact .of_untripped (stopStage_fields ..).1
      · exact id
    · exact id
  · exact id

/-- R73: only a tripped stage is handed on. -/
theorem releaseStage_staysUntripped (inLocal : Bool) (now minOff : Nat) (causes : List Cause) (i : Slot) (st : Stage) :
    st.StaysUntripped (releaseStage inLocal now minOff causes i st) := fun h => by
  rwa [releaseStage, h]

/-- The plant before and after work that trips no stage. -/
structure Plant.NoneTrips (p q : Plant) : Prop where
  stage : ∀ (v : UnitIx) (i : Slot), (p.unit v).stages[i].StaysUntripped (q.unit v).stages[i]

theorem Plant.NoneTrips.of_units {p q : Plant} (h : q.units = p.units := by rfl) : p.NoneTrips q where
  stage v i := by
    rw [Plant.unit_congr h]
    exact id

theorem Plant.NoneTrips.refl (p : Plant) : p.NoneTrips p := .of_units

theorem Plant.NoneTrips.trans {p q r : Plant} (h : p.NoneTrips q) (k : q.NoneTrips r) : p.NoneTrips r :=
  ⟨fun v i hi => k.stage v i (h.stage v i hi)⟩

theorem Plant.noneTrips_modUnit (p : Plant) (u : UnitIx) {f : UnitRec → UnitRec}
    (h : ∀ i : Slot, (p.unit u).stages[i].StaysUntripped (f (p.unit u)).stages[i]) : p.NoneTrips (p.modUnit u f) where
  stage v i := by
    rw [Plant.unit_modUnit]
    split
    · next hv => exact hv ▸ h i
    · exact id

/-! ### The sequencer -/

theorem reselect_noneTrips (u : UnitIx) (p : Plant) : p.NoneTrips (reselect u p) :=
  p.noneTrips_modUnit u fun i => (selectQueued_reselected _ _ _ i).untripped

theorem writeTarget_noneTrips (prot : Bool) (u : UnitIx) (m : StageMap) (p : Plant) :
    p.NoneTrips (writeTarget prot u m p) := by
  unfold writeTarget
  split
  · exact .refl p
  · have hwrite : p.NoneTrips (p.modUnit u fun r => { r with target := m, fresh := false }) :=
      p.noneTrips_modUnit u fun _ => id
    dsimp only
    split
    · exact hwrite.trans .of_units
    · exact hwrite

theorem refreshTarget_noneTrips (prot : Bool) (u : UnitIx) (p : Plant) : p.NoneTrips (refreshTarget prot u p) := by
  have hwrite := writeTarget_noneTrips prot u (scheduledMap (p.unit u)) p
  unfold refreshTarget
  split
  · exact hwrite
  · exact hwrite
  · exact hwrite
  · exact .refl p
  · exact .refl p

theorem moveUnit_noneTrips (e : Env) (u : UnitIx) {f : Plant → Plant} {r : Roof} (h : r.plant.NoneTrips (f r.plant)) :
    r.plant.NoneTrips (moveUnit e u f r).plant := by
  rcases moveUnit_plant e u f r with hp | ⟨order, hp⟩
  · rwa [hp]
  · rw [hp]
    exact h.trans ((f r.plant).noneTrips_modUnit u fun _ => id)

/-- A move of every stage of one unit. -/
theorem movedStages_noneTrips (e : Env) (u : UnitIx) (f : UnitRec → Slot → Stage → Stage) (r : Roof)
    (h : ∀ (x : UnitRec) (i : Slot) (st : Stage), st.StaysUntripped (f x i st)) :
    r.plant.NoneTrips (moveUnit e u (fun p => p.modUnit u fun x => x.mapStages (f x)) r).plant := by
  refine moveUnit_noneTrips e u (r.plant.noneTrips_modUnit u fun i => ?_)
  rw [UnitRec.mapStages_stages]
  exact h _ i _

theorem examineUnit_noneTrips (e : Env) (u : UnitIx) (r : Roof) : r.plant.NoneTrips (examineUnit e u r).plant :=
  moveUnit_noneTrips e u ((Plant.NoneTrips.of_units ((examine_units ..).trans (examine_units ..))).trans
    (reselect_noneTrips ..))

theorem settle_noneTrips (e : Env) (u : UnitIx) (r : Roof) : r.plant.NoneTrips (settle e u r).plant := by
  unfold settle
  split
  · have hmarks : r.plant.NoneTrips (moveUnit e u (fun p => p.modUnit u (settleMarks e u)) r).plant :=
      movedStages_noneTrips e u (settleStage e u) r (settleStage_staysUntripped e u)
    refine hmarks.trans (Plant.NoneTrips.trans ?_ (examineUnit_noneTrips ..))
    exact refreshTarget_noneTrips ..
  · exact .refl _

theorem releaseSlots_noneTrips (e : Env) (u : UnitIx) (scope : Slot → Bool) (r : Roof) :
    r.plant.NoneTrips (releaseSlots e u scope r).plant := by
  have hreleased : r.plant.NoneTrips (moveUnit e u (fun p => p.modUnit u (releaseRecord e u scope)) r).plant := by
    refine movedStages_noneTrips e u _ r fun x i st => ?_
    split
    · exact releaseStage_staysUntripped _ _ _ _ i st
    · exact id
  rw [releaseSlots_eq]
  refine hreleased.trans (Plant.NoneTrips.trans ?_ (settle_noneTrips ..))
  exact refreshTarget_noneTrips ..

/-! ### The admission unit -/

/-- R64: a slot that starts is not tripped. -/
theorem grantedPlant_noneTrips (e : Env) (u : UnitIx) (i : Slot) (pr : Profile) (p : Plant) :
    p.NoneTrips (grantedPlant e u i pr p) := by
  have hcounted : p.NoneTrips (countedGrant e u pr p) := .of_units
  have hstarted : (countedGrant e u pr p).NoneTrips
      ((countedGrant e u pr p).modUnit u (startRecord e.now pr i)) := by
    refine Plant.noneTrips_modUnit _ u fun j => ?_
    rw [startRecord_stages]
    split
    · refine .of_untripped (StageState.isOn_untripped ?_)
      dsimp only
      split <;> rfl
    · exact id
  exact hcounted.trans (hstarted.trans (refreshTarget_noneTrips ..))

theorem grantSlot_noneTrips (e : Env) (u : UnitIx) (i : Slot) (pr : Profile) (r : Roof) :
    r.plant.NoneTrips (grantSlot e u i pr r).plant :=
  (grantedPlant_noneTrips e u i pr r.plant).trans (settle_noneTrips e u (r.onPlant (grantedPlant e u i pr)))

theorem requeue_noneTrips (e : Env) (u : UnitIx) (k : Kind) (p : Plant) : p.NoneTrips (requeue e u k p) := by
  unfold requeue
  split
  · exact .refl p
  · exact Plant.NoneTrips.trans .of_units (reselect_noneTrips u _)

theorem grantEntry_noneTrips (e : Env) (n : Entry) (r : Roof) : r.plant.NoneTrips (grantEntry e n r).plant := by
  unfold grantEntry
  split
  · exact .refl _
  · split
    · exact .refl _
    · exact (grantSlot_noneTrips ..).trans (requeue_noneTrips ..)

theorem admissionPass_noneTrips (e : Env) (r : Roof) : r.plant.NoneTrips (admissionPass e r).plant := by
  unfold admissionPass
  split
  · exact grantSlot_noneTrips ..
  · dsimp only
    split
    · exact .of_units
    · exact Plant.NoneTrips.trans .of_units (grantEntry_noneTrips ..)

theorem runPasses_noneTrips (e : Env) (n : Nat) (r : Roof) : r.plant.NoneTrips (runPasses e n r).plant := by
  induction n generalizing r with
  | zero => exact .of_units
  | succ n ih =>
    unfold runPasses
    split
    · exact (Plant.NoneTrips.trans .of_units (admissionPass_noneTrips ..)).trans (ih _)
    · exact .refl _

/-- What concludes a roof command trips no stage. -/
theorem conclude_noneTrips (s : State) : s.plant.NoneTrips (conclude s).plant := by
  unfold conclude passAfterJoin
  split
  · exact runPasses_noneTrips s.env 64 s.roof
  · exact .of_units

end Sys2Proof.Machine

namespace Sys2Proof.Machine

/-! ## The causes CLEAR_TRIP selects (R16, R144) -/

theorem mem_selectedCauses {r : UnitRec} {slot : Option Slot} {c : Cause} : c ∈ selectedCauses r slot ↔
    c ∈ r.causes ∧ c.latched = true ∧ ∀ i ∈ slot, c.covers i = true := by
  rw [selectedCauses, List.mem_filter, Bool.and_eq_true]
  cases slot with
  | none => simp
  | some i => simp

theorem presentDetail_none {sel : List Cause} (h : ∀ c ∈ sel, c.present = false) : presentDetail sel = none := by
  have hfind : (allSlots.find? fun i =>
      sel.any fun c => c.present && c.tripClass.isCircuit && decide (c.position = some i.val)) = none :=
    List.find?_eq_none.2 fun i _ hany => by
      obtain ⟨c, hc, hkey⟩ := List.any_eq_true.1 hany
      rw [h c hc] at hkey
      cases hkey
  have hany : sel.any (·.present) = false := List.any_eq_false.2 fun c hc => by rw [h c hc]; nofun
  rw [presentDetail, hfind, hany]
  rfl

theorem presentDetail_some {sel : List Cause} {c : Cause} (hc : c ∈ sel) (hpresent : c.present = true) :
    ∃ d, presentDetail sel = some d := by
  unfold presentDetail
  split
  · exact ⟨_, rfl⟩
  · exact ⟨_, if_pos (List.any_eq_true.2 ⟨c, hc, hpresent⟩)⟩

/-- R16: without a circuit cause present, the detail is 0xFF. -/
theorem presentDetail_unit {sel : List Cause} {c : Cause} (hc : c ∈ sel) (hpresent : c.present = true)
    (h : ∀ d ∈ sel, d.present = true → d.tripClass.isCircuit = false) : presentDetail sel = some 255 := by
  have hfind : (allSlots.find? fun i =>
      sel.any fun c => c.present && c.tripClass.isCircuit && decide (c.position = some i.val)) = none :=
    List.find?_eq_none.2 fun i _ hany => by
      obtain ⟨d, hd, hkey⟩ := List.any_eq_true.1 hany
      simp only [Bool.and_eq_true] at hkey
      obtain ⟨⟨hshown, hcircuit⟩, -⟩ := hkey
      exact Bool.false_ne_true ((h d hd hshown).symm.trans hcircuit)
  rw [presentDetail, hfind]
  exact if_pos (List.any_eq_true.2 ⟨c, hc, hpresent⟩)

/-- R16: the detail is the first slot with a circuit cause present. -/
theorem presentDetail_circuit {sel : List Cause} {c : Cause} {j : Slot} (hc : c ∈ sel) (hpresent : c.present = true)
    (hcircuit : c.tripClass.isCircuit = true) (hj : c.position = some j.val)
    (hfirst : ∀ d ∈ sel, d.present = true → d.tripClass.isCircuit = true →
      ∀ k : Slot, d.position = some k.val → j ≤ k) : presentDetail sel = some j.val := by
  have hordered : allSlots.Pairwise (· < ·) := by decide
  obtain ⟨before, behind, hslots⟩ := List.append_of_mem (mem_allSlots j)
  have hfind : (allSlots.find? fun i =>
      sel.any fun c => c.present && c.tripClass.isCircuit && decide (c.position = some i.val)) = some j := by
    refine List.find?_eq_some_iff_append.2 ⟨?_, before, behind, hslots, fun k hk => ?_⟩
    · exact List.any_eq_true.2 ⟨c, hc, by simp [hpresent, hcircuit, hj]⟩
    · obtain ⟨-, -, hbefore⟩ := List.pairwise_append.1 (hslots ▸ hordered)
      have hlt : k < j := hbefore k hk j (List.mem_cons_self ..)
      rw [Bool.not_eq_true', List.any_eq_false]
      intro d hd hkey
      simp only [Bool.and_eq_true, decide_eq_true_eq] at hkey
      obtain ⟨⟨hshown, hcircuit⟩, hk⟩ := hkey
      exact absurd (hfirst d hd hshown hcircuit k hk) (not_le.2 hlt)
  rw [presentDetail, hfind]

theorem clearTripOn_refused {u : UnitIx} {slot : Option Slot} {s : State} {d : Nat}
    (h : presentDetail (selectedCauses (s.plant.unit u) slot) = some d) :
    clearTripOn u slot s = .refused 0x40 [BitVec.ofNat 8 d] := by
  rw [clearTripOn, h]
  rfl

theorem clearTripOn_accepted {u : UnitIx} {slot : Option Slot} {s : State}
    (h : presentDetail (selectedCauses (s.plant.unit u) slot) = none) :
    clearTripOn u slot s = .accepted []
      (s.onRoof fun e r => clearCauses e u (selectedCauses (s.plant.unit u) slot) r) := by
  rw [clearTripOn, h]

/-! ### The arguments of CLEAR_TRIP (R158) -/

section
variable {s : State} {u : UnitIx} {a b : Byte} (ha : a.toNat = u.val + 1)
include ha

theorem clearTripJob_unfitted (h : s.tables.units[u].fitted = false) :
    clearTripJob [0x20, a, b] s = .refused 0x11 [1] := by
  refine (unitJob_addressed (by rfl) ha _).trans ?_
  rw [h]
  rfl

theorem clearTripJob_unbound (h : s.tables.units[u].fitted = true) (hall : b ≠ 0xFF)
    (hb : 6 < b.toNat ∨ ∃ i : Slot, b.toNat = i.val ∧ s.tables.units[u].bound i = false) :
    clearTripJob [0x20, a, b] s = .refused 0x11 [2] := by
  have hslot : ¬u8At [0x20, a, b] 2 = 255 := fun h => hall (BitVec.eq_of_toNat_eq h)
  refine (unitJob_addressed (by rfl) ha _).trans ?_
  rw [h]
  simp only [Bool.not_true, Bool.false_eq_true, if_false, if_neg hslot]
  rcases hb with hlarge | ⟨i, hi, hbound⟩
  · rw [show u8At [0x20, a, b] 2 = b.toNat from rfl, slotOfIndex, dif_neg (by omega)]
    rfl
  · rw [show u8At [0x20, a, b] 2 = i.val from hi, slotOfIndex, dif_pos i.isLt]
    simp only [Fin.eta, hbound]
    rfl

theorem clearTripJob_all (h : s.tables.units[u].fitted = true) :
    clearTripJob [0x20, a, 0xFF] s = clearTripOn u none s := by
  refine (unitJob_addressed (by rfl) ha _).trans ?_
  rw [h]
  rfl

theorem clearTripJob_slot {i : Slot} (h : s.tables.units[u].fitted = true) (hb : b.toNat = i.val)
    (hbound : s.tables.units[u].bound i = true) : clearTripJob [0x20, a, b] s = clearTripOn u (some i) s := by
  have hbyte : u8At [0x20, a, b] 2 = i.val := hb
  have hslot : ¬u8At [0x20, a, b] 2 = 255 := by omega
  refine (unitJob_addressed (by rfl) ha _).trans ?_
  rw [h]
  simp only [Bool.not_true, Bool.false_eq_true, if_false, if_neg hslot]
  rw [hbyte, slotOfIndex, dif_pos i.isLt]
  simp only [Fin.eta, hbound, if_true]

/-- R144: what the slot argument selects. -/
theorem clearTripJob_selects (h : s.tables.units[u].fitted = true)
    (hb : b = 0xFF ∨ ∃ i : Slot, b.toNat = i.val ∧ s.tables.units[u].bound i = true) :
    ∃ slot : Option Slot, clearTripJob [0x20, a, b] s = clearTripOn u slot s ∧
      ∀ c, c ∈ selectedCauses (s.plant.unit u) slot ↔ c ∈ (s.plant.unit u).causes ∧ c.latched = true ∧
        (b = 0xFF ∨ ∃ i : Slot, b.toNat = i.val ∧ c.covers i = true) := by
  rcases hb with rfl | ⟨i, hi, hbound⟩
  · exact ⟨none, clearTripJob_all ha h, fun c => by simp [mem_selectedCauses]⟩
  · have hnotAll : b ≠ 0xFF := by
      rintro rfl
      have hlarge : (0xFF : Byte).toNat = 255 := rfl
      omega
    refine ⟨some i, clearTripJob_slot ha h hi hbound, fun c => mem_selectedCauses.trans ?_⟩
    refine and_congr_right' (and_congr_right' ⟨fun hcovers => .inr ⟨i, hi, hcovers i rfl⟩, ?_⟩)
    rintro (hall | ⟨j, hj, hcovers⟩) k hk
    · exact absurd hall hnotAll
    · obtain rfl : i = k := Option.some.inj hk
      obtain rfl : j = i := Fin.ext (hj.symm.trans hi)
      exact hcovers

end

/-! ### The causes cleared (R144) -/

/-- R144: the unit's record with every selected cause forgotten. -/
def forgetCauses (sel : List Cause) (x : UnitRec) : UnitRec := sel.foldl (fun y c => forgetCause c y) x

theorem forgetCauses_causes (sel : List Cause) (x : UnitRec) : (forgetCauses sel x).causes =
    x.causes.filter fun d => !sel.any fun c => d.isOf c.tripClass c.position := by
  induction sel generalizing x with
  | nil => exact (List.filter_eq_self.2 fun _ _ => rfl).symm
  | cons c sel ih =>
    have hforgot : (forgetCause c x).causes = x.causes.filter fun d => !d.isOf c.tripClass c.position := rfl
    rw [forgetCauses, List.foldl_cons]
    refine (ih (forgetCause c x)).trans ?_
    rw [hforgot, List.filter_filter]
    refine List.filter_congr fun d _ => ?_
    rw [List.any_cons, Bool.not_or, Bool.and_comm]

/-- R137: in a sound list, forgetting causes leaves the others. -/
theorem mem_forgetCauses {sel : List Cause} {x : UnitRec} (hs : CausesSound x) (hsel : ∀ c ∈ sel, c ∈ x.causes)
    (d : Cause) : d ∈ (forgetCauses sel x).causes ↔ d ∈ x.causes ∧ d ∉ sel := by
  rw [forgetCauses_causes, List.mem_filter]
  refine and_congr_right fun hd => ?_
  rw [Bool.not_eq_true', List.any_eq_false]
  constructor
  · exact fun h hmem => h d hmem ((d.isOf_iff ..).2 ⟨rfl, rfl⟩)
  · intro hnot c hc hkey
    have hsame : d ∈ causesOf c.tripClass c.position x.causes := List.mem_filter.2 ⟨hd, hkey⟩
    rw [hs.causesOf_eq (hsel c hc)] at hsame
    exact hnot (List.mem_singleton.1 hsame ▸ hc)

theorem forgetCause_strikes {cls : TripClass} {pos : Option Nat} {x : UnitRec} (c : Cause)
    (h : (c.tripClass = cls ∧ c.position = pos) ∨ strikesOf x cls pos = []) :
    strikesOf (forgetCause c x) cls pos = [] := by
  by_cases hkey : c.tripClass = cls ∧ c.position = pos
  · obtain ⟨rfl, rfl⟩ := hkey
    exact strikesOf_setStrikes_nil _
  · exact (strikesOf_setStrikes_apart hkey ..).trans (h.resolve_left hkey)

theorem forgetCauses_strikes {cls : TripClass} {pos : Option Nat} {sel : List Cause} {x : UnitRec}
    (h : (∃ c ∈ sel, c.tripClass = cls ∧ c.position = pos) ∨ strikesOf x cls pos = []) :
    strikesOf (forgetCauses sel x) cls pos = [] := by
  induction sel generalizing x with
  | nil => exact h.resolve_left (by simp)
  | cons c sel ih =>
    rw [forgetCauses, List.foldl_cons]
    refine ih ?_
    rcases h with ⟨d, hd, hkey⟩ | hnone
    · rcases List.mem_cons.1 hd with rfl | hd
      · exact .inr (forgetCause_strikes d (.inl hkey))
      · exact .inl ⟨d, hd, hkey⟩
    · exact .inr (forgetCause_strikes c (.inr hnone))

/-- R144: the roof with the selected causes forgotten and TRIP_CLEARED raised for each. -/
def forgottenRoof (e : Env) (u : UnitIx) (sel : List Cause) (r : Roof) : Roof := sel.foldl (clearCause e u) r

theorem forgottenRoof_unit (e : Env) (u : UnitIx) (sel : List Cause) (r : Roof) :
    (forgottenRoof e u sel r).plant.unit u = forgetCauses sel (r.plant.unit u) := by
  induction sel generalizing r with
  | nil => rfl
  | cons c sel ih =>
    refine (ih (clearCause e u r c)).trans ?_
    rw [clearCause, Roof.raise_plant, Plant.unit_modUnit_self]
    rfl

theorem forgottenRoof_captures (e : Env) (u : UnitIx) (sel : List Cause) (r : Roof) :
    (forgottenRoof e u sel r).captures = r.captures :=
  foldl_related (R := fun a b : Roof => b.captures = a.captures) (fun _ => rfl) (fun _ _ _ h k => k.trans h)
    (clearCause e u) sel (fun _ _ _ => rfl) r

theorem clearCauses_nil (e : Env) (u : UnitIx) (r : Roof) : clearCauses e u [] r = r := rfl

theorem clearCauses_eq (e : Env) (u : UnitIx) {sel : List Cause} (h : sel ≠ []) (r : Roof) : clearCauses e u sel r =
    releaseSlots e u (fun i => sel.any (·.covers i)) (forgottenRoof e u sel r) :=
  if_neg (by simpa using h)

theorem clearCauses_captures (e : Env) (u : UnitIx) (sel : List Cause) (r : Roof) :
    (clearCauses e u sel r).captures = r.captures := by
  by_cases h : sel = []
  · rw [h, clearCauses_nil]
  · rw [clearCauses_eq e u h, (releaseSlots_lists ..).1, forgottenRoof_captures]

theorem clearCauses_moves (e : Env) (u : UnitIx) (sel : List Cause) (r : Roof) :
    (forgetCauses sel (r.plant.unit u)).MovesTo ((clearCauses e u sel r).plant.unit u) := by
  by_cases h : sel = []
  · rw [h, clearCauses_nil]
    exact .refl _
  · rw [clearCauses_eq e u h, ← forgottenRoof_unit e]
    exact (releaseSlots_moves ..).unit u

/-- R73: a slot that no cause holds any longer is not tripped behind its release. -/
theorem releaseSlots_untrips (e : Env) {u : UnitIx} {scope : Slot → Bool} {r : Roof} {i : Slot}
    (hbound : (e.cfg u).bound i = true) (hscope : scope i = true)
    (hfreed : ∀ d ∈ (r.plant.unit u).causes, d.covers i = false) :
    ((releaseSlots e u scope r).plant.unit u).stages[i].state.isTripped = false := by
  cases htripped : (r.plant.unit u).stages[i].state.isTripped with
  | false => exact (releaseSlots_noneTrips e u scope r).stage u i htripped
  | true =>
    obtain ⟨hremote, hlocal⟩ := releaseSlots_freed e hbound hscope htripped hfreed
    by_cases hstate : (r.plant.unit u).state = .inLocal
    · rw [hlocal hstate]
      rfl
    · exact (hremote hstate).1

theorem clearCauses_untrips (e : Env) {u : UnitIx} {sel : List Cause} {r : Roof} {c : Cause} {i : Slot} (hc : c ∈ sel)
    (hcovers : c.covers i = true) (hbound : (e.cfg u).bound i = true)
    (hfreed : ∀ d ∈ (forgetCauses sel (r.plant.unit u)).causes, d.covers i = false) :
    ((clearCauses e u sel r).plant.unit u).stages[i].state.isTripped = false := by
  rw [clearCauses_eq e u (List.ne_nil_of_mem hc)]
  exact releaseSlots_untrips e hbound (List.any_eq_true.2 ⟨c, hc, hcovers⟩) (by rwa [forgottenRoof_unit])

/-! ### The command (R155) -/

/-- R72, R155: what concludes a job on the roof trips no slot. -/
theorem servedOn_noneTrips {c : Instr} {s t : State} {req : Frame} {rest : List Frame} {code : Byte}
    {p results : List Byte} {body : List Byte → State → Verdict} {f : Env → Roof → Roof}
    (hcommand : exec c s = roofCommand s (serveJob code body)) (hwaits : JobWaits s req rest (code :: p))
    (hbody : body (code :: p) s = .accepted results (s.onRoof f)) (ht : exec c s = .next t) :
    (f s.env s.roof).plant.NoneTrips t.plant := by
  have hserved : (serveJob code body s).plant = (f s.env s.roof).plant := by
    rw [serveJob_waiting body hwaits, hbody]
    rfl
  rw [hcommand, roofCommand_on _ hwaits.1] at ht
  obtain rfl := Host.Outcome.next.inj ht
  exact hserved ▸ conclude_noneTrips (serveJob code body s)

/-- Settles O45: the verdict is read from the selected causes alone; an accepted CLEAR_TRIP forgets them, releases
their slots, and no pass behind it trips one. -/
theorem clearTripClearsLatchedCauses : Obligations.ClearTripClearsLatchedCauses := by
  have hcommand (s : State) : exec .clearTrip s = roofCommand s (serveJob 0x20 clearTripJob) := rfl
  refine ⟨fun s req rest a b u hcalm hwaits ha hfit hslot hsound => ?_, fun s req rest a b u hcalm hwaits ha =>
    ⟨fun hunfitted => refusesJob_of_verdict (hcommand s) hcalm hwaits (clearTripJob_unfitted ha hunfitted),
      fun hfit hall hb => refusesJob_of_verdict (hcommand s) hcalm hwaits (clearTripJob_unbound ha hfit hall hb)⟩⟩
  intro r selected
  obtain ⟨slot, hjob, hselected⟩ := clearTripJob_selects ha hfit hslot
  have hsel (c : Cause) : c ∈ selectedCauses r slot ↔ selected c := hselected c
  have hrefused {d : Nat} (h : presentDetail (selectedCauses r slot) = some d) :
      RefusesJob .clearTrip s req rest 0x20 0x40 [BitVec.ofNat 8 d] s.jobs :=
    refusesJob_of_verdict (hcommand s) hcalm hwaits (hjob.trans (clearTripOn_refused h))
  refine ⟨fun c hc hpresent => ⟨?present, fun hcircuit j hj hfirst => ?circuit, fun hunit => ?unit⟩, fun habsent => ?_⟩
  case present =>
    obtain ⟨d, hd⟩ := presentDetail_some ((hsel c).2 hc) hpresent
    exact ⟨_, hrefused hd⟩
  case circuit =>
    exact hrefused (presentDetail_circuit ((hsel c).2 hc) hpresent hcircuit hj fun d hd => hfirst d ((hsel d).1 hd))
  case unit =>
    exact hrefused (presentDetail_unit ((hsel c).2 hc) hpresent fun d hd => hunit d ((hsel d).1 hd))
  have hbody := hjob.trans
    (clearTripOn_accepted (presentDetail_none fun c hc => habsent c ((hsel c).1 hc)))
  obtain ⟨t, ht⟩ := servedOn_of_verdict (hcommand s) hwaits hbody
    (clearCauses_captures s.env u (selectedCauses r slot) s.roof)
  have huntripped := servedOn_noneTrips (hcommand s) hwaits hbody ht.command
  have hmoves := (clearCauses_moves s.env u (selectedCauses r slot) s.roof).trans (ht.moves.unit u)
  refine ⟨t, ht.command, ht.only, fun c => ?causes, fun c hc => ?strikes, fun c i hc hcovers hbound hfreed => ?slots⟩
  case causes =>
    rw [hmoves.causes, ← hsel]
    exact mem_forgetCauses hsound (fun d hd => (mem_selectedCauses.1 hd).1) c
  case strikes =>
    rw [strikesOf_congr hmoves.strikes]
    exact forgetCauses_strikes (.inl ⟨c, (hsel c).2 hc, rfl, rfl⟩)
  case slots =>
    rw [hmoves.causes] at hfreed
    exact huntripped.stage u i (clearCauses_untrips s.env ((hsel c).2 hc) hcovers hbound hfreed)

end Sys2Proof.Machine

namespace Sys2Proof.Machine

/-! ## Jobs refused and edit jobs served (R155, R156, R160) -/

/-- R155, R156: a refusal served on `jobs` changes nothing but the queues and the error list. -/
theorem finishJob_refused {s : State} {req : Frame} {rest : List Frame} {jobs : Jobs}
    (hqueue : s.link.jobs = req :: rest) (herrors : jobs.errors = s.jobs.errors) (restart : Bool) (code error : Byte)
    (details : List Byte) :
    finishJob restart req code { s with jobs := jobs } (.refused error details) = { s with
      link := jobAnswered s.link req rest 0x03 (error :: details)
      jobs := { jobs with errors := errorsAfter s code error } } := by
  rw [finishJob, State.onLink, logError_link, Link.answerJob_cons hqueue, errorsAfter, ← herrors]
  rfl

/-- R155: a job the command serves, where nothing follows the service or a roof command's end does. -/
def ServesJob (c : Instr) (before : State → State) (restart : Bool) (code : Byte)
    (body : List Byte → State → Verdict) : Prop :=
  ∀ s, exec c s = whilePowered s (serveWith before restart code body) ∨
    exec c s = roofCommand s (serveWith before restart code body)

section
variable {c : Instr} {before : State → State} {restart : Bool} {code : Byte} {body : List Byte → State → Verdict}
  {s : State}

/-- R177: behind a service that leaves a calm state, a roof command's end does nothing. -/
theorem ServesJob.exec_eq (hserves : ServesJob c before restart code body)
    (hcalm : Calm (serveWith before restart code body s)) (hpow : s.powered = true) :
    exec c s = .next (serveWith before restart code body s) := by
  rcases hserves s with hplain | hroof
  · rw [hplain, whilePowered_on _ hpow]
  · rw [hroof, roofCommand_on _ hpow, hcalm.conclude_eq]

/-- R155, R156: a job whose body refuses it. -/
theorem ServesJob.refuses {req : Frame} {rest : List Frame} {error : Byte} {p details : List Byte}
    (hserves : ServesJob c before restart code body) (hcalm : Calm s) (hwaits : JobWaits s req rest (code :: p))
    (hbefore : before s = s) (hbody : body (code :: p) s = .refused error details) :
    RefusesJob c s req rest code error details s.jobs := by
  obtain ⟨hpow, hrestart, hqueue, hpayload⟩ := hwaits
  have hserved := serveWith_waiting before restart code body s req rest p hqueue hrestart hpayload
  rw [hbefore, hbody, finishJob_refused hqueue rfl] at hserved
  have hcalm' : Calm (serveWith before restart code body s) := by
    rw [hserved]
    exact hcalm
  rw [RefusesJob, hserves.exec_eq hcalm' hpow, hserved]

/-- R167: no job is served after a RESTART. -/
theorem ServesJob.rests (hserves : ServesJob c before restart code body) (hcalm : Calm s)
    (hrestart : s.jobs.restarting = true) : exec c s = .next s := by
  have hserved : serveWith before restart code body s = s := by
    cases hqueue : s.link.jobs with
    | nil => rw [serveWith, hqueue]
    | cons req rest => exact serveWith_other before restart code body s req rest hqueue (.inl hrestart)
  rw [hserves.exec_eq (hserved.symm ▸ hcalm) hcalm.1, hserved]

end

/-- R160: the state with the session's idle timer started anew. -/
def idleRestarted (s : State) : State :=
  s.withSession { s.jobs.session with idleEnd := some (s.seconds + Config.sessionIdle) }

theorem restartIdle_open {s : State} (h : InOpenSession s) : restartIdle s = idleRestarted s := if_pos h

theorem restartIdle_notOpen {s : State} (h : ¬InOpenSession s) : restartIdle s = s := if_neg h

section
variable {c : Instr} {s : State} {req : Frame} {rest : List Frame} {code : Byte} {p : List Byte}
  {body : List Byte → State → Verdict} (hcommand : exec c s = whilePowered s (serveEdit code body))
  (hopen : InOpenSession s) (hwaits : JobWaits s req rest (code :: p))
include hcommand hopen hwaits

/-- R160: an edit job served in OPEN starts the idle timer anew, whatever its verdict. -/
theorem exec_editServed :
    exec c s = .next (finishJob false req code (idleRestarted s) (body (code :: p) (idleRestarted s))) := by
  obtain ⟨hpow, hrestart, hqueue, hpayload⟩ := hwaits
  rw [hcommand, whilePowered_on _ hpow, serveEdit,
    serveWith_waiting restartIdle false code body s req rest p hqueue hrestart hpayload, restartIdle_open hopen]

theorem exec_editAccepted {results : List Byte} {t : State}
    (hbody : body (code :: p) (idleRestarted s) = .accepted results t) (hlink : t.link = s.link) :
    exec c s = .next { t with link := jobAnswered s.link req rest 0x01 (code :: results) } := by
  rw [exec_editServed hcommand hopen hwaits, hbody, finishJob, State.onLink, hlink, Link.answerJob_cons hwaits.queue]
  rfl

theorem refusesJob_edit {error : Byte} {details : List Byte}
    (hbody : body (code :: p) (idleRestarted s) = .refused error details) :
    RefusesJob c s req rest code error details (withIdle s s.jobs.session) := by
  rw [RefusesJob, exec_editServed hcommand hopen hwaits, hbody]
  exact congrArg _ (finishJob_refused (jobs := withIdle s s.jobs.session) hwaits.queue rfl false code error details)

end

/-! ### What the session's state and table decide (R160, R161) -/

theorem inSession_closed {s : State} (h : s.jobs.session.state = .closed) (code : Byte) (v : Verdict) :
    inSession code s v = .refused 0x20 [code] := by
  rw [inSession, h]
  rfl

theorem inSession_applying {s : State} (h : s.jobs.session.state = .applying) (code : Byte) (v : Verdict) :
    inSession code s v = .refused 0x22 [code] := by
  rw [inSession, h]
  rfl

theorem inSession_open {s : State} (h : InOpenSession s) (code : Byte) (v : Verdict) : inSession code s v = v := by
  rw [inSession, show s.jobs.session.state = .opened from h]

theorem onTable_current {s : State} {t : TableId} (h : InOpenSession s) (ht : s.jobs.session.current = some t)
    (code : Byte) (v : TableId → Verdict) : onTable code s v = v t := by
  rw [onTable, inSession_open h, ht]

theorem onTable_none {s : State} (h : InOpenSession s) (ht : s.jobs.session.current = none) (code : Byte)
    (v : TableId → Verdict) : onTable code s v = .refused 0x11 [0] := by
  rw [onTable, inSession_open h, ht]
  rfl

theorem sized_right {n : Nat} {p : List Byte} (h : p.length = n) (v : Verdict) : sized n p v = v := if_pos h

theorem sized_wrong {n : Nat} {p : List Byte} (h : p.length ≠ n) (v : Verdict) : sized n p v = .refused 0x11 [0xFF] :=
  if_neg h

/-! ### OPEN_EDIT, SELECT, SEEK and ABANDON (R160, R161) -/

theorem selectIn_new {t : TableId} {x : Session} (live : Tables) (h : t ∉ x.selected) : selectIn live t x = { x with
    selected := x.selected ++ [t]
    shadows := copyTable t live x.shadows
    current := some t
    cursor := 0 } := by
  rw [selectIn, if_neg h, if_neg h]

theorem selectIn_again {t : TableId} {x : Session} (live : Tables) (h : t ∈ x.selected) :
    selectIn live t x = { x with current := some t, cursor := 0 } := by
  rw [selectIn, if_pos h, if_pos h]

theorem openEditJob_closed {s : State} (h : s.jobs.session.state = .closed) : openEditJob [0x30] s =
    .accepted [] (s.withSession
      { closedSession with state := .opened, idleEnd := some (s.seconds + Config.sessionIdle) }) := by
  rw [openEditJob, h]
  rfl

section
variable {s : State} (hopen : InOpenSession s) {a : Byte} {t : TableId}
include hopen

theorem selectJob_named (h : TableId.ofCode a.toNat = some t) :
    selectJob [0x31, a] s = .accepted [] (s.withSession (selectIn s.tables t s.jobs.session)) := by
  refine (inSession_open hopen ..).trans ((sized_right rfl _).trans ?_)
  rw [show u8At [0x31, a] 1 = a.toNat from rfl, h]

theorem selectJob_unnamed (h : 9 ≤ a.toNat) : selectJob [0x31, a] s = .refused 0x11 [1] := by
  have hcode : TableId.ofCode a.toNat = none := List.getElem?_eq_none h
  refine (inSession_open hopen ..).trans ((sized_right rfl _).trans ?_)
  rw [show u8At [0x31, a] 1 = a.toNat from rfl, hcode]
  rfl

theorem abandonJob_open : abandonJob [0x37] s = .accepted [] (s.withSession closedSession) :=
  (inSession_open hopen ..).trans (sized_right rfl _)

theorem seekJob_inside (ht : s.jobs.session.current = some t) (h : a.toNat < recordCount t) :
    seekJob [0x32, a] s = .accepted [] (s.withSession { s.jobs.session with cursor := a.toNat }) :=
  (onTable_current hopen ht ..).trans ((sized_right rfl _).trans (if_pos h))

theorem seekJob_outside (ht : s.jobs.session.current = some t) (h : recordCount t ≤ a.toNat) :
    seekJob [0x32, a] s = .refused 0x11 [1] :=
  (onTable_current hopen ht ..).trans ((sized_right rfl _).trans (if_neg (Nat.not_lt.2 h)))

end

/-- Settles O47: each body's verdict on the session with its idle timer started anew. -/
theorem editSessionOpensSelectsAndCloses : Obligations.EditSessionOpensSelectsAndCloses := by
  intro s req rest a t x
  refine ⟨fun hclosed hwaits => ?openEdit, fun hopen hwaits hcode hnew => ?selectNew,
    fun hopen hwaits hcode hagain => ?selectAgain, fun hopen hwaits hcode => ?selectRefused,
    fun hopen ht hwaits hin => ?seek, fun hopen ht hwaits hout => ?seekRefused, fun hopen hwaits => ?abandon⟩
  case openEdit => exact exec_accepted (body := openEditJob) rfl hwaits (openEditJob_closed hclosed) rfl
  case selectNew =>
    have hbody := selectJob_named (s := idleRestarted s) hopen hcode
    rw [selectIn_new (x := (idleRestarted s).jobs.session) _ hnew] at hbody
    exact exec_editAccepted (body := selectJob) rfl hopen hwaits hbody rfl
  case selectAgain =>
    have hbody := selectJob_named (s := idleRestarted s) hopen hcode
    rw [selectIn_again (x := (idleRestarted s).jobs.session) _ hagain] at hbody
    exact exec_editAccepted (body := selectJob) rfl hopen hwaits hbody rfl
  case selectRefused =>
    exact refusesJob_edit (body := selectJob) rfl hopen hwaits (selectJob_unnamed (s := idleRestarted s) hopen hcode)
  case seek =>
    exact exec_editAccepted (body := seekJob) rfl hopen hwaits (seekJob_inside (s := idleRestarted s) hopen ht hin) rfl
  case seekRefused =>
    exact refusesJob_edit (body := seekJob) rfl hopen hwaits (seekJob_outside (s := idleRestarted s) hopen ht hout)
  case abandon =>
    exact exec_editAccepted (body := abandonJob) rfl hopen hwaits (abandonJob_open (s := idleRestarted s) hopen) rfl

/-! ### WRITE, EXCHANGE and READ_AT (R162) -/

section
variable {s : State} (hopen : InOpenSession s) {t : TableId} (ht : s.jobs.session.current = some t)
include hopen ht

section
variable {l : List Byte} (hl : l.length = recordSize t) (code head : Byte) (results : TableId → Session → List Byte)
include hl

theorem writing_pastEnd (h : recordCount t ≤ s.jobs.session.cursor) :
    writing code results (head :: l) s = .refused 0x11 [0xFF] := by
  rw [writing, onTable_current hopen ht, sized_right (by rw [List.length_cons, hl, Nat.add_comm]), if_pos h]
  rfl

theorem writing_outOfRange (h : s.jobs.session.cursor < recordCount t) {o : Nat}
    (ho : firstBad (fieldsOf t l) l = some o) :
    writing code results (head :: l) s = .refused 0x11 [BitVec.ofNat 8 (1 + o)] := by
  rw [writing, onTable_current hopen ht, sized_right (by rw [List.length_cons, hl, Nat.add_comm]),
    if_neg (Nat.not_le.2 h), List.drop_one, List.tail_cons, ho]
  rfl

theorem writing_inRange (h : s.jobs.session.cursor < recordCount t) (hgood : firstBad (fieldsOf t l) l = none) :
    writing code results (head :: l) s =
      .accepted (results t s.jobs.session) (s.withSession (writeAt t l s.jobs.session)) := by
  rw [writing, onTable_current hopen ht, sized_right (by rw [List.length_cons, hl, Nat.add_comm]),
    if_neg (Nat.not_le.2 h), List.drop_one, List.tail_cons, hgood]

end

theorem readAtJob_inside (h : s.jobs.session.cursor < recordCount t) :
    readAtJob [0x35] s = .accepted (recordBytes s.jobs.session.shadows t s.jobs.session.cursor)
      (s.withSession { s.jobs.session with cursor := s.jobs.session.cursor + 1 }) :=
  (onTable_current hopen ht ..).trans ((sized_right rfl _).trans (if_neg (Nat.not_le.2 h)))

theorem readAtJob_pastEnd (h : recordCount t ≤ s.jobs.session.cursor) : readAtJob [0x35] s = .refused 0x11 [0xFF] :=
  (onTable_current hopen ht ..).trans ((sized_right rfl _).trans (if_pos h))

end

/-- Settles O48: WRITE and EXCHANGE share the checks of `writing`, and differ in their results alone. -/
theorem recordJobsWorkOnTheShadow : Obligations.RecordJobsWorkOnTheShadow := by
  intro s req rest t l hopen ht x written full swap
  have hopen' : InOpenSession (idleRestarted s) := hopen
  have ht' : (idleRestarted s).jobs.session.current = some t := ht
  refine ⟨fun ⟨hwaits, hl⟩ hin hgood => ?write, fun ⟨hwaits, hl⟩ hin hgood => ?exchange,
    fun o ⟨hwaits, hl⟩ hin hbad => ?writeBad, fun o ⟨hwaits, hl⟩ hin hbad => ?exchangeBad,
    fun ⟨hwaits, hl⟩ hend => ?writeEnd, fun ⟨hwaits, hl⟩ hend => ?exchangeEnd, fun hwaits hin => ?readAt,
    fun hwaits hend => ?readEnd⟩
  case write =>
    exact exec_editAccepted (body := writeJob) rfl hopen hwaits (writing_inRange hopen' ht' hl _ _ _ hin hgood) rfl
  case exchange =>
    exact exec_editAccepted (body := exchangeJob) rfl hopen hwaits (writing_inRange hopen' ht' hl _ _ _ hin hgood) rfl
  case writeBad =>
    exact refusesJob_edit (body := writeJob) rfl hopen hwaits (writing_outOfRange hopen' ht' hl _ _ _ hin hbad)
  case exchangeBad =>
    exact refusesJob_edit (body := exchangeJob) rfl hopen hwaits (writing_outOfRange hopen' ht' hl _ _ _ hin hbad)
  case writeEnd =>
    exact refusesJob_edit (body := writeJob) rfl hopen hwaits (writing_pastEnd hopen' ht' hl _ _ _ hend)
  case exchangeEnd =>
    exact refusesJob_edit (body := exchangeJob) rfl hopen hwaits (writing_pastEnd hopen' ht' hl _ _ _ hend)
  case readAt =>
    exact exec_editAccepted (body := readAtJob) rfl hopen hwaits (readAtJob_inside hopen' ht' hin) rfl
  case readEnd => exact refusesJob_edit (body := readAtJob) rfl hopen hwaits (readAtJob_pastEnd hopen' ht' hend)

end Sys2Proof.Machine

namespace Sys2Proof.Machine

/-! ## The job each command serves (R155) -/

section
variable {c : Instr} {before : State → State} {restart : Bool} {code : Byte} {body : List Byte → State → Verdict}

theorem ServesJob.alone (h : ∀ s, exec c s = whilePowered s (serveWith before restart code body)) :
    ServesJob c before restart code body := fun s => .inl (h s)

theorem ServesJob.onRoof (h : ∀ s, exec c s = roofCommand s (serveWith before restart code body)) :
    ServesJob c before restart code body := fun s => .inr (h s)

end

theorem servesJob_identify : ServesJob .identify id false 0x01 (reading identifyBytes) := .alone fun _ => rfl
theorem servesJob_readRoof : ServesJob .readRoof id false 0x02 (reading readRoofBytes) := .alone fun _ => rfl
theorem servesJob_readUnit : ServesJob .readUnit id false 0x03 readUnitJob := .alone fun _ => rfl
theorem servesJob_readStage : ServesJob .readStage id false 0x04 readStageJob := .alone fun _ => rfl
theorem servesJob_readQueue : ServesJob .readQueue id false 0x05 (reading readQueueBytes) := .alone fun _ => rfl
theorem servesJob_readHistory : ServesJob .readHistory id false 0x06 readHistoryJob := .alone fun _ => rfl
theorem servesJob_readErrors : ServesJob .readErrors id false 0x07 readErrorsJob := .alone fun _ => rfl
theorem servesJob_clearPeak : ServesJob .clearPeak id false 0x10 clearPeakJob := .alone fun _ => rfl
theorem servesJob_readNotices : ServesJob .readNotices id false 0x11 (reading readNoticesBytes) := .alone fun _ => rfl
theorem servesJob_ackNotices : ServesJob .ackNotices id false 0x12 ackNoticesJob := .onRoof fun _ => rfl
theorem servesJob_readCaptures : ServesJob .readCaptures id false 0x13 (reading readCapturesBytes) :=
  .alone fun _ => rfl
theorem servesJob_discardCaptures : ServesJob .discardCaptures id false 0x14 discardCapturesJob := .alone fun _ => rfl
theorem servesJob_clearTrip : ServesJob .clearTrip id false 0x20 clearTripJob := .onRoof fun _ => rfl
theorem servesJob_forceStage : ServesJob .forceStage id false 0x21 forceStageJob := .onRoof fun _ => rfl
theorem servesJob_isolate : ServesJob .isolate id false 0x22 isolateJob := .onRoof fun _ => rfl
theorem servesJob_restore : ServesJob .restore id false 0x23 restoreJob := .onRoof fun _ => rfl
theorem servesJob_drBegin : ServesJob .drBegin id false 0x24 drBeginJob := .onRoof fun _ => rfl
theorem servesJob_drEnd : ServesJob .drEnd id false 0x25 drEndJob := .onRoof fun _ => rfl
theorem servesJob_openEdit : ServesJob .openEdit id false 0x30 openEditJob := .alone fun _ => rfl
theorem servesJob_selectTable : ServesJob .selectTable restartIdle false 0x31 selectJob := .alone fun _ => rfl
theorem servesJob_seek : ServesJob .seek restartIdle false 0x32 seekJob := .alone fun _ => rfl
theorem servesJob_writeRecord : ServesJob .writeRecord restartIdle false 0x33 writeJob := .alone fun _ => rfl
theorem servesJob_exchange : ServesJob .exchange restartIdle false 0x34 exchangeJob := .alone fun _ => rfl
theorem servesJob_readAt : ServesJob .readAt restartIdle false 0x35 readAtJob := .alone fun _ => rfl
theorem servesJob_applyTables : ServesJob .applyTables restartIdle false 0x36 applyJob := .alone fun _ => rfl
theorem servesJob_abandon : ServesJob .abandon restartIdle false 0x37 abandonJob := .alone fun _ => rfl
theorem servesJob_storeConfig : ServesJob .storeConfig id false 0x40 storeConfigJob := .alone fun _ => rfl
theorem servesJob_restart : ServesJob .restart id true 0x41 restartJob := .alone fun _ => rfl

/-! ### APPLY, the store and the restart (R160, R163, R165, R167) -/

section
variable {s : State}

theorem applyRefusal_invalid {d : List Byte} (h : invalidTable (candidateTables s.tables s.jobs.session) = some d) :
    applyRefusal s = some (0x23, d) := by
  simp only [applyRefusal, h]
  rfl

theorem applyRefusal_valid (h : invalidTable (candidateTables s.tables s.jobs.session) = none) : applyRefusal s =
    (unitInUse s.tables (candidateTables s.tables s.jobs.session) s.plant).map
      fun u => (0x30, [BitVec.ofNat 8 (unitAddr u)]) := by
  simp only [applyRefusal, h]
  rfl

theorem applyJob_passes (hopen : InOpenSession s) (h : applyRefusal s = none) : applyJob [0x36] s =
    .accepted [] (s.withSession { s.jobs.session with state := .applying, idleEnd := none }) := by
  refine (inSession_open hopen ..).trans ((sized_right rfl _).trans ?_)
  rw [h]

theorem applyJob_fails (hopen : InOpenSession s) {error : Byte} {d : List Byte} (h : applyRefusal s = some (error, d)) :
    applyJob [0x36] s = .refused error d := by
  refine (inSession_open hopen ..).trans ((sized_right rfl _).trans ?_)
  rw [h]

theorem storeConfigJob_idle (h : s.jobs.store = none) : storeConfigJob [0x40] s =
    .accepted [] { s with jobs := { s.jobs with store := some ⟨s.tables, false⟩ } } := by
  rw [storeConfigJob, h]
  rfl

theorem restartJob_idle (h : s.jobs.store = none) :
    restartJob [0x41] s = .accepted [] { s with jobs := { s.jobs with restarting := true } } := by
  rw [restartJob, h]
  rfl

/-- R167: the reply to RESTART carries the reset. -/
theorem exec_restart_idle {req : Frame} {rest : List Frame} (hwaits : JobWaits s req rest [0x41])
    (h : s.jobs.store = none) : exec .restart s = .next { s with
      link := { s.link with
        jobs := rest
        replies := s.link.replies ++ [⟨⟨req.addr, req.tag, req.kind ||| 0x80, 0x01, [0x41]⟩, true⟩] }
      jobs := { s.jobs with restarting := true } } := by
  obtain ⟨hpow, hrestart, hqueue, hpayload⟩ := hwaits
  have hserved := serveWith_waiting id true 0x41 restartJob s req rest [] hqueue hrestart hpayload
  have hcommand : exec .restart s = .next (serveWith id true 0x41 restartJob s) := whilePowered_on _ hpow
  rw [hcommand, hserved, show id s = s from rfl, restartJob_idle h, finishJob, State.onLink, Link.answerJob_cons hqueue]
  rfl

/-- R167: a job without a name is not served after a RESTART either. -/
theorem exec_badJobCode_rests (hpow : s.powered = true) (hrestart : s.jobs.restarting = true) :
    exec .badJobCode s = .next s := by
  have hserved : serveUnnamed s = s := by
    unfold serveUnnamed
    split
    · rfl
    · exact if_pos hrestart
  exact (whilePowered_on _ hpow).trans (congrArg _ hserved)

/-- R165: the snapshot becomes the image. -/
theorem storeEnds_equal {st : Store} (h : s.jobs.store = some st) : storeEnds true s =
    ({ s with jobs := { s.jobs with
        store := none
        image := some st.snapshot
        config := if st.installedSince then s.jobs.config else .stored } } : State).raise .storeDone 0 none none := by
  rw [storeEnds, h]
  rfl

/-- R165: the image is left bad. -/
theorem storeEnds_unequal {st : Store} (h : s.jobs.store = some st) : storeEnds false s =
    ({ s with jobs := { s.jobs with store := none, image := none } } : State).raise .storeFailed 0 none none := by
  rw [storeEnds, h]
  rfl

theorem exec_storeEnd (hready : Ready s) {equal : Bool} {t : State} (h : storeEnds equal s = t)
    (hplant : t.plant = s.plant) : exec (.storeEnd equal) s = .next (driveOutputs t) := by
  obtain ⟨hpow, hpass⟩ := hready
  rw [← conclude_no_pass t ((congrArg Plant.passDue hplant).trans hpass), ← h]
  exact roofCommand_on (storeEnds equal) hpow

end

/-- Settles O52: APPLY's verdict is that of its checks; STORE_CONFIG and RESTART need no store in progress; every
command that serves a job leaves it waiting once a RESTART was accepted. -/
theorem applyStoreAndRestartAreTaken : Obligations.ApplyStoreAndRestartAreTaken := by
  intro s req rest x new
  refine ⟨fun hopen hwaits hvalid hfree => ?apply, fun d hopen hwaits hinvalid => ?invalid,
    fun u hopen hwaits hvalid hused => ?inUse, fun hwaits hidle => ?storeConfig,
    fun hwaits hidle => exec_restart_idle hwaits hidle, fun hcalm hrestart => ?resting,
    fun st hready hstore => ⟨_, exec_storeEnd hready (storeEnds_equal hstore) rfl, rfl, rfl, rfl, rfl, rfl⟩,
    fun st hready hstore => ⟨_, exec_storeEnd hready (storeEnds_unequal hstore) rfl, rfl, rfl, rfl, rfl, rfl⟩⟩
  case apply =>
    have hpasses : applyRefusal (idleRestarted s) = none :=
      (applyRefusal_valid (s := idleRestarted s) hvalid).trans (congrArg _ hfree)
    exact exec_editAccepted (body := applyJob) rfl hopen hwaits (applyJob_passes hopen hpasses) rfl
  case invalid =>
    exact refusesJob_edit (body := applyJob) rfl hopen hwaits
      (applyJob_fails hopen (applyRefusal_invalid (s := idleRestarted s) hinvalid))
  case inUse =>
    have hfails : applyRefusal (idleRestarted s) = some (0x30, [BitVec.ofNat 8 (u.val + 1)]) :=
      (applyRefusal_valid (s := idleRestarted s) hvalid).trans (congrArg _ hused)
    exact refusesJob_edit (body := applyJob) rfl hopen hwaits (applyJob_fails hopen hfails)
  case storeConfig =>
    exact exec_accepted (body := storeConfigJob) rfl hwaits (storeConfigJob_idle hidle) rfl
  case resting =>
    have rests {c : Instr} {before restart code body} (hserves : ServesJob c before restart code body) :
        exec c s = .next s := hserves.rests hcalm hrestart
    exact List.forall_iff_forall_mem.1 ⟨rests servesJob_identify, rests servesJob_readRoof, rests servesJob_readUnit,
      rests servesJob_readStage, rests servesJob_readQueue, rests servesJob_readHistory, rests servesJob_readErrors,
      rests servesJob_clearPeak, rests servesJob_readNotices, rests servesJob_ackNotices, rests servesJob_readCaptures,
      rests servesJob_discardCaptures, rests servesJob_clearTrip, rests servesJob_forceStage, rests servesJob_isolate,
      rests servesJob_restore, rests servesJob_drBegin, rests servesJob_drEnd, rests servesJob_openEdit,
      rests servesJob_selectTable, rests servesJob_seek, rests servesJob_writeRecord, rests servesJob_exchange,
      rests servesJob_readAt, rests servesJob_applyTables, rests servesJob_abandon, rests servesJob_storeConfig,
      rests servesJob_restart, exec_badJobCode_rests hcalm.1 hrestart⟩

/-! ### The refusals of the first checks (R155, R160, R161, R165) -/

section
variable {c : Instr} {before : State → State} {restart : Bool} {code : Byte} {v : List Byte → State → Verdict}
  {s : State} {req : Frame} {rest : List Frame} {l : List Byte}

/-- R155 step 3: a job of a wrong length. -/
theorem ServesJob.refuses_length {n : Nat} (hserves : ServesJob c id restart code fun p s => sized n p (v p s))
    (hcalm : Calm s) (hwaits : JobWaits s req rest (code :: l)) (hl : l.length + 1 ≠ n) :
    RefusesJob c s req rest code 0x11 [0xFF] s.jobs :=
  hserves.refuses hcalm hwaits rfl (sized_wrong (p := code :: l) hl _)

/-- R157, R158: a job of the right length whose unit is out of 1..32. -/
theorem ServesJob.refuses_unit {n : Nat} {a : Byte} {w : List Byte → State → UnitIx → Verdict}
    (hserves : ServesJob c id restart code fun p s => sized n p (onUnit p (w p s))) (hcalm : Calm s)
    (ha : a = 0 ∨ 32 < a.toNat) (hl : (code :: a :: l).length = n) (hwaits : JobWaits s req rest (code :: a :: l)) :
    RefusesJob c s req rest code 0x11 [1] s.jobs := by
  have haddr : unitOfAddr (u8At (code :: a :: l) 1) = none :=
    unitOfAddr_eq_none (ha.imp_left (congrArg BitVec.toNat))
  refine hserves.refuses hcalm hwaits rfl ((sized_right hl _).trans ?_)
  rw [onUnit, haddr]
  rfl

/-- R160: an edit job outside an open session. -/
theorem ServesJob.refuses_session
    (hserves : ServesJob c restartIdle restart code fun p s => inSession code s (v p s))
    (hcalm : Calm s) (hwaits : JobWaits s req rest (code :: l)) :
    (s.jobs.session.state = .closed → RefusesJob c s req rest code 0x20 [code] s.jobs) ∧
    (s.jobs.session.state = .applying → RefusesJob c s req rest code 0x22 [code] s.jobs) := by
  have hnotOpen {st : SessionState} (hst : s.jobs.session.state = st) (h : st ≠ .opened) : restartIdle s = s :=
    restartIdle_notOpen fun hopen => h (hst.symm.trans hopen)
  exact ⟨fun h => hserves.refuses hcalm hwaits (hnotOpen h nofun) (inSession_closed h ..),
    fun h => hserves.refuses hcalm hwaits (hnotOpen h nofun) (inSession_applying h ..)⟩

/-- R165, R167: a job that a store in progress holds off. -/
theorem ServesJob.refuses_store
    (hserves : ServesJob c id restart code fun p s =>
      if s.jobs.store.isSome then .refused eStoreBusy [code] else sized 1 p (v p s))
    (hcalm : Calm s) (hwaits : JobWaits s req rest (code :: l)) :
    (s.jobs.store.isSome = true → RefusesJob c s req rest code 0x31 [code] s.jobs) ∧
    (s.jobs.store = none → l ≠ [] → RefusesJob c s req rest code 0x11 [0xFF] s.jobs) := by
  refine ⟨fun hbusy => hserves.refuses hcalm hwaits rfl (if_pos hbusy), fun hidle hl => ?_⟩
  have hlength : (code :: l).length ≠ 1 := fun h => hl (List.length_eq_zero_iff.1 (Nat.succ.inj h))
  exact hserves.refuses hcalm hwaits rfl ((if_neg (by simp [hidle])).trans (sized_wrong hlength _))

/-- R160: OPEN_EDIT in a session already open, in APPLYING, and with a payload too long. -/
theorem openEdit_refuses (hcalm : Calm s) (hwaits : JobWaits s req rest (0x30 :: l)) :
    (s.jobs.session.state = .opened → RefusesJob .openEdit s req rest 0x30 0x21 [0] s.jobs) ∧
    (s.jobs.session.state = .applying → RefusesJob .openEdit s req rest 0x30 0x22 [0x30] s.jobs) ∧
    (s.jobs.session.state = .closed → l ≠ [] → RefusesJob .openEdit s req rest 0x30 0x11 [0xFF] s.jobs) := by
  refine ⟨fun h => servesJob_openEdit.refuses hcalm hwaits rfl ?opened,
    fun h => servesJob_openEdit.refuses hcalm hwaits rfl ?applying,
    fun h hl => servesJob_openEdit.refuses hcalm hwaits rfl ?closed⟩
  case opened =>
    rw [openEditJob, h]
    rfl
  case applying =>
    rw [openEditJob, h]
    rfl
  case closed =>
    have hlength : (0x30 :: l).length ≠ 1 := fun h => hl (List.length_eq_zero_iff.1 (Nat.succ.inj h))
    rw [openEditJob, h]
    exact sized_wrong hlength _

/-- R155 step 1: a job whose payload is empty. -/
theorem badJobCode_refuses_empty (hwaits : JobWaits s req rest []) :
    RefusesJob .badJobCode s req rest 0 0x11 [0xFF] s.jobs := by
  obtain ⟨hpow, hrestart, hqueue, hpayload⟩ := hwaits
  have hserved : serveUnnamed s = finishJob false req 0 s (.refused 0x11 [0xFF]) := by
    simp only [serveUnnamed, hqueue, hrestart, hpayload]
    rfl
  exact (whilePowered_on _ hpow).trans (congrArg _ (hserved.trans (finishJob_refused hqueue rfl ..)))

/-- R155 step 1: a job whose code names none. -/
theorem badJobCode_refuses_unknown (hcode : code ∉ jobCodes) (hwaits : JobWaits s req rest (code :: l)) :
    RefusesJob .badJobCode s req rest code 0x10 [code] s.jobs := by
  obtain ⟨hpow, hrestart, hqueue, hpayload⟩ := hwaits
  have hserved : serveUnnamed s = finishJob false req code s (.refused 0x10 [code]) := by
    simp only [serveUnnamed, hqueue, hrestart, hpayload, List.head?_cons, if_neg hcode]
    rfl
  exact (whilePowered_on _ hpow).trans (congrArg _ (hserved.trans (finishJob_refused hqueue rfl ..)))

end

theorem readStageJob_noSlot (s : State) {a b : Byte} (hlow : 1 ≤ a.toNat) (hhigh : a.toNat ≤ 32)
    (hb : 6 < b.toNat) : readStageJob [0x04, a, b] s = .refused 0x11 [2] := by
  have ha : a.toNat = (⟨a.toNat - 1, by omega⟩ : UnitIx).val + 1 := (Nat.sub_add_cancel hlow).symm
  have hslot : slotOfIndex (u8At [0x04, a, b] 2) = none := dif_neg (Nat.not_lt.2 hb)
  refine (unitJob_addressed (by rfl) ha _).trans ?_
  rw [hslot]
  rfl

theorem readHistoryJob_outside (s : State) {a : Byte} (h : 7 < a.toNat) :
    readHistoryJob [0x06, a] s = .refused 0x11 [1] := (sized_right rfl _).trans (if_neg (Nat.not_le.2 h))

theorem drBeginJob_outside (s : State) {a b c d : Byte}
    (h : c.toNat + 256 * d.toNat = 0 ∨ 480 < c.toNat + 256 * d.toNat) :
    drBeginJob [0x24, a, b, c, d] s = .refused 0x11 [3] := by
  have hminutes : u16At [0x24, a, b, c, d] 3 = c.toNat + 256 * d.toNat := rfl
  exact (sized_right rfl _).trans (if_neg (by omega))

/-- Settles O54: each refusal is the verdict of one check, which comes first in the job's body. -/
theorem jobsAreRefusedByTheFirstFailingCheck : Obligations.JobsAreRefusedByTheFirstFailingCheck := by
  intro s req rest l hcalm x
  refine ⟨badJobCode_refuses_empty, fun c hc => badJobCode_refuses_unknown hc, ?lengths, ?sessions,
    openEdit_refuses hcalm, ?stores, ?noTable, ?editLengths, fun t ht => ?tableLengths,
    fun a b c ha => ?units, fun a b c d => ⟨fun hlow hhigh hb hwaits => ?slot,
      fun ha hwaits => ?history, fun hcd hwaits => ?minutes⟩⟩
  case lengths =>
    exact List.forall_iff_forall_mem.1 ⟨servesJob_identify.refuses_length hcalm,
      servesJob_readRoof.refuses_length hcalm, servesJob_readUnit.refuses_length hcalm,
      servesJob_readStage.refuses_length hcalm, servesJob_readQueue.refuses_length hcalm,
      servesJob_readHistory.refuses_length hcalm, servesJob_readErrors.refuses_length hcalm,
      servesJob_clearPeak.refuses_length hcalm, servesJob_readNotices.refuses_length hcalm,
      servesJob_ackNotices.refuses_length hcalm, servesJob_readCaptures.refuses_length hcalm,
      servesJob_discardCaptures.refuses_length hcalm, servesJob_clearTrip.refuses_length hcalm,
      servesJob_forceStage.refuses_length hcalm, servesJob_isolate.refuses_length hcalm,
      servesJob_restore.refuses_length hcalm, servesJob_drBegin.refuses_length hcalm,
      servesJob_drEnd.refuses_length hcalm⟩
  case sessions =>
    exact List.forall_iff_forall_mem.1 ⟨servesJob_selectTable.refuses_session hcalm,
      servesJob_seek.refuses_session hcalm, servesJob_writeRecord.refuses_session hcalm,
      servesJob_exchange.refuses_session hcalm, servesJob_readAt.refuses_session hcalm,
      servesJob_applyTables.refuses_session hcalm, servesJob_abandon.refuses_session hcalm⟩
  case stores =>
    exact List.forall_iff_forall_mem.1
      ⟨servesJob_storeConfig.refuses_store hcalm, servesJob_restart.refuses_store hcalm⟩
  case noTable =>
    have hnone (h : InOpenSession s) (ht : s.jobs.session.current = none) (code : Byte) (v : TableId → Verdict) :
        onTable code (idleRestarted s) v = .refused 0x11 [0] := onTable_none h ht code v
    exact List.forall_iff_forall_mem.1 ⟨
      fun hwaits h ht => refusesJob_edit (body := seekJob) rfl h hwaits (hnone h ht ..),
      fun hwaits h ht => refusesJob_edit (body := writeJob) rfl h hwaits (hnone h ht ..),
      fun hwaits h ht => refusesJob_edit (body := exchangeJob) rfl h hwaits (hnone h ht ..),
      fun hwaits h ht => refusesJob_edit (body := readAtJob) rfl h hwaits (hnone h ht ..)⟩
  case editLengths =>
    have hwrong {n : Nat} {code : Byte} (h : InOpenSession s) (hl : l.length + 1 ≠ n) (v : Verdict) :
        inSession code (idleRestarted s) (sized n (code :: l) v) = .refused 0x11 [0xFF] :=
      (inSession_open h ..).trans (sized_wrong (p := code :: l) hl _)
    exact List.forall_iff_forall_mem.1 ⟨
      fun hwaits h hl => refusesJob_edit (body := selectJob) rfl h hwaits (hwrong h hl _),
      fun hwaits h hl => refusesJob_edit (body := applyJob) rfl h hwaits (hwrong h hl _),
      fun hwaits h hl => refusesJob_edit (body := abandonJob) rfl h hwaits (hwrong h hl _)⟩
  case tableLengths =>
    have hwrong {n : TableId → Nat} {code : Byte} (h : InOpenSession s) (hl : l.length + 1 ≠ n t)
        (v : TableId → Verdict) :
        onTable code (idleRestarted s) (fun t => sized (n t) (code :: l) (v t)) = .refused 0x11 [0xFF] :=
      (onTable_current h ht ..).trans (sized_wrong (p := code :: l) hl _)
    exact List.forall_iff_forall_mem.1 ⟨
      fun hwaits h hl => refusesJob_edit (body := seekJob) rfl h hwaits (hwrong h hl _),
      fun hwaits h hl => refusesJob_edit (body := writeJob) rfl h hwaits (hwrong h hl _),
      fun hwaits h hl => refusesJob_edit (body := exchangeJob) rfl h hwaits (hwrong h hl _),
      fun hwaits h hl => refusesJob_edit (body := readAtJob) rfl h hwaits (hwrong h hl _)⟩
  case units =>
    exact ⟨servesJob_readUnit.refuses_unit hcalm ha rfl, servesJob_readStage.refuses_unit hcalm ha rfl,
      servesJob_clearTrip.refuses_unit hcalm ha rfl, servesJob_forceStage.refuses_unit hcalm ha rfl,
      servesJob_isolate.refuses_unit hcalm ha rfl, servesJob_restore.refuses_unit hcalm ha rfl⟩
  case slot => exact servesJob_readStage.refuses hcalm hwaits rfl (readStageJob_noSlot s hlow hhigh hb)
  case history => exact servesJob_readHistory.refuses hcalm hwaits rfl (readHistoryJob_outside s ha)
  case minutes => exact servesJob_drBegin.refuses hcalm hwaits rfl (drBeginJob_outside s hcd)

end Sys2Proof.Machine

namespace Sys2Proof.Machine

/-! ## The checks of APPLY in their order (R163) -/

/-- Records taken in ascending index: the first that meets the condition is found. -/
theorem find?_finRange_first {n : Nat} {f : Fin n → Bool} {i : Fin n} (hi : f i = true)
    (hbefore : ∀ j < i, f j = false) : (List.finRange n).find? f = some i := by
  refine List.find?_eq_some_iff_getElem.2 ⟨hi, i.val, by simp, by simp, fun j hj => ?_⟩
  have hnot := hbefore ⟨j, hj.trans i.isLt⟩ hj
  simpa using hnot

theorem find?_finRange_none {n : Nat} {f : Fin n → Bool} (h : ∀ i, f i = false) :
    (List.finRange n).find? f = none :=
  List.find?_eq_none.2 fun i _ => Bool.eq_false_iff.1 (h i)

/-! ### Checks 1 to 4 -/

theorem roofValid_iff (r : RoofRec) : roofValid r = true ↔
    r.intervalLength % 60 = 0 ∧ r.controllerRate ≤ 4 ∧ r.trunkRate ≤ 2 ∧ r.coolLow ≤ r.coolHigh ∧
      r.heatLow ≤ r.heatHigh := by
  simp [roofValid, and_assoc]

theorem unitValid_iff (t : Tables) (u : UnitIx) : unitValid t u = true ↔ (t.units[u].fitted = true →
    ∀ (i : Slot) (p : Fin 8), t.units[u].bind[i] = some p →
      t.profiles[p].kind = (if i.val < 4 then .cool else .heat)) := by
  simp only [unitValid, Bool.or_eq_true, Bool.not_eq_true', List.all_eq_true, mem_allSlots, true_imp_iff]
  rw [← Bool.not_eq_true, ← imp_iff_not_or]
  refine imp_congr_right fun _ => forall_congr' fun i => ?_
  cases t.units[u].bind[i] with
  | none => simp
  | some q => exact decide_eq_true_iff.trans ⟨fun h p hp => Option.some.inj hp ▸ h, fun h => h q rfl⟩

section
variable {t : Tables}

theorem invalidTable_roof (h : ¬roofValid t.roof = true) : invalidTable t = some [0, 0] :=
  if_pos (by simpa using h)

section
variable (hroof : roofValid t.roof = true)
include hroof

theorem invalidTable_unit {u : UnitIx} (h : allUnits.find? (fun u => !unitValid t u) = some u) :
    invalidTable t = some [1, BitVec.ofNat 8 u.val] := by
  simp only [invalidTable, hroof, h]
  rfl

variable (hunits : allUnits.find? (fun u => !unitValid t u) = none)
include hunits

theorem invalidTable_group {g : Fin 8}
    (h : (List.finRange 8).find? (fun g => decide (t.rotation[g].follow = some g)) = some g) :
    invalidTable t = some [4, BitVec.ofNat 8 g.val] := by
  simp only [invalidTable, hroof, hunits, h]
  rfl

theorem invalidTable_bands (h : (List.finRange 8).find? (fun g => decide (t.rotation[g].follow = some g)) = none) :
    invalidTable t = ((List.finRange 16).find? fun b => decide (t.bands[b].high < t.bands[b].low)).map
      fun b => [5, BitVec.ofNat 8 b.val] := by
  simp only [invalidTable, hroof, hunits, h]
  cases (List.finRange 16).find? fun b => decide (t.bands[b].high < t.bands[b].low) <;> rfl

end
end

/-! ### Checks 5 and 6 -/

/-- R163: the slot is off in both maps and not TRIPPED_LATCHED. -/
def OutOfUse (r : UnitRec) (i : Slot) : Prop :=
  r.target.has i = false ∧ r.ack.has i = false ∧ r.stages[i].state ≠ .trippedLatched

theorem mayUnfit_iff (r : UnitRec) : mayUnfit r = true ↔ r.isolated = true ∧ ∀ i, OutOfUse r i := by
  simp [mayUnfit, mem_allSlots, onInEither, OutOfUse, and_assoc]

theorem mayUnbind_iff (r : UnitRec) (i : Slot) :
    mayUnbind r i = true ↔ OutOfUse r i ∧ r.stages[i].state.isOn = false := by
  simp only [mayUnbind, onInEither, OutOfUse, Bool.and_eq_true, Bool.not_eq_true', Bool.or_eq_false_iff,
    decide_eq_true_eq]
  tauto

/-- R163 check 5: the unit is to be unfitted while in use. -/
def unfitsInUse (old new : Tables) (p : Plant) (u : UnitIx) : Bool :=
  old.units[u].fitted && !new.units[u].fitted && !mayUnfit (p.unit u)

/-- R163 check 6: a slot of the unit is to be unbound while in use. -/
def unbindsInUse (old new : Tables) (p : Plant) (u : UnitIx) : Bool :=
  old.units[u].fitted && new.units[u].fitted && allSlots.any fun i =>
    old.units[u].bind[i].isSome && new.units[u].bind[i].isNone && !mayUnbind (p.unit u) i

section
variable {old new : Tables} {p : Plant} {u : UnitIx}

theorem unitInUse_eq (old new : Tables) (p : Plant) : unitInUse old new p =
    (allUnits.find? (unfitsInUse old new p)).or (allUnits.find? (unbindsInUse old new p)) := by
  change (match allUnits.find? (unfitsInUse old new p) with
    | some u => some u
    | none => allUnits.find? (unbindsInUse old new p)) = _
  cases allUnits.find? (unfitsInUse old new p) <;> rfl

theorem unfitsInUse_iff : unfitsInUse old new p u = true ↔
    (old.units[u].fitted = true ∧ new.units[u].fitted = false) ∧
      ¬((p.unit u).isolated = true ∧ ∀ i, OutOfUse (p.unit u) i) := by
  rw [← mayUnfit_iff]
  simp [unfitsInUse]

theorem unbindsInUse_iff : unbindsInUse old new p u = true ↔ ∃ i : Slot,
    (old.units[u].fitted = true ∧ new.units[u].fitted = true ∧ old.units[u].bind[i].isSome = true ∧
      new.units[u].bind[i] = none) ∧
    ¬(OutOfUse (p.unit u) i ∧ (p.unit u).stages[i].state.isOn = false) := by
  simp only [← mayUnbind_iff, unbindsInUse, Bool.and_eq_true, List.any_eq_true, mem_allSlots, true_and,
    Bool.not_eq_true', Option.isNone_iff_eq_none, Bool.not_eq_true]
  constructor
  · rintro ⟨⟨hold, hnew⟩, i, ⟨hbound, hfree⟩, hused⟩
    exact ⟨i, ⟨hold, hnew, hbound, hfree⟩, hused⟩
  · rintro ⟨i, ⟨hold, hnew, hbound, hfree⟩, hused⟩
    exact ⟨⟨hold, hnew⟩, i, ⟨hbound, hfree⟩, hused⟩

end

/-- Settles O51: each check is a search in ascending index, made when the searches in front of it found nothing. -/
theorem applyChecksTheTablesInOrder : Obligations.ApplyChecksTheTablesInOrder := by
  refine ⟨fun t => ?tables, fun old new p => ?use⟩
  case tables =>
    intro r roofOk unitOk groupOk bandOk
    have hroof : roofOk → roofValid t.roof = true := (roofValid_iff t.roof).2
    have hunit {u : UnitIx} (h : unitOk u) : (!unitValid t u) = false := by rw [(unitValid_iff t u).2 h]; rfl
    have hgroup {g : Fin 8} (h : groupOk g) : decide (t.rotation[g].follow = some g) = false := decide_eq_false h
    have hband {b : Fin 16} (h : bandOk b) : decide (t.bands[b].high < t.bands[b].low) = false :=
      decide_eq_false (not_lt.2 h)
    have hunits (h : ∀ v, unitOk v) : allUnits.find? (fun u => !unitValid t u) = none :=
      find?_finRange_none fun v => hunit (h v)
    have hgroups (h : ∀ v, groupOk v) :
        (List.finRange 8).find? (fun g => decide (t.rotation[g].follow = some g)) = none :=
      find?_finRange_none fun v => hgroup (h v)
    refine ⟨fun h => ?roof, fun u hr hbefore hbad => ?unit, fun g hr hu hbefore hbad => ?group,
      fun b hr hu hg hbefore hbad => ?band, fun hr hu hg hb => ?none⟩
    case roof => exact invalidTable_roof fun hvalid => h ((roofValid_iff t.roof).1 hvalid)
    case unit =>
      refine invalidTable_unit (hroof hr) (find?_finRange_first ?_ fun v hv => hunit (hbefore v hv))
      rw [Bool.not_eq_true', Bool.eq_false_iff]
      exact fun hvalid => hbad ((unitValid_iff t u).1 hvalid)
    case group =>
      exact invalidTable_group (hroof hr) (hunits hu)
        (find?_finRange_first (decide_eq_true (not_not.1 hbad)) fun v hv => hgroup (hbefore v hv))
    case band =>
      rw [invalidTable_bands (hroof hr) (hunits hu) (hgroups hg),
        find?_finRange_first (decide_eq_true (not_le.1 hbad)) fun v hv => hband (hbefore v hv)]
      rfl
    case none =>
      rw [invalidTable_bands (hroof hr) (hunits hu) (hgroups hg), find?_finRange_none fun v => hband (hb v)]
      rfl
  case use =>
    intro off unfits mayUnfit unbinds mayUnbind
    have hunfit {v : UnitIx} (h : unfits v → mayUnfit v) : unfitsInUse old new p v = false :=
      Bool.eq_false_iff.2 fun hused => (unfitsInUse_iff.1 hused).2 (h (unfitsInUse_iff.1 hused).1)
    have hunbind {v : UnitIx} (h : ∀ j, unbinds v j → mayUnbind v j) : unbindsInUse old new p v = false := by
      refine Bool.eq_false_iff.2 fun hused => ?_
      obtain ⟨j, hunbinds, hnot⟩ := unbindsInUse_iff.1 hused
      exact hnot (h j hunbinds)
    have hunfits (h : ∀ v, unfits v → mayUnfit v) : allUnits.find? (unfitsInUse old new p) = none :=
      find?_finRange_none fun v => hunfit (h v)
    refine ⟨fun u hbefore hunfits hused => ?unfitted, fun u i hfit hbefore hunbinds hused => ?unbound,
      fun hfit hbind => ?none⟩
    case unfitted =>
      have hfind : allUnits.find? (unfitsInUse old new p) = some u :=
        find?_finRange_first (unfitsInUse_iff.2 ⟨hunfits, hused⟩) fun v hv => hunfit (hbefore v hv)
      rw [unitInUse_eq, hfind]
      rfl
    case unbound =>
      rw [unitInUse_eq, hunfits hfit]
      exact find?_finRange_first (unbindsInUse_iff.2 ⟨i, hunbinds, hused⟩) fun v hv => hunbind (hbefore v hv)
    case none =>
      rw [unitInUse_eq, hunfits hfit]
      exact find?_finRange_none fun v => hunbind (hbind v)

end Sys2Proof.Machine

namespace Sys2Proof.Machine

/-! ## IDENTIFY and READ_ROOF (R157, 11.9) -/

theorem SessionState.toNat_code (st : SessionState) : (BitVec.ofNat 8 st.code).toNat = st.code := by
  cases st <;> rfl

theorem ConfigState.toNat_code (st : ConfigState) : (BitVec.ofNat 8 st.code).toNat = st.code := by
  cases st <;> rfl

/-- 11.9: IDENTIFY's two flags. -/
theorem packBits_pair (P : Prop) [Decidable P] (b : Bool) :
    packBits [decide P, b] = (if P then 1 else 0) ||| (if b then 2 else 0) := by
  by_cases h : P <;> cases b <;> simp only [h] <;> rfl

theorem fittedUnits_length_le (t : Tables) : (fittedUnits t).length ≤ 32 :=
  (List.length_filter_le ..).trans_eq List.length_finRange

/-- 11.9: the ceiling and the seconds of the job event, 0 without one. -/
theorem jobEventBytes_eq (now : Nat) (j : Option JobEvent) :
    jobEventBytes now j = le16 (j.elim 0 (·.ceiling)) ++ le16 (j.elim 0 (·.endTime - now)) := by
  cases j <;> rfl

/-- 11.9: READ_ROOF's payload, field by field. -/
def roofReport (s : State) : List Byte :=
  [[0x02], le16 s.meter.clock, le32 s.meter.energy, le16 s.meter.power, le16 s.meter.forecast,
    le16 (peakAverage s.meter.peakRecord), le16 s.shed.ceiling, le8 s.shed.level,
    le16 (s.shed.jobEvent.elim 0 (·.ceiling)), le16 (s.shed.jobEvent.elim 0 (·.endTime - s.seconds)),
    [packBits [s.meter.peakRecord.isSome, s.shed.jobEvent.isSome, s.shed.contact.isSome,
      s.lines.intervalSync.debounced, s.lines.drContact.debounced, s.lines.roofShutdown.debounced]],
    [packBits [s.lines.outputs[0], s.lines.outputs[1], s.lines.outputs[2], s.lines.outputs[3]]]].flatten

theorem readRoofBytes_eq (s : State) : 0x02 :: readRoofBytes s = roofReport s := by
  rw [readRoofBytes, jobEventBytes_eq]
  rfl

/-- Settles O41: every field is read where the payload was put together from it. -/
theorem roofJobsReportTheRoof : Obligations.RoofJobsReportTheRoof := by
  intro s req rest
  refine ⟨fun hwaits => ?identify, fun hwaits => ?readRoof⟩
  case identify =>
    refine ⟨0x01 :: identifyBytes s, exec_accepted (body := reading identifyBytes) rfl hwaits rfl rfl, rfl, rfl, rfl,
      rfl, ?units, ?config, ?session, packBits_pair ..⟩
    case units =>
      have hcount : (fittedUnits s.tables).length < 256 := (fittedUnits_length_le s.tables).trans_lt (by decide)
      exact (BitVec.toNat_ofNat ..).trans (Nat.mod_eq_of_lt hcount)
    case config =>
      refine s.jobs.config.toNat_code.trans ?_
      cases s.jobs.config <;> rfl
    case session =>
      refine s.jobs.session.state.toNat_code.trans ?_
      cases s.jobs.session.state <;> rfl
  case readRoof =>
    have hcommand := exec_accepted (c := .readRoof) (body := reading readRoofBytes) rfl hwaits rfl rfl
    rw [readRoofBytes_eq] at hcommand
    have hflag (i : Nat) (hi : i < 8) : (byteAt (roofReport s) 20).getLsbD i = [s.meter.peakRecord.isSome,
        s.shed.jobEvent.isSome, s.shed.contact.isSome, s.lines.intervalSync.debounced, s.lines.drContact.debounced,
        s.lines.roofShutdown.debounced].getD i false := packBits_getLsbD _ hi
    refine ⟨roofReport s, hcommand, rfl, rfl, u16At_le16 s.meter.clock, u32At_le32 s.meter.energy,
      u16At_le16 s.meter.power, u16At_le16 s.meter.forecast, ?peak, u16At_le16 s.shed.ceiling,
      BitVec.toNat_ofNat s.shed.level 8, ?ceiling, ?remaining, hflag 0 (by decide), hflag 1 (by decide),
      hflag 2 (by decide), hflag 3 (by decide), hflag 4 (by decide), hflag 5 (by decide), packBits_toNat_lt _,
      fun i => ?output, packBits_toNat_lt _⟩
    case peak =>
      refine (u16At_le16 (peakAverage s.meter.peakRecord)).trans ?_
      cases s.meter.peakRecord <;> rfl
    case ceiling =>
      refine (u16At_le16 (s.shed.jobEvent.elim 0 (·.ceiling))).trans ?_
      cases s.shed.jobEvent <;> rfl
    case remaining =>
      refine (u16At_le16 (s.shed.jobEvent.elim 0 (·.endTime - s.seconds))).trans ?_
      cases s.shed.jobEvent <;> rfl
    case output =>
      refine (packBits_getLsbD _ (i.isLt.trans (by decide))).trans ?_
      match i with
      | 0 => rfl
      | 1 => rfl
      | 2 => rfl
      | 3 => rfl

/-! ## READ_QUEUE, READ_HISTORY and READ_ERRORS (R156, R157, 11.9) -/

theorem entryBytes_length (n : Entry) : (entryBytes n).length = 5 := rfl

theorem historyBytes_length (h : HistoryRec) : (historyBytes h).length = 8 := rfl

theorem errorBytes_length (x : ErrorEntry) : (errorBytes x).length = 6 := rfl

theorem peakBytes_length (q : Option PeakRec) : (peakBytes q).length = 7 := by
  cases q <;> rfl

theorem Kind.toNat_code (k : Kind) : (BitVec.ofNat 8 k.code).toNat = k.code := by
  cases k <;> rfl

theorem SkipReason.toNat_code (r : SkipReason) : (BitVec.ofNat 8 r.code).toNat = r.code := by
  cases r <;> rfl

theorem CloseCause.toNat_code (c : CloseCause) : (BitVec.ofNat 8 c.code).toNat = c.code := by
  cases c <;> rfl

/-- 11.9: the fields of a start-queue entry, wherever it stands. -/
theorem entryRecord_fields {p : List Byte} {k : Nat} {n : Entry} (h : RecordAt p (2 + 5 * k) (entryBytes n)) :
    u8At p (2 + 5 * k) = n.unit.val + 1 ∧ u8At p (3 + 5 * k) = n.kind.code ∧
    u8At p (4 + 5 * k) = n.baseClass % 256 ∧ u8At p (5 + 5 * k) = n.currentClass % 256 ∧
    u8At p (6 + 5 * k) = n.skip.code := by
  have hlength := entryBytes_length n
  refine ⟨?unit, ?kind, ?baseClass, ?currentClass, ?skip⟩
  case unit => exact (h.u8At_eq (j := 0) (by omega) rfl).trans (toNat_unitAddr n.unit)
  case kind => exact (h.u8At_eq (j := 1) (by omega) (by omega)).trans n.kind.toNat_code
  case baseClass => exact (h.u8At_eq (j := 2) (by omega) (by omega)).trans (BitVec.toNat_ofNat ..)
  case currentClass => exact (h.u8At_eq (j := 3) (by omega) (by omega)).trans (BitVec.toNat_ofNat ..)
  case skip => exact (h.u8At_eq (j := 4) (by omega) (by omega)).trans n.skip.toNat_code

/-- 11.9: the fields of a history record, wherever it stands. -/
theorem historyRecord_fields {p : List Byte} {k : Nat} {h : HistoryRec}
    (hat : RecordAt p (10 + 8 * k) (historyBytes h)) :
    u16At p (10 + 8 * k) = h.average % 65536 ∧ u16At p (12 + 8 * k) = h.length % 65536 ∧
    u16At p (14 + 8 * k) = h.peak % 65536 ∧ u8At p (16 + 8 * k) = h.shedPeak % 256 ∧
    u8At p (17 + 8 * k) = h.cause.code := by
  have hlength := historyBytes_length h
  refine ⟨?average, ?length, ?peak, ?shedPeak, ?cause⟩
  case average => exact (hat.u16At_eq (j := 0) (by omega) rfl).trans (u16At_le16 _)
  case length => exact (hat.u16At_eq (j := 2) (by omega) (by omega)).trans (u16At_le16 _)
  case peak => exact (hat.u16At_eq (j := 4) (by omega) (by omega)).trans (u16At_le16 _)
  case shedPeak => exact (hat.u8At_eq (j := 6) (by omega) (by omega)).trans (BitVec.toNat_ofNat ..)
  case cause => exact (hat.u8At_eq (j := 7) (by omega) (by omega)).trans h.cause.toNat_code

/-- 11.9: the fields of an error list entry, wherever it stands. -/
theorem errorRecord_fields {p : List Byte} {k : Nat} {x : ErrorEntry} (h : RecordAt p (2 + 6 * k) (errorBytes x)) :
    byteAt p (2 + 6 * k) = x.job ∧ byteAt p (3 + 6 * k) = x.error ∧ u32At p (4 + 6 * k) = x.time % 4294967296 := by
  have hlength := errorBytes_length x
  exact ⟨h.byteAt_eq (j := 0) (by omega) rfl, h.byteAt_eq (j := 1) (by omega) (by omega),
    (h.u32At_eq (j := 2) (by omega) (by omega)).trans (u32At_le32 _)⟩

/-- 11.9: the fields of the peak-interval record, wherever it stands; 0 without one. -/
theorem peakRecord_fields {p : List Byte} {i : Nat} {q : Option PeakRec} (h : RecordAt p i (peakBytes q)) :
    u8At p i = (if q.isSome then 1 else 0) ∧ u16At p (i + 1) = q.elim 0 (·.average) % 65536 ∧
    u32At p (i + 3) = q.elim 0 (·.closeTime) % 4294967296 := by
  have hlength := peakBytes_length q
  rw [h.u8At_eq (j := 0) (n := i) (by omega) rfl, h.u16At_eq (j := 1) (by omega) rfl,
    h.u32At_eq (j := 3) (by omega) rfl]
  cases q with
  | none => exact ⟨rfl, rfl, rfl⟩
  | some q => exact ⟨rfl, u16At_le16 q.average, u32At_le32 q.closeTime⟩

/-- 11.9: READ_HISTORY's payload in front of its history records. -/
def historyHead (s : State) (first : Nat) : List Byte :=
  [0x06, BitVec.ofNat 8 s.meter.history.length, BitVec.ofNat 8 ((s.meter.history.drop first).take 4).length]
  ++ peakBytes s.meter.peakRecord

theorem readHistoryBytes_eq (s : State) (first : Nat) : 0x06 :: readHistoryBytes s first =
    historyHead s first ++ ((s.meter.history.drop first).take 4).flatMap historyBytes := by
  simp [readHistoryBytes, historyHead, le8]

theorem historyHead_length (s : State) (first : Nat) : (historyHead s first).length = 10 := by
  rw [historyHead, List.length_append, peakBytes_length]
  rfl

/-- 11.9: the peak-interval record stands behind the three counting bytes. -/
theorem historyHead_peak (s : State) (first : Nat) (records : List Byte) :
    RecordAt (historyHead s first ++ records) 3 (peakBytes s.meter.peakRecord) := by
  intro j hj
  rw [historyHead, List.append_assoc]
  exact byteAt_append_middle [_, _, _] _ records hj

theorem readHistoryJob_inside (s : State) {a : Byte} (h : a.toNat ≤ 7) :
    readHistoryJob [0x06, a] s = .accepted (readHistoryBytes s a.toNat) s := (sized_right rfl _).trans (if_pos h)

/-- Settles O43: each list's records stand behind its head, one length apart. -/
theorem listJobsReportTheirLists : Obligations.ListJobsReportTheirLists := by
  intro s req rest
  refine ⟨fun hwaits => ?queue, fun a ha hwaits => ?history, fun hwaits => ?errors⟩
  case queue =>
    refine ⟨0x05 :: readQueueBytes s, exec_accepted (body := reading readQueueBytes) rfl hwaits rfl rfl, ?length, rfl,
      BitVec.toNat_ofNat .., fun k n hk hn => ?record⟩
    case length =>
      have hrecords := length_flatMap_records entryBytes_length (s.plant.queue.take 8)
      rw [List.length_take] at hrecords
      exact (congrArg (· + 2) hrecords).trans (Nat.add_comm ..)
    case record =>
      obtain ⟨hunit, hkind, hbase, hcurrent, hskip⟩ :=
        entryRecord_fields (recordAt_flatMap (a := [0x05, BitVec.ofNat 8 s.plant.queue.length]) entryBytes_length
          ((List.getElem?_take_of_lt hk).trans hn) rfl rfl)
      refine ⟨hunit, hkind.trans ?_, hbase, hcurrent, hskip.trans ?_⟩
      · cases n.kind <;> rfl
      · cases n.skip <;> rfl
  case history =>
    let found := (s.meter.history.drop a.toNat).take 4
    let p := historyHead s a.toNat ++ found.flatMap historyBytes
    have hcommand := exec_accepted (c := .readHistory) (body := readHistoryJob) rfl hwaits
      (readHistoryJob_inside s ha) rfl
    rw [readHistoryBytes_eq] at hcommand
    have hfound : found.length = min 4 (s.meter.history.length - a.toNat) := by
      rw [List.length_take, List.length_drop]
    have hfew : found.length < 256 := (List.length_take_le ..).trans_lt (by decide)
    have hcount : u8At p 2 = found.length := (BitVec.toNat_ofNat ..).trans (Nat.mod_eq_of_lt hfew)
    obtain ⟨hpresent, haverage, htime⟩ :=
      peakRecord_fields (historyHead_peak s a.toNat (found.flatMap historyBytes))
    refine ⟨p, hcommand, rfl, BitVec.toNat_ofNat .., hcount.trans hfound, ?length, hpresent, fun q hq => ?peak,
      fun hnone => ?noPeak, fun k h hk hh => ?record⟩
    case length =>
      rw [hcount, List.length_append, historyHead_length, length_flatMap_records historyBytes_length]
    case peak =>
      rw [hq] at haverage htime
      exact ⟨haverage, htime⟩
    case noPeak =>
      rw [hnone] at haverage htime
      exact ⟨haverage, htime⟩
    case record =>
      have hrecord : found[k]? = some h := by
        rw [List.getElem?_take_of_lt hk, List.getElem?_drop, hh]
      obtain ⟨hmean, hlength, hmax, hshed, hcause⟩ := historyRecord_fields
        (recordAt_flatMap historyBytes_length hrecord (historyHead_length s a.toNat) rfl)
      refine ⟨hmean, hlength, hmax, hshed, hcause.trans ?_⟩
      cases h.cause <;> rfl
  case errors =>
    refine ⟨0x07 :: readErrorsBytes s, exec_accepted (body := readErrorsJob) rfl hwaits rfl rfl, ?length, rfl,
      BitVec.toNat_ofNat .., fun k x hx => ?record⟩
    case length =>
      have hrecords := length_flatMap_records errorBytes_length s.jobs.errors
      exact (congrArg (· + 2) hrecords).trans (Nat.add_comm ..)
    case record =>
      exact errorRecord_fields (recordAt_flatMap (a := [0x07, BitVec.ofNat 8 s.jobs.errors.length]) errorBytes_length
        hx rfl rfl)

end Sys2Proof.Machine

namespace Sys2Proof.Machine

/-! ## Records written and read back (R159, R162, 11.6, 11.8) -/

/-! ### Fields read from bytes and written again -/

theorem le8_u8At (l : List Byte) (o : Nat) : le8 (u8At l o) = [byteAt l o] := by
  rw [le8, u8At, BitVec.ofNat_toNat, BitVec.setWidth_eq]

theorem le16_u16At (l : List Byte) (o : Nat) : le16 (u16At l o) = [byteAt l o, byteAt l (o + 1)] := by
  have hlow : u8At l o < 256 := (byteAt l o).isLt
  have hfirst : BitVec.ofNat 8 (u16At l o) = byteAt l o := BitVec.eq_of_toNat_eq (by
    rw [BitVec.toNat_ofNat, u16At, ← u8At]
    omega)
  have hsecond : u16At l o / 256 = u8At l (o + 1) := by
    rw [u16At]
    omega
  rw [le16, hfirst, hsecond]
  exact congrArg _ (le8_u8At l (o + 1))

/-- The two halves of a 32-bit field. -/
theorem le32_eq (n : Nat) : le32 n = le16 n ++ le16 (n / 65536) := by
  rw [le32, le16, le16, Nat.div_div_eq_div_mul]
  rfl

theorem le16_congr {m n : Nat} (h : m % 65536 = n % 65536) : le16 m = le16 n := by
  have hlow : BitVec.ofNat 8 m = BitVec.ofNat 8 n := BitVec.eq_of_toNat_eq (by
    rw [BitVec.toNat_ofNat, BitVec.toNat_ofNat]
    omega)
  have hhigh : BitVec.ofNat 8 (m / 256) = BitVec.ofNat 8 (n / 256) := BitVec.eq_of_toNat_eq (by
    rw [BitVec.toNat_ofNat, BitVec.toNat_ofNat]
    omega)
  rw [le16, le16, hlow, hhigh]

theorem le32_u32At (l : List Byte) (o : Nat) : le32 (BitVec.ofNat 32 (u32At l o)).toNat =
    [byteAt l o, byteAt l (o + 1), byteAt l (o + 2), byteAt l (o + 3)] := by
  have hlow := u16At_lt l o
  have hhigh := u16At_lt l (o + 2)
  have hvalue : (BitVec.ofNat 32 (u32At l o)).toNat = u16At l o + 65536 * u16At l (o + 2) := by
    rw [BitVec.toNat_ofNat, u32At]
    omega
  have hfirst : le16 (u16At l o + 65536 * u16At l (o + 2)) = le16 (u16At l o) := le16_congr (by omega)
  have hsecond : (u16At l o + 65536 * u16At l (o + 2)) / 65536 = u16At l (o + 2) := by omega
  rw [hvalue, le32_eq, hfirst, hsecond, le16_u16At, le16_u16At]
  rfl

theorem leInt8_s8At (l : List Byte) (o : Nat) : leInt8 (s8At l o) = [byteAt l o] := by
  rw [leInt8, s8At, BitVec.ofInt_toInt]

theorem leInt16_s16At (l : List Byte) (o : Nat) : leInt16 (s16At l o) = [byteAt l o, byteAt l (o + 1)] := by
  rw [leInt16, s16At, BitVec.ofInt_toInt, BitVec.toNat_ofNat, Nat.mod_eq_of_lt (u16At_lt l o), le16_u16At]

section
variable {l : List Byte} {o : Nat}

/-- A field of a byte that is written as its code. -/
theorem le8_code {n : Nat} (h : n = u8At l o) : le8 n = [byteAt l o] := h ▸ le8_u8At l o

/-- 11.6: a flag's byte. -/
theorem leBool_flag (h : u8At l o ≤ 1) : leBool (decide (u8At l o ≠ 0)) = [byteAt l o] := by
  rw [← le8_u8At]
  rcases Nat.le_one_iff_eq_zero_or_eq_one.1 h with hzero | hone
  · rw [hzero]
    rfl
  · rw [hone]
    rfl

/-- A number 0..7, or 0xFF for none. -/
theorem leOpt8_opt8At (h : u8At l o ≤ 7 ∨ u8At l o = 255) : leOpt8 (opt8At l o) = [byteAt l o] := by
  rw [← le8_u8At]
  rcases h with hnumber | hnone
  · rw [opt8At, dif_pos (Nat.lt_succ_of_le hnumber)]
    rfl
  · rw [opt8At, dif_neg (by omega), hnone]
    rfl

end

/-! ### The codes of a record's enumerations -/

/-- 11.8: the sync modes' codes. -/
def SyncMode.code : SyncMode → Nat
  | .freeRun => 0 | .meterSync => 1

/-- 11.6: the trip modes' codes. -/
def TripMode.code : TripMode → Nat
  | .auto => 0 | .latched => 1

/-- 11.6: the quantities' codes. -/
def Quantity.code : Quantity → Nat
  | .supply => 0 | .ret => 1 | .space => 2 | .outside => 3 | .delta => 4 | .damper => 5

/-- 11.6: the applies-when codes. -/
def AppliesWhen.code : AppliesWhen → Nat
  | .any => 0 | .coolingOn => 1 | .heatingOn => 2

/-- 11.6: the band actions' codes. -/
def BandAction.code : BandAction → Nat
  | .notice => 0 | .inhibit => 1 | .trip => 2

/-- 11.6: the notice classes' codes. -/
def NoticeClass.code : NoticeClass → Nat
  | .report => 0 | .quiet => 1 | .off => 2

/-- 11.6: the output modes' codes. -/
def OutputMode.code : OutputMode → Nat
  | .off => 0 | .on => 1 | .follow => 2

/-- 11.6: the output conditions' codes. -/
def OutputCondition.code : OutputCondition → Nat
  | .shedActive => 0 | .drActive => 1 | .anyLatched => 2 | .attention => 3 | .syncMissing => 4 | .anyOffline => 5

theorem policyBytes_eq (p : Policy) : policyBytes p = le8 p.mode.code ++ le8 p.strikeLimit ++ leBool p.blankable := rfl

theorem bandBytes_eq (b : BandRec) : bandBytes b = le8 b.quantity.code ++ le8 b.applies.code ++ le32 b.mask.toNat
    ++ leInt16 b.low ++ leInt16 b.high ++ le8 b.hysteresis ++ le16 b.settle ++ le8 b.action.code := rfl

theorem noticeClassBytes_eq (v : Vector NoticeClass 24) :
    noticeClassBytes v = v.toList.flatMap fun c => le8 c.code := rfl

theorem outputBytes_eq (o : OutputRec) : outputBytes o = le8 o.mode.code ++ le8 o.condition.code := rfl

theorem roofBytes_eq (r : RoofRec) : roofBytes r =
    le16 r.intervalLength ++ le8 r.syncMode.code ++ le16 r.syncGrace
    ++ le16 r.ceiling ++ le16 r.restoreHysteresis ++ le16 r.admissionReserve ++ le16 r.stepTime
    ++ le16 r.restoreHold ++ le16 r.drDefaultCeiling ++ le8 r.staggerTime ++ le16 r.agingTime
    ++ le16 r.replyTimeout ++ le8 r.retryCount ++ le8 r.offlineThreshold ++ le8 r.refreshInterval
    ++ le8 r.offlinePollInterval ++ le8 r.staleLimit ++ le8 r.controllerRate ++ le8 r.trunkRate
    ++ le16 r.strikeWindow ++ policyBytes r.bandPolicy ++ leInt16 r.coolLow ++ leInt16 r.coolHigh
    ++ leInt16 r.heatLow ++ leInt16 r.heatHigh ++ le16 r.swapThreshold := rfl

/-- An enumeration of two values, coded 0 and 1. -/
theorem code_of_two {α : Type} {f : α → Nat} {a b : α} (ha : f a = 0) (hb : f b = 1) {n : Nat} (hn : n ≤ 1) :
    f (if n = 0 then a else b) = n := by
  split <;> omega

theorem quantityOf_code {n : Nat} (h : n ≤ 5) : (quantityOf n).code = n := by
  interval_cases n <;> rfl

theorem appliesOf_code {n : Nat} (h : n ≤ 2) : (appliesOf n).code = n := by
  interval_cases n <;> rfl

theorem actionOf_code {n : Nat} (h : n ≤ 2) : (actionOf n).code = n := by
  interval_cases n <;> rfl

theorem noticeClassOf_code {n : Nat} (h : n ≤ 2) : (noticeClassOf n).code = n := by
  interval_cases n <;> rfl

theorem outputModeOf_code {n : Nat} (h : n ≤ 2) : (outputModeOf n).code = n := by
  interval_cases n <;> rfl

theorem outputConditionOf_code {n : Nat} (h : n ≤ 5) : (outputConditionOf n).code = n := by
  interval_cases n <;> rfl

/-! ### What a passed check says of a field -/

/-- R155: where no field fails, each is in its range. -/
theorem ok_of_firstBad {fs : List FieldSpec} {l : List Byte} (h : firstBad fs l = none) {f : FieldSpec}
    (hf : f ∈ fs) : f.ok l = true := by
  rw [firstBad_eq_firstOut, firstOut, Option.map_eq_none_iff, List.find?_eq_none] at h
  have hfield := h _ (List.mem_map_of_mem (f := FieldSpec.judged l) hf)
  rwa [Bool.not_eq_true', Bool.not_eq_false] at hfield

section
variable {fs : List FieldSpec} {l : List Byte} {o : Nat} (h : firstBad fs l = none)
include h

theorem byteField_le {low high : Int} (hf : byteField o low high ∈ fs) : (u8At l o : Int) ≤ high := by
  have hrange : (byteField o low high).ok l = decide (low ≤ (u8At l o : Int) ∧ (u8At l o : Int) ≤ high) :=
    congrArg Prod.snd (byteField_judged l o low high)
  exact (of_decide_eq_true (hrange.symm.trans (ok_of_firstBad h hf))).2

theorem byteField_flag (hf : byteField o 0 1 ∈ fs) : u8At l o ≤ 1 := Int.ofNat_le.1 (byteField_le h hf)

theorem orNone_range (hf : ⟨o, 1, false, 0, 7, some 255⟩ ∈ fs) : u8At l o ≤ 7 ∨ u8At l o = 255 := by
  have hrange : FieldSpec.ok ⟨o, 1, false, 0, 7, some 255⟩ l = decide (u8At l o ≤ 7 ∨ u8At l o = 255) :=
    congrArg Prod.snd (orNone_judged l o)
  exact of_decide_eq_true (hrange.symm.trans (ok_of_firstBad h hf))

end

/-! ### Each table's record -/

/-- R136: the three bytes of a trip policy. -/
theorem policyBytes_policyAt {l : List Byte} {o : Nat} (hmode : u8At l o ≤ 1) (hblankable : u8At l (o + 2) ≤ 1) :
    policyBytes (policyAt l o) = [byteAt l o, byteAt l (o + 1), byteAt l (o + 2)] := by
  have hcode : le8 (policyAt l o).mode.code = [byteAt l o] := le8_code (code_of_two (f := TripMode.code) rfl rfl hmode)
  have hflag : leBool (policyAt l o).blankable = [byteAt l (o + 2)] := leBool_flag hblankable
  rw [policyBytes_eq, hcode, hflag, policyAt, le8_u8At]
  rfl

section
variable {l : List Byte}

theorem roofBytes_roofOf (h : firstBad roofFields l = none) :
    roofBytes (roofOf l) = (List.range 44).map (byteAt l) := by
  have hmode : le8 (roofOf l).syncMode.code = [byteAt l 2] :=
    le8_code (code_of_two (f := SyncMode.code) rfl rfl (byteField_flag (o := 2) h (by decide)))
  have hpolicy : policyBytes (roofOf l).bandPolicy = [byteAt l 31, byteAt l 32, byteAt l 33] :=
    policyBytes_policyAt (byteField_flag h (by decide)) (byteField_flag h (by decide))
  rw [roofBytes_eq, hmode, hpolicy]
  simp only [roofOf, le8_u8At, le16_u16At, leInt16_s16At, List.cons_append, List.nil_append]
  rfl

theorem unitBytes_unitOf (h : firstBad unitFields l = none) :
    unitBytes (unitOf l) = (List.range 19).map (byteAt l) := by
  have hfitted : leBool (unitOf l).fitted = [byteAt l 0] := leBool_flag (byteField_flag h (by decide))
  have hpriority : le8 (unitOf l).priority.val = [byteAt l 1] := by
    have hclass := byteField_le (o := 1) (low := 0) (high := 3) h (by decide)
    exact le8_code (Nat.mod_eq_of_lt (by omega))
  have hbind (i : Slot) : leOpt8 (unitOf l).bind[i] = [byteAt l (6 + i.val)] := by
    have hfield : ∀ i : Slot, bindField (6 + i.val) ∈ unitFields := by decide
    have hslot : (unitOf l).bind[i] = opt8At l (6 + i.val) := tabulate_getElem _ i.val i.isLt
    rw [hslot, leOpt8_opt8At (orNone_range h (hfield i))]
  have hgroup : leOpt8 (unitOf l).group = [byteAt l 13] := leOpt8_opt8At (orNone_range h (by decide))
  have hlead : leBool (unitOf l).leadLag = [byteAt l 14] := leBool_flag (byteField_flag h (by decide))
  rw [unitBytes, hfitted, hpriority, hgroup, hlead]
  simp only [hbind]
  simp only [unitOf, le16_u16At, leInt8_s8At]
  rfl

theorem profileBytes_profileOf (h : firstBad (profileFields l) l = none) :
    profileBytes (profileOf l) = (List.range 11).map (byteAt l) := by
  have hkind : le8 (profileOf l).kind.code = [byteAt l 0] :=
    le8_code (code_of_two (f := Kind.code) rfl rfl
      (byteField_flag (o := 0) h (by unfold profileFields; split <;> simp)))
  have hinrush : leBool (profileOf l).inrush = [byteAt l 10] :=
    leBool_flag (byteField_flag h (by unfold profileFields; split <;> simp))
  rw [profileBytes, hkind, hinrush]
  simp only [profileOf, le8_u8At, le16_u16At]
  rfl

theorem shedBytes_shedOf (l : List Byte) : shedBytes (shedOf l) = (List.range 5).map (byteAt l) := by
  simp only [shedBytes, shedOf, tabulate_getElem, le8_u8At]
  rfl

theorem rotationBytes_rotationOf (h : firstBad rotationFields l = none) :
    rotationBytes (rotationOf l) = (List.range 3).map (byteAt l) := by
  have hfollow : leOpt8 (rotationOf l).follow = [byteAt l 2] := leOpt8_opt8At (orNone_range h (by decide))
  rw [rotationBytes, hfollow]
  simp only [rotationOf, le8_u8At]
  rfl

theorem bandBytes_bandOf (h : firstBad (bandFields l) l = none) :
    bandBytes (bandOf l) = (List.range 14).map (byteAt l) := by
  have hquantity : le8 (bandOf l).quantity.code = [byteAt l 0] :=
    le8_code (quantityOf_code (Int.ofNat_le.1 (byteField_le (low := 0) (high := 5) h (by simp [bandFields]))))
  have happlies : le8 (bandOf l).applies.code = [byteAt l 1] :=
    le8_code (appliesOf_code (Int.ofNat_le.1 (byteField_le (low := 0) (high := 2) h (by simp [bandFields]))))
  have haction : le8 (bandOf l).action.code = [byteAt l 13] :=
    le8_code (actionOf_code (Int.ofNat_le.1 (byteField_le (low := 0) (high := 2) h (by simp [bandFields]))))
  rw [bandBytes_eq, hquantity, happlies, haction]
  simp only [bandOf, le8_u8At, le16_u16At, le32_u32At, leInt16_s16At]
  rfl

theorem noticeClassBytes_classes (h : firstBad noticeClassFields l = none) :
    noticeClassBytes (tabulate fun k => noticeClassOf (u8At l k.val)) = (List.range 24).map (byteAt l) := by
  have hclass (k : Fin 24) : le8 (noticeClassOf (u8At l k.val)).code = [byteAt l k.val] := by
    have hrange := byteField_le h (List.mem_map_of_mem (List.mem_range.2 k.isLt))
    exact le8_code (noticeClassOf_code (by split at hrange <;> omega))
  have hlist : (tabulate fun k : Fin 24 => noticeClassOf (u8At l k.val)).toList =
      (List.finRange 24).map fun k => noticeClassOf (u8At l k.val) := List.ofFn_eq_map
  rw [noticeClassBytes_eq, hlist, List.flatMap_map]
  simp only [hclass]
  rfl

theorem policyBytes_policyOf (h : firstBad policyFields l = none) :
    policyBytes (policyAt l 0) = (List.range 3).map (byteAt l) :=
  policyBytes_policyAt (byteField_flag h (by decide)) (byteField_flag h (by decide))

theorem outputBytes_outputOf (h : firstBad outputFields l = none) :
    outputBytes (outputOf l) = (List.range 2).map (byteAt l) := by
  have hmode : le8 (outputOf l).mode.code = [byteAt l 0] :=
    le8_code (outputModeOf_code (Int.ofNat_le.1 (byteField_le (low := 0) (high := 2) h (by decide))))
  have hcondition : le8 (outputOf l).condition.code = [byteAt l 1] :=
    le8_code (outputConditionOf_code (Int.ofNat_le.1 (byteField_le (low := 0) (high := 5) h (by decide))))
  rw [outputBytes_eq, hmode, hcondition]
  rfl

end

/-- R162: the bytes of the record that `l` gives. -/
def rewritten (t : TableId) (l : List Byte) : List Byte :=
  match t with
  | .roof => roofBytes (roofOf l)
  | .unit => unitBytes (unitOf l)
  | .profile => profileBytes (profileOf l)
  | .shed => shedBytes (shedOf l)
  | .rotation => rotationBytes (rotationOf l)
  | .band => bandBytes (bandOf l)
  | .policy => policyBytes (policyAt l 0)
  | .noticeClass => noticeClassBytes (tabulate fun k => noticeClassOf (u8At l k.val))
  | .output => outputBytes (outputOf l)

/-- R162: a record that passes its checks gives the bytes it was read from. -/
theorem rewritten_eq {t : TableId} {l : List Byte} (h : firstBad (fieldsOf t l) l = none) :
    rewritten t l = (List.range (recordSize t)).map (byteAt l) := by
  cases t with
  | roof => exact roofBytes_roofOf h
  | unit => exact unitBytes_unitOf h
  | profile => exact profileBytes_profileOf h
  | shed => exact shedBytes_shedOf l
  | rotation => exact rotationBytes_rotationOf h
  | band => exact bandBytes_bandOf h
  | policy => exact policyBytes_policyOf h
  | noticeClass => exact noticeClassBytes_classes h
  | output => exact outputBytes_outputOf h

theorem map_byteAt_range (l : List Byte) : (List.range l.length).map (byteAt l) = l := by
  refine List.ext_getElem (by simp) fun k hk hk' => ?_
  simp [byteAt, hk']

/-! ### Where a record is put -/

section
variable (tabs : Tables) (l : List Byte) {t : TableId} {i j : Nat}

theorem recordBytes_putRecord_self (h : i < recordCount t) :
    recordBytes (putRecord tabs t i l) t i = rewritten t l := by
  cases t
  case roof => obtain rfl := Nat.lt_one_iff.1 h; rfl
  case noticeClass => obtain rfl := Nat.lt_one_iff.1 h; rfl
  all_goals
    simp only [recordCount] at h
    simp [putRecord, recordBytes, rewritten, h]

/-- R162: a record is put into its own table. -/
theorem putRecord_eq_copyTable (t : TableId) (i : Nat) :
    putRecord tabs t i l = copyTable t (putRecord tabs t i l) tabs := by
  cases t <;> (unfold putRecord; dsimp only; split <;> rfl)

theorem recordBytes_putRecord_table {other : TableId} (h : other ≠ t) (i k : Nat) :
    recordBytes (putRecord tabs t i l) other k = recordBytes tabs other k := by
  rw [putRecord_eq_copyTable, recordBytes_copyTable_other h]

/-- Nothing stands past a table's end. -/
theorem recordBytes_past (h : recordCount t ≤ j) : recordBytes tabs t j = [] := by
  cases t
  case roof => exact if_neg (Nat.ne_of_gt h)
  case noticeClass => exact if_neg (Nat.ne_of_gt h)
  all_goals exact dif_neg (Nat.not_lt.2 h)

theorem recordBytes_putRecord_other (hi : i < recordCount t) (h : j ≠ i) :
    recordBytes (putRecord tabs t i l) t j = recordBytes tabs t j := by
  rcases Nat.lt_or_ge j (recordCount t) with hj | hj
  · cases t
    case roof => exact absurd ((Nat.lt_one_iff.1 hj).trans (Nat.lt_one_iff.1 hi).symm) h
    case noticeClass => exact absurd ((Nat.lt_one_iff.1 hj).trans (Nat.lt_one_iff.1 hi).symm) h
    all_goals
      simp only [recordCount] at hi hj
      simp [putRecord, recordBytes, hi, hj, h.symm]
  · rw [recordBytes_past _ hj, recordBytes_past _ hj]

end

/-- Settles O50: the bytes are read into the record and written from it field by field. -/
theorem writtenRecordReadsBackAsSent : Obligations.WrittenRecordReadsBackAsSent := by
  intro tabs t i l hi hl hgood
  refine ⟨?readBack, fun other j hother => ?frame⟩
  case readBack => rw [recordBytes_putRecord_self tabs l hi, rewritten_eq hgood, ← hl, map_byteAt_range]
  case frame =>
    by_cases hsame : other = t
    · subst hsame
      exact recordBytes_putRecord_other tabs l hi (hother.resolve_left (not_not.2 rfl))
    · exact recordBytes_putRecord_table tabs l hsame i j

end Sys2Proof.Machine
